-- ==== Sys2Proof/Word.lean ====
section
/-! DEFINITION. The plainest types of the TC-620: bytes, text, and the numbers of its ports, channels and printers. -/

namespace Sys2Proof

/-- One byte of a station line (Table 9-2). -/
abbrev Byte := BitVec 8

/-- A text as the station lines carry it: its characters as bytes (Table 9-4). -/
abbrev Text := List Byte

/-- A station line port, P0 to P3. -/
abbrev PortId := Fin 4

/-- A scale channel, SC0 to SC3. -/
abbrev ChannelId := Fin 4

/-- A printer port, PR0 or PR1. -/
abbrev PrinterId := Fin 2

end Sys2Proof
end

