-- ==== Sys2Proof/Syntax.lean ====
section
/-! DEFINITION. The commands and events of the TC-620: one constructor for each row of spec/opcode_table.json. -/

namespace Sys2Proof

/-- The head status of a reading frame (1.2). `other` is any value that is none of the three (R1). -/
inductive HeadStatus where
  | ok
  | overrange
  | fault
  | other
deriving DecidableEq, Repr

/-- The five status values a printer reports (Table 7-1). -/
inductive PrinterReport where
  | ready
  | paperLow
  | paperOut
  | coverOpen
  | jammed
deriving DecidableEq, Repr

/-- What a printer's answer frame carries (Table 7-1). -/
inductive PrinterAnswer where
  | accepted
  | report (r : PrinterReport)
deriving DecidableEq, Repr

/-- Why the receiver abandons a frame at a byte (R175). -/
inductive AbandonCause where
  | badLength
  | badCheck
  | stopBitError
deriving DecidableEq, Repr

/-- A command packet as it arrives (Table 9-3): its port, its tag, and its parameter bytes.
The command code is the constructor of `Instr` that carries the packet (Table 9-9). -/
structure Packet where
  port : PortId
  tag : Byte
  params : List Byte
deriving DecidableEq, Repr

/-- The commands and events of the part, one constructor for each row of spec/opcode_table.json. -/
inductive Instr where
  -- command packets, codes 1 to 47 of Table 9-9
  | readStatus (k : Packet)
  | portReset (k : Packet)
  | configurePort (k : Packet)
  | setOption (k : Packet)
  | clearFault (k : Packet)
  | systemReset (k : Packet)
  | configureScale (k : Packet)
  | zero (k : Packet)
  | readScale (k : Packet)
  | openTicket (k : Packet)
  | addLine (k : Packet)
  | removeLine (k : Packet)
  | setDeduction (k : Packet)
  | keyWeight (k : Packet)
  | acceptMargin (k : Packet)
  | capture (k : Packet)
  | voidTicket (k : Packet)
  | reopenTicket (k : Packet)
  | readTicket (k : Packet)
  | listTickets (k : Packet)
  | storeTare (k : Packet)
  | dropTare (k : Packet)
  | readTare (k : Packet)
  | useStoredTare (k : Packet)
  | editRule (k : Packet)
  | commitPrices (k : Packet)
  | discardPrices (k : Packet)
  | readRule (k : Packet)
  | closeTicket (k : Packet)
  | setClock (k : Packet)
  | releaseHold (k : Packet)
  | float (k : Packet)
  | lift (k : Packet)
  | readDrawer (k : Packet)
  | pay (k : Packet)
  | lockPrinter (k : Packet)
  | unlockPrinter (k : Packet)
  | cancelJob (k : Packet)
  | printCopy (k : Packet)
  | setHeader (k : Packet)
  | readPrinter (k : Packet)
  | readTotals (k : Packet)
  | endDay (k : Packet)
  | subscribe (k : Packet)
  | releaseAttention (k : Packet)
  | readAttention (k : Packet)
  | clearOverflow (k : Packet)
  -- other packets and the station lines
  | unknownCommand (k : Packet) (code : Byte)
  | discardedPacket (p : PortId) (body : List Byte)
  | frameAbandoned (p : PortId) (cause : AbandonCause)
  | interByteTimeout (p : PortId)
  | frameSent (p : PortId)
  | attentionHandover (p : PortId)
  -- the scale lines
  | readingFrame (c : ChannelId) (raw : Int) (status : HeadStatus) (checkHolds : Bool)
  | staleExpiry (c : ChannelId)
  | captureTimeout (c : ChannelId)
  -- the printer lines and the print engine's own steps
  | printerStatusFrame (r : PrinterId) (status : PrinterReport) (checkHolds : Bool)
  | printerAnswer (r : PrinterId) (answer : PrinterAnswer) (checkHolds : Bool)
  | answerTimerExpiry (r : PrinterId)
  | statusTimerExpiry (r : PrinterId)
  | arbiterTake (r : PrinterId)
  | owedReceiptService
  -- the clock
  | clockAdvance
  | holdExpiry (ticket : Nat)
  -- power, reset and the receiver's start byte
  | powerUp
  | mainSupplyFail
  | resetLineAssert
  | resetLineRelease
  | startByte (p : PortId)
  | batteryFailure
deriving DecidableEq, Repr

end Sys2Proof
end

