-- ==== Sys2Proof/WellFormed.lean ====
section
/-! DEFINITION. What a command or event must satisfy to be one the lines can carry. -/

namespace Sys2Proof

/-- A command packet fits a frame: its body, of tag, code and parameters, has at most 250 bytes (R175, Table 9-3). -/
def Packet.wf (k : Packet) : Bool := decide (k.params.length ≤ 248)

/-- Whether a code stands in Table 9-9. -/
def knownCode (code : Byte) : Bool := decide (1 ≤ code.toNat) && decide (code.toNat ≤ 47)

/-- The form of each row's operands: a packet fits a frame, an unknown command's code is not in Table 9-9,
a discarded body has 2 to 250 bytes (R175), and a hold expiry names a ticket number of 1 to 999,999 (Table 2-3). -/
def Instr.wf : Instr → Bool
  | .readStatus k | .portReset k | .configurePort k | .setOption k | .clearFault k | .systemReset k
  | .configureScale k | .zero k | .readScale k | .openTicket k | .addLine k | .removeLine k
  | .setDeduction k | .keyWeight k | .acceptMargin k | .capture k | .voidTicket k | .reopenTicket k
  | .readTicket k | .listTickets k | .storeTare k | .dropTare k | .readTare k | .useStoredTare k
  | .editRule k | .commitPrices k | .discardPrices k | .readRule k | .closeTicket k | .setClock k
  | .releaseHold k | .float k | .lift k | .readDrawer k | .pay k | .lockPrinter k | .unlockPrinter k
  | .cancelJob k | .printCopy k | .setHeader k | .readPrinter k | .readTotals k | .endDay k
  | .subscribe k | .releaseAttention k | .readAttention k | .clearOverflow k => k.wf
  | .unknownCommand k code => k.wf && !knownCode code
  | .discardedPacket _ body => decide (2 ≤ body.length) && decide (body.length ≤ 250)
  | .holdExpiry n => decide (1 ≤ n) && decide (n ≤ 999999)
  | .frameAbandoned _ _ | .interByteTimeout _ | .frameSent _ | .attentionHandover _
  | .readingFrame _ _ _ _ | .staleExpiry _ | .captureTimeout _
  | .printerStatusFrame _ _ _ | .printerAnswer _ _ _ | .answerTimerExpiry _ | .statusTimerExpiry _
  | .arbiterTake _ | .owedReceiptService | .clockAdvance
  | .powerUp | .mainSupplyFail | .resetLineAssert | .resetLineRelease | .startByte _ | .batteryFailure => true

end Sys2Proof
end

