-- ==== Sys2Proof/Decode.lean ====
section
/-! DEFINITION. The decoder of table words, which spells no command since the table gives its rows no bits, and
the reading of a packet body into its command (Tables 9-3 and 9-9). -/

namespace Sys2Proof

/-- The command a table word spells: none, since no row of spec/opcode_table.json has bits. -/
def decodeTableWord (_nbits _w : Nat) : Option Instr := none

/-- The command code of a row that is a command packet, and its packet (Table 9-9). -/
def Instr.command? : Instr → Option (Nat × Packet)
  | .readStatus k => some (1, k)
  | .portReset k => some (2, k)
  | .configurePort k => some (3, k)
  | .setOption k => some (4, k)
  | .clearFault k => some (5, k)
  | .systemReset k => some (6, k)
  | .configureScale k => some (7, k)
  | .zero k => some (8, k)
  | .readScale k => some (9, k)
  | .openTicket k => some (10, k)
  | .addLine k => some (11, k)
  | .removeLine k => some (12, k)
  | .setDeduction k => some (13, k)
  | .keyWeight k => some (14, k)
  | .acceptMargin k => some (15, k)
  | .capture k => some (16, k)
  | .voidTicket k => some (17, k)
  | .reopenTicket k => some (18, k)
  | .readTicket k => some (19, k)
  | .listTickets k => some (20, k)
  | .storeTare k => some (21, k)
  | .dropTare k => some (22, k)
  | .readTare k => some (23, k)
  | .useStoredTare k => some (24, k)
  | .editRule k => some (25, k)
  | .commitPrices k => some (26, k)
  | .discardPrices k => some (27, k)
  | .readRule k => some (28, k)
  | .closeTicket k => some (29, k)
  | .setClock k => some (30, k)
  | .releaseHold k => some (31, k)
  | .float k => some (32, k)
  | .lift k => some (33, k)
  | .readDrawer k => some (34, k)
  | .pay k => some (35, k)
  | .lockPrinter k => some (36, k)
  | .unlockPrinter k => some (37, k)
  | .cancelJob k => some (38, k)
  | .printCopy k => some (39, k)
  | .setHeader k => some (40, k)
  | .readPrinter k => some (41, k)
  | .readTotals k => some (42, k)
  | .endDay k => some (43, k)
  | .subscribe k => some (44, k)
  | .releaseAttention k => some (45, k)
  | .readAttention k => some (46, k)
  | .clearOverflow k => some (47, k)
  | .unknownCommand k code => some (code.toNat, k)
  | .discardedPacket _ _ | .frameAbandoned _ _ | .interByteTimeout _ | .frameSent _ | .attentionHandover _
  | .readingFrame _ _ _ _ | .staleExpiry _ | .captureTimeout _
  | .printerStatusFrame _ _ _ | .printerAnswer _ _ _ | .answerTimerExpiry _ | .statusTimerExpiry _
  | .arbiterTake _ | .owedReceiptService | .clockAdvance | .holdExpiry _
  | .powerUp | .mainSupplyFail | .resetLineAssert | .resetLineRelease | .startByte _ | .batteryFailure => none

/-- The body of the packet a command row stands for: tag, code, parameters (Table 9-3). -/
def Instr.body? (i : Instr) : Option (List Byte) :=
  i.command?.map fun (code, k) => k.tag :: BitVec.ofNat 8 code :: k.params

/-- The command of a code of Table 9-9 with its packet; any other code is an unknown command (R177). -/
def commandOfCode (code : Byte) (k : Packet) : Instr :=
  match code.toNat with
  | 1 => .readStatus k
  | 2 => .portReset k
  | 3 => .configurePort k
  | 4 => .setOption k
  | 5 => .clearFault k
  | 6 => .systemReset k
  | 7 => .configureScale k
  | 8 => .zero k
  | 9 => .readScale k
  | 10 => .openTicket k
  | 11 => .addLine k
  | 12 => .removeLine k
  | 13 => .setDeduction k
  | 14 => .keyWeight k
  | 15 => .acceptMargin k
  | 16 => .capture k
  | 17 => .voidTicket k
  | 18 => .reopenTicket k
  | 19 => .readTicket k
  | 20 => .listTickets k
  | 21 => .storeTare k
  | 22 => .dropTare k
  | 23 => .readTare k
  | 24 => .useStoredTare k
  | 25 => .editRule k
  | 26 => .commitPrices k
  | 27 => .discardPrices k
  | 28 => .readRule k
  | 29 => .closeTicket k
  | 30 => .setClock k
  | 31 => .releaseHold k
  | 32 => .float k
  | 33 => .lift k
  | 34 => .readDrawer k
  | 35 => .pay k
  | 36 => .lockPrinter k
  | 37 => .unlockPrinter k
  | 38 => .cancelJob k
  | 39 => .printCopy k
  | 40 => .setHeader k
  | 41 => .readPrinter k
  | 42 => .readTotals k
  | 43 => .endDay k
  | 44 => .subscribe k
  | 45 => .releaseAttention k
  | 46 => .readAttention k
  | 47 => .clearOverflow k
  | _ => .unknownCommand k code

/-- The command row that a packet body spells at a port; a body of fewer than two bytes is no packet (R175). -/
def decodeBody (p : PortId) : List Byte → Option Instr
  | tag :: code :: params => some (commandOfCode code { port := p, tag := tag, params := params })
  | [_] => none
  | [] => none

end Sys2Proof
end

