-- ==== Sys2Proof/Machine/Records.lean ====
section
/-! DEFINITION. The enumerations and records of the TC-620, one type for each table of the manual that names one,
with the enumeration values of Table 9-5 and the codes of Tables 9-11 and 9-12. -/

namespace Sys2Proof.Machine

/-! ### Enumerations (Table 9-5) -/

/-- The role of a port (9.7). -/
inductive Role where
  | supervisor
  | scalehouse
  | yard
  | payout
deriving DecidableEq, Repr

/-- Customer classes (2.6). -/
inductive CustomerClass where
  | walkin
  | account
  | dealer
  | demolition
deriving DecidableEq, Repr

/-- Ticket states (Table 2-4). -/
inductive TicketState where
  | opened
  | held
  | payable
  | paid
  | voided
deriving DecidableEq, Repr

/-- Channel states (Table 1-4). -/
inductive ChannelState where
  | off
  | noData
  | motion
  | stable
deriving DecidableEq, Repr

/-- Reading classes (Table 1-3). -/
inductive ReadingClass where
  | normal
  | margin
  | under
  | over
deriving DecidableEq, Repr

/-- Where a weighing comes from (Table 2-1). -/
inductive Source where
  | scale (c : ChannelId)
  | keyed
  | stored
deriving DecidableEq, Repr

/-- The role of a line capture (2.9). -/
inductive CaptureRole where
  | gross
  | tare
  | chain
deriving DecidableEq, Repr

/-- A weighing slot of a line, and the value of a capture mark (Table 2-2). -/
inductive Side where
  | gross
  | tare
deriving DecidableEq, Repr

/-- Payment methods (6.5). -/
inductive PayMethod where
  | cash
  | voucher
deriving DecidableEq, Repr

/-- Kinds of price rule (Table 4-2). -/
inductive RuleKind where
  | base
  | adjust
deriving DecidableEq, Repr

/-- The price banks (4.1). -/
inductive BankName where
  | active
  | pending
deriving DecidableEq, Repr

/-- The rounding mode (R94). -/
inductive RoundingMode where
  | nearest
  | down
deriving DecidableEq, Repr

/-- The source of READ TOTALS (8.3). -/
inductive TotalsSource where
  | live
  | report
deriving DecidableEq, Repr

/-- Printer status (Table 7-2). -/
inductive PrinterStatus where
  | unknown
  | ready
  | paperLow
  | paperOut
  | coverOpen
  | jammed
  | offline
deriving DecidableEq, Repr

/-- A printer's lock with its holding port (7.8). -/
inductive Lock where
  | none
  | pending (holder : PortId)
  | locked (holder : PortId)
deriving DecidableEq, Repr

/-- The receipts a ticket may owe (Table 2-3). -/
inductive TicketReceipt where
  | settlement
  | payout
  | voidNotice
deriving DecidableEq, Repr

/-- Job kinds; a copy carries the kind copied (Table 7-3). -/
inductive JobKind where
  | ticket (receipt : TicketReceipt)
  | copy (of : TicketReceipt)
  | dayReport
deriving DecidableEq, Repr

/-- Job states (Table 7-7). -/
inductive JobState where
  | queued
  | taken
  | printing
deriving DecidableEq, Repr

/-- How a job leaves the pool (Table 10-1). -/
inductive JobOutcome where
  | printed
  | aborted
  | cancelled
deriving DecidableEq, Repr

/-- Attention kinds, with bit k of a subscription set for kind k (R189). -/
inductive AttentionKind where
  | scale
  | ticket
  | job
  | printer
  | prices
deriving DecidableEq, Repr

/-- The device settings (Table 9-14). -/
inductive Setting where
  | roundingMode
  | cashUnit
  | cashLimit
  | captureTimeout
  | tareExpiry
deriving DecidableEq, Repr

/-- Notes (Table 9-11), in bit order. -/
inductive Note where
  | marginWeight
  | priceClamped
  | clampedSetting
  | cashRounded
  | totalsSaturated
  | held
  | lockPending
deriving DecidableEq, Repr

/-- Reasons (Table 9-12). -/
inductive Reason where
  | busy
  | scaleBusy
  | noData
  | unstable
  | capturePending
  | poolFull
  | role
  | malformed
  | unknown
  | range
  | noTicket
  | state
  | tableFull
  | plateOpen
  | lineLimit
  | noLine
  | noLines
  | incompleteLine
  | invalidNet
  | marginUnaccepted
  | noPrice
  | weighed
  | scaleOff
  | zeroRequired
  | zeroRange
  | weightRange
  | belowMin
  | negativeTare
  | cancelled
  | noPlate
  | tareUnknown
  | tareExpired
  | notFound
  | noPending
  | onHold
  | cashLimit
  | drawerShort
  | drawerLimit
  | noDrawer
  | drawerNotEmpty
  | supervisorExists
  | notLocked
  | owedJob
  | jobStarted
  | noJob
  | reportOwed
deriving DecidableEq, Repr

/-- Receipt marks (Table 7-5). -/
inductive ReceiptMark where
  | keyed
  | marginAccepted
  | storedTare
  | priceClamped
  | recordsReset
  | reprint
  | copy
deriving DecidableEq, Repr

/-! ### Values of the enumerations on the station lines (Table 9-5) -/

/-- The value of a role in Table 9-5. -/
def Role.code : Role → Nat
  | .supervisor => 0
  | .scalehouse => 1
  | .yard => 2
  | .payout => 3

/-- The role of a value of Table 9-5; the value 4, NONE, is no role. -/
def Role.ofCode? : Nat → Option Role
  | 0 => some .supervisor
  | 1 => some .scalehouse
  | 2 => some .yard
  | 3 => some .payout
  | _ => none

/-- The value of a customer class in Table 9-5. -/
def CustomerClass.code : CustomerClass → Nat
  | .walkin => 0
  | .account => 1
  | .dealer => 2
  | .demolition => 3

/-- The customer class of a value of Table 9-5. -/
def CustomerClass.ofCode? : Nat → Option CustomerClass
  | 0 => some .walkin
  | 1 => some .account
  | 2 => some .dealer
  | 3 => some .demolition
  | _ => none

/-- The value of a ticket state in Table 9-5; RETIRED, 5, is no state of a ticket in the table. -/
def TicketState.code : TicketState → Nat
  | .opened => 0
  | .held => 1
  | .payable => 2
  | .paid => 3
  | .voided => 4

/-- The value of a channel state in Table 9-5. -/
def ChannelState.code : ChannelState → Nat
  | .off => 0
  | .noData => 1
  | .motion => 2
  | .stable => 3

/-- The value of a reading class in Table 9-5. -/
def ReadingClass.code : ReadingClass → Nat
  | .normal => 0
  | .margin => 1
  | .under => 2
  | .over => 3

/-- The value of a weighing source in Table 9-5. -/
def Source.code : Source → Nat
  | .scale c => c.val
  | .keyed => 4
  | .stored => 5

/-- The capture role of a value of Table 9-5. -/
def CaptureRole.ofCode? : Nat → Option CaptureRole
  | 0 => some .gross
  | 1 => some .tare
  | 2 => some .chain
  | _ => none

/-- The weighing slot of a value of Table 9-5; the value 0, none, names no slot. -/
def Side.ofCode? : Nat → Option Side
  | 1 => some .gross
  | 2 => some .tare
  | _ => none

/-- The value of a capture mark, 0 when there is none (Table 9-5). -/
def markCode : Option Side → Nat
  | none => 0
  | some .gross => 1
  | some .tare => 2

/-- The slot a capture role marks: GROSS for GROSS, TARE for TARE and CHAIN (R42). -/
def CaptureRole.side : CaptureRole → Side
  | .gross => .gross
  | .tare => .tare
  | .chain => .tare

/-- The value of a payment method in Table 9-5. -/
def PayMethod.code : PayMethod → Nat
  | .cash => 0
  | .voucher => 1

/-- The payment method of a value of Table 9-5. -/
def PayMethod.ofCode? : Nat → Option PayMethod
  | 0 => some .cash
  | 1 => some .voucher
  | _ => none

/-- The value of a rule kind in Table 9-5. -/
def RuleKind.code : RuleKind → Nat
  | .base => 0
  | .adjust => 1

/-- The rule kind of a value of Table 9-5. -/
def RuleKind.ofCode? : Nat → Option RuleKind
  | 0 => some .base
  | 1 => some .adjust
  | _ => none

/-- The bank of a value of Table 9-5. -/
def BankName.ofCode? : Nat → Option BankName
  | 0 => some .active
  | 1 => some .pending
  | _ => none

/-- The value of the rounding mode in Table 9-5. -/
def RoundingMode.code : RoundingMode → Nat
  | .nearest => 0
  | .down => 1

/-- The rounding mode of a value of Table 9-5. -/
def RoundingMode.ofCode? : Nat → Option RoundingMode
  | 0 => some .nearest
  | 1 => some .down
  | _ => none

/-- The totals source of a value of Table 9-5. -/
def TotalsSource.ofCode? : Nat → Option TotalsSource
  | 0 => some .live
  | 1 => some .report
  | _ => none

/-- The value of a printer status in Table 9-5. -/
def PrinterStatus.code : PrinterStatus → Nat
  | .unknown => 0
  | .ready => 1
  | .paperLow => 2
  | .paperOut => 3
  | .coverOpen => 4
  | .jammed => 5
  | .offline => 6

/-- The status a report sets (R130). -/
def PrinterStatus.ofReport : PrinterReport → PrinterStatus
  | .ready => .ready
  | .paperLow => .paperLow
  | .paperOut => .paperOut
  | .coverOpen => .coverOpen
  | .jammed => .jammed

/-- A printer is usable when its status is READY or PAPER_LOW (R132). -/
def PrinterStatus.usable : PrinterStatus → Bool
  | .ready | .paperLow => true
  | .unknown | .paperOut | .coverOpen | .jammed | .offline => false

/-- The value of a lock state in Table 9-5. -/
def Lock.code : Lock → Nat
  | .none => 0
  | .pending _ => 1
  | .locked _ => 2

/-- The holding port of a lock that is PENDING or LOCKED. -/
def Lock.holder? : Lock → Option PortId
  | .none => Option.none
  | .pending p => some p
  | .locked p => some p

/-- The value of an owed kind in Table 9-5. -/
def TicketReceipt.code : TicketReceipt → Nat
  | .settlement => 0
  | .payout => 1
  | .voidNotice => 2

/-- The value of a job kind in Table 9-5. -/
def JobKind.code : JobKind → Nat
  | .ticket k => k.code
  | .copy _ => 3
  | .dayReport => 4

/-- The kind a COPY job copies; absent for other kinds (Table 7-3). -/
def JobKind.copied? : JobKind → Option TicketReceipt
  | .copy k => some k
  | .ticket _ => none
  | .dayReport => none

/-- The value of a job state in Table 9-5. -/
def JobState.code : JobState → Nat
  | .queued => 0
  | .taken => 1
  | .printing => 2

/-- The value of a job outcome in Table 9-5. -/
def JobOutcome.code : JobOutcome → Nat
  | .printed => 0
  | .aborted => 1
  | .cancelled => 2

/-- The value of an attention kind in Table 9-5. -/
def AttentionKind.code : AttentionKind → Nat
  | .scale => 0
  | .ticket => 1
  | .job => 2
  | .printer => 3
  | .prices => 4

/-- The value of a setting in Table 9-5. -/
def Setting.code : Setting → Nat
  | .roundingMode => 0
  | .cashUnit => 1
  | .cashLimit => 2
  | .captureTimeout => 3
  | .tareExpiry => 4

/-- The setting of a value of Table 9-5. -/
def Setting.ofCode? : Nat → Option Setting
  | 0 => some .roundingMode
  | 1 => some .cashUnit
  | 2 => some .cashLimit
  | 3 => some .captureTimeout
  | 4 => some .tareExpiry
  | _ => none

/-- The bit of a note in Table 9-11. -/
def Note.bit : Note → Nat
  | .marginWeight => 0
  | .priceClamped => 1
  | .clampedSetting => 2
  | .cashRounded => 3
  | .totalsSaturated => 4
  | .held => 5
  | .lockPending => 6

/-- The code of a reason in Table 9-12. -/
def Reason.code : Reason → Nat
  | .busy => 1
  | .scaleBusy => 2
  | .noData => 3
  | .unstable => 4
  | .capturePending => 5
  | .poolFull => 6
  | .role => 16
  | .malformed => 17
  | .unknown => 18
  | .range => 19
  | .noTicket => 20
  | .state => 21
  | .tableFull => 22
  | .plateOpen => 23
  | .lineLimit => 24
  | .noLine => 25
  | .noLines => 26
  | .incompleteLine => 27
  | .invalidNet => 28
  | .marginUnaccepted => 29
  | .noPrice => 30
  | .weighed => 31
  | .scaleOff => 32
  | .zeroRequired => 33
  | .zeroRange => 34
  | .weightRange => 35
  | .belowMin => 36
  | .negativeTare => 37
  | .cancelled => 38
  | .noPlate => 39
  | .tareUnknown => 40
  | .tareExpired => 41
  | .notFound => 42
  | .noPending => 43
  | .onHold => 44
  | .cashLimit => 45
  | .drawerShort => 46
  | .drawerLimit => 47
  | .noDrawer => 48
  | .drawerNotEmpty => 49
  | .supervisorExists => 50
  | .notLocked => 51
  | .owedJob => 52
  | .jobStarted => 53
  | .noJob => 54
  | .reportOwed => 55

/-- The reasons whose outcome is RETRY in Table 9-12; every other is REFUSED. -/
def Reason.isRetry : Reason → Bool
  | .busy | .scaleBusy | .noData | .unstable | .capturePending | .poolFull => true
  | .role | .malformed | .unknown | .range | .noTicket | .state | .tableFull | .plateOpen | .lineLimit
  | .noLine | .noLines | .incompleteLine | .invalidNet | .marginUnaccepted | .noPrice | .weighed
  | .scaleOff | .zeroRequired | .zeroRange | .weightRange | .belowMin | .negativeTare | .cancelled
  | .noPlate | .tareUnknown | .tareExpired | .notFound | .noPending | .onHold | .cashLimit
  | .drawerShort | .drawerLimit | .noDrawer | .drawerNotEmpty | .supervisorExists | .notLocked
  | .owedJob | .jobStarted | .noJob | .reportOwed => false

/-! ### Time -/

/-- A clock time: a day of 1 to 65,535 and a second of day of 0 to 86,399 (R107). -/
structure ClockTime where
  day : Nat
  second : Nat
deriving DecidableEq, Repr

/-- One time is not later than another: day first, then second (R107). -/
def ClockTime.notLater (a b : ClockTime) : Bool :=
  decide (a.day < b.day) || (decide (a.day = b.day) && decide (a.second ≤ b.second))

/-! ### Weighings, lines and tickets (chapters 2, 5, 6, 7) -/

/-- A weighing record (Table 2-1). `margin` is its class: MARGIN when true, NORMAL when false. -/
structure Weighing where
  weight : Nat
  margin : Bool
  source : Source
  number : Nat
  time : ClockTime
deriving DecidableEq, Repr

/-- The marks of a line (R95). -/
structure LineMarks where
  keyed : Bool
  margin : Bool
  stored : Bool
  clamped : Bool
deriving DecidableEq, Repr

/-- A pricing record (Table 5-1). -/
structure Pricing where
  slot : Fin 32
  base : Nat
  adjust : Int
  effective : Nat
  clamped : Bool
  label : Text
  permille : Nat
  net : Nat
  deduction : Nat
  payable : Nat
  amount : Nat
  marks : LineMarks
deriving DecidableEq, Repr

/-- A line record (Table 2-2). Its position is its place in the ticket's list of lines. -/
structure Line where
  grade : Nat
  gross : Option Weighing
  tare : Option Weighing
  deduction : Option Nat
  mark : Option Side
  pricing : Option Pricing
deriving DecidableEq, Repr

/-- A line as ADD LINE makes it (R35). -/
def Line.fresh (grade : Nat) : Line :=
  { grade := grade, gross := none, tare := none, deduction := none, mark := none, pricing := none }

/-- A settlement record (Table 5-2). -/
structure Settlement where
  closed : ClockTime
  generation : Nat
  total : Nat
  release : Option ClockTime
deriving DecidableEq, Repr

/-- A payout record (R124). -/
structure Payout where
  method : PayMethod
  amount : Nat
  rounding : Int
  port : PortId
  time : ClockTime
deriving DecidableEq, Repr

/-- An owed receipt of a ticket (Table 2-3, R135). -/
structure Owed where
  kind : TicketReceipt
  printer : PrinterId
  port : PortId
  stamp : Nat
  started : Bool
deriving DecidableEq, Repr

/-- A ticket record (Table 2-3). -/
structure Ticket where
  number : Nat
  state : TicketState
  customerClass : CustomerClass
  customer : Option Text
  plate : Option Text
  openedAt : ClockTime
  openedBy : PortId
  lines : List Line
  marginAccepted : Bool
  settlement : Option Settlement
  payout : Option Payout
  owed : Option Owed
  settlementPrinted : Bool
  voidReason : Option Nat
  voidPort : Option PortId
deriving DecidableEq, Repr

/-- A vehicle tare entry (Table 3-1). -/
structure TareEntry where
  plate : Text
  tare : Weighing
  channel : ChannelId
deriving DecidableEq, Repr

/-! ### Price rules (Table 4-2) -/

/-- A rule record (Table 4-2, R69). Bit k of `classes` is the customer class of value k. -/
structure Rule where
  enabled : Bool
  kind : RuleKind
  pattern : Nat
  matchLength : Nat
  classes : BitVec 4
  label : Text
  price : Nat
  acceptsAdjustments : Bool
  defaultDeduction : Nat
  holdHours : Nat
  adjustment : Int
deriving DecidableEq, Repr

/-- A price bank: 32 rule slots (R68). -/
abbrev Bank := Vector Rule 32

/-! ### Scale channels (Table 1-1) -/

/-- A channel's configuration (Table 1-6). -/
structure ScaleConfig where
  enabled : Bool
  capacity : Nat
  division : Nat
  windowLength : Nat
  staleLimit : Nat
deriving DecidableEq, Repr

/-- A reading entry of the window (1.1). -/
structure Reading where
  raw : Int
  weight : Int
  readingClass : ReadingClass
deriving DecidableEq, Repr

/-- What a capture is for (1.1): a line of a ticket, which the owner follows when lines are renumbered (R36), or
a stored tare. `grade` is the grade of the line a CHAIN creates. -/
inductive CaptureOwner where
  | line (ticket position : Nat) (role : CaptureRole) (grade : Nat)
  | tare (plate : Text)
deriving DecidableEq, Repr

/-- A capture record in a channel's slot (1.1). -/
structure Capture where
  owner : CaptureOwner
  port : PortId
  tag : Byte
  expiry : Nat
deriving DecidableEq, Repr

/-- A scale channel (Table 1-1). -/
structure Channel where
  config : ScaleConfig
  zero : Int
  calZero : Option Int
  window : List Reading
  state : ChannelState
  zeroRequired : Bool
  stale : Option Nat
  slot : Option Capture
deriving DecidableEq, Repr

/-! ### Receipts, jobs and printers (chapter 7) -/

/-- The content of one line of a receipt: the fields Table 7-6 puts in it. -/
inductive ReceiptLine where
  | header (text : Text)
  | title (kind : JobKind)
  | ticketOpened (number : Nat) (port : PortId)
  | closeTime (time : Option ClockTime)
  | customer (customerClass : CustomerClass) (id : Option Text)
  | plate (plate : Option Text)
  | generationAndHold (generation : Option Nat) (release : Option ClockTime)
  | total (cents : Option Nat)
  | endWithTime (now : ClockTime)
  | endLine
  | lineGrade (position grade : Nat) (label : Option Text)
  | lineGross (gross : Option Weighing)
  | lineTare (tare : Option Weighing) (net : Option Nat)
  | lineFigures (figures : Option Pricing)
  | mark (m : ReceiptMark)
  | payMethod (method : Option PayMethod) (amount : Option Nat)
  | payRounding (payout : Option Payout)
  | closeAndGeneration (settled : Option (ClockTime × Nat))
  | voidReason (reason : Option Nat) (port : Option PortId)
  | dayNumber (day : Nat)
  | paidCount (n : Nat)
  | voidCount (n : Nat)
  | cashTotal (cents : Nat)
  | voucherTotal (cents : Nat)
  | roundingTotal (cents : Int)
  | saturatedState (set : Bool)
  | endDayTime (time : ClockTime)
  | separator
  | markLine (marks : List ReceiptMark)
  | slotLine (slot : Nat) (label : Text) (weight amount : Nat)
  | blank
deriving DecidableEq, Repr

/-- A frame sent on a printer line (Table 7-1). -/
inductive PrinterFrame where
  | begin
  | line (content : ReceiptLine)
  | fin
deriving DecidableEq, Repr

/-- What a job prints from (Table 7-3). A reprint-store entry is named by its place in the store. -/
inductive JobSource where
  | owed (ticket stamp : Nat)
  | copyTicket (ticket : Nat)
  | copySnapshot (place : Nat)
  | report (stamp : Nat)
deriving DecidableEq, Repr

/-- A job record (Table 7-3). `counted` are the header lines counted at creation, h their number (R134).
`markLine` are the marks a DAY_REPORT job names on its mark line (R134, R200).
`frozen` is the snapshot a job left running by REOPEN TICKET prints from (R139). -/
structure Job where
  id : Nat
  printer : PrinterId
  kind : JobKind
  source : JobSource
  port : PortId
  rank : Nat
  age : Nat
  state : JobState
  counted : List (Fin 4)
  marks : List ReceiptMark
  markLine : List ReceiptMark
  total : Nat
  printed : Nat
  frozen : Option Ticket
deriving DecidableEq, Repr

/-- The awaited answer of a printer: the frame sent, its job, and the expiry of its answer timer (Table 7-2). -/
structure Awaited where
  frame : PrinterFrame
  job : Nat
  expiry : Nat
deriving DecidableEq, Repr

/-- A printer port (Table 7-2). `sent` is the model's own record of the frames sent since the restart (log 17). -/
structure Printer where
  status : PrinterStatus
  statusTimer : Option Nat
  awaited : Option Awaited
  closeOwed : Bool
  lock : Lock
  sent : List PrinterFrame
deriving DecidableEq, Repr

/-! ### Day totals and settings (chapters 8 and 9) -/

/-- The weight and amount of one day-total slot (Table 8-1). -/
structure SlotTotal where
  weight : Nat
  amount : Nat
deriving DecidableEq, Repr

/-- The accumulators of a day with TOTALS_SATURATED (Table 8-1). -/
structure Totals where
  slots : Vector SlotTotal 32
  paidCount : Nat
  voidCount : Nat
  cash : Nat
  voucher : Nat
  rounding : Int
  saturated : Bool
deriving DecidableEq, Repr

/-- The owed day report of the day report record (R168). -/
structure ReportOwed where
  printer : PrinterId
  port : PortId
  stamp : Nat
  started : Bool
deriving DecidableEq, Repr

/-- The day report record (R168). -/
structure DayReport where
  day : Nat
  totals : Totals
  labels : Vector Text 32
  time : ClockTime
  owed : Option ReportOwed
deriving DecidableEq, Repr

/-- The device settings (Table 9-14). -/
structure Settings where
  roundingMode : RoundingMode
  cashUnit : Nat
  cashLimit : Nat
  captureTimeout : Nat
  tareExpiry : Nat
deriving DecidableEq, Repr

/-- A drawer record (Table 6-2). -/
structure Drawer where
  balance : Nat
  paidToday : Nat
deriving DecidableEq, Repr

/-! ### Packets, attention and ports (chapters 9 and 10) -/

/-- How a command ends (R179): DONE with its data, NOTED with its notes and data, or REFUSED or RETRY with its
reason and the line position it carries, 0 where it carries none. -/
inductive Answer where
  | success (data : List Byte)
  | noted (notes : List Note) (data : List Byte)
  | stop (reason : Reason) (line : Nat)
deriving DecidableEq, Repr

/-- A reply (Table 9-3). -/
structure Reply where
  tag : Byte
  answer : Answer
deriving DecidableEq, Repr

/-- An attention event (Table 10-1). A TICKET event carries RETIRED when it has no state. -/
inductive Event where
  | scale (c : ChannelId) (state : ChannelState) (zeroRequired : Bool)
  | ticket (number : Nat) (state : Option TicketState)
  | job (id : Nat) (outcome : JobOutcome) (remaining : Nat)
  | printer (r : PrinterId) (status : PrinterStatus) (lock : Lock)
  | prices (generation : Nat)
deriving DecidableEq, Repr

/-- The kind of an event (Table 10-1). -/
def Event.kind : Event → AttentionKind
  | .scale _ _ _ => .scale
  | .ticket _ _ => .ticket
  | .job _ _ _ => .job
  | .printer _ _ _ => .printer
  | .prices _ => .prices

/-- An attention entry: an event with its time (R188). -/
structure Entry where
  event : Event
  time : ClockTime
deriving DecidableEq, Repr

/-- A frame of an output queue (R176). -/
inductive Frame where
  | reply (r : Reply)
  | attention (e : Entry)
deriving DecidableEq, Repr

/-- The receiver of a port (R175): HUNTING, or IN_FRAME with the bytes received after the start byte and the
time on the timebase up to which the next byte may come. -/
inductive Receiver where
  | hunting
  | inFrame (bytes : List Byte) (due : Nat)
deriving DecidableEq, Repr

/-- The kind of a command in progress (Table 9-1). -/
inductive ProgressKind where
  | capture
  | storeTare
deriving DecidableEq, Repr

/-- A command in progress with its tag (Table 9-1). -/
structure Progress where
  kind : ProgressKind
  tag : Byte
deriving DecidableEq, Repr

/-- A station line port (Tables 9-1 and 10-2) with its drawer (Table 6-2). -/
structure Port where
  role : Role
  defaultPrinter : PrinterId
  receiver : Receiver
  out : List Frame
  busy : Option Progress
  attention : List Entry
  overflow : Bool
  subscription : BitVec 5
  release : Bool
  drawer : Option Drawer
deriving DecidableEq, Repr

end Sys2Proof.Machine
end

