-- ==== Sys2Proof/Config.lean ====
section
/-! DEFINITION. What the part fixes: the sizes of its tables and the limits of its figures, each from the rule named,
and the one free value of the model, the text of a receipt line. -/

namespace Sys2Proof.Config

open Sys2Proof.Machine

/-- Tickets in the ticket table (R29). -/
def maxTickets : Nat := 48

/-- Lines of a ticket (R29). -/
def maxLines : Nat := 8

/-- Entries of the vehicle tare table (R58). -/
def maxTares : Nat := 64

/-- Jobs in the pool (R133). -/
def maxJobs : Nat := 12

/-- Snapshots in the reprint store (R157). -/
def maxSnapshots : Nat := 8

/-- Entries of an attention queue (R190). -/
def maxAttention : Nat := 16

/-- Frames in an output queue at which a packet is discarded (R176). -/
def discardAt : Nat := 4

/-- Ticket numbers and weighing numbers (R31, R25). -/
def maxNumber : Nat := 999999

/-- The owed order counter (R135). -/
def maxStamp : Nat := 4294967295

/-- A slot figure, the cash and voucher totals, and a drawer's paid today (Tables 8-1 and 6-2). -/
def maxFigure : Nat := 99999999999

/-- The paid and void counts (Table 8-1). -/
def maxCount : Nat := 999999

/-- The rounding total in either direction (Table 8-1). -/
def maxRounding : Nat := 9999999999

/-- A drawer balance, a float or lift amount, and the cash limit (R114, R116, R119). -/
def maxBalance : Nat := 9999999999

/-- The largest day of the clock and the largest second of a day (R107). -/
def maxDay : Nat := 65535
def maxSecond : Nat := 86399

/-- The start byte of a frame (Table 9-2). -/
def startByte : Byte := 0xD7#8

/-- Milliseconds allowed between two bytes of a frame (R175). -/
def interByteLimit : Nat := 10

/-- The answer timer and the status timer of a printer, in milliseconds (R129, R130). -/
def answerLimit : Nat := 2000
def statusLimit : Nat := 5000

/-- FREE VALUE (log 13). The text the part forms from the fields of a receipt line that is not a header line.
Table 7-6 gives the fields and not the text. -/
opaque lineText : ReceiptLine → Text

end Sys2Proof.Config
end

