-- ==== Sys2Proof/Machine/State.lean ====
section
/-! DEFINITION. The state of the TC-620, its reasons to stop, and the state right after reset. -/

namespace Sys2Proof.Machine

/-- The reasons a step can stop the part with a fault: there are none. Every event of the part has an effect, a
reply or no effect at all (R177, Table 0-4), so no meaning faults. -/
inductive Fault where
deriving DecidableEq, Repr

/-- The reasons a row can be refused. -/
inductive Refusal where
  /-- Raised by `exec` for a row that has no meaning in the model yet. Safe: nothing is claimed of such a row. -/
  | notModelled (mnemonic : String)
deriving DecidableEq, Repr

/-- The state of the part. INVENTORY.md lists every item with the rule that names it. -/
structure State where
  /-- The commands and events waiting to be taken, first in, first out. -/
  pending : List Instr
  /-- The main supply is present (R196). -/
  mainSupply : Bool
  /-- The reset line is high (R197). -/
  resetHigh : Bool
  /-- The crystal timebase, in milliseconds (R8, R107). -/
  timebase : Nat
  /-- The time on the timebase at which the clock next advances (R107). -/
  clockDue : Nat
  /-- The store's signature holds its fixed value (R196, R198). -/
  signatureHolds : Bool
  /-- The stored sum less the sum of the retained bytes, modulo 65,536 (R196, R198). -/
  sumError : BitVec 16
  /-- STORE_LOST (R200). -/
  storeLost : Bool
  /-- The clock (R107). -/
  clock : ClockTime
  /-- The four station line ports (chapters 9, 10 and 6). -/
  ports : Vector Port 4
  /-- The four scale channels (chapter 1). -/
  channels : Vector Channel 4
  /-- The two printer ports (chapter 7). -/
  printers : Vector Printer 2
  /-- The ticket table, in order of opening (R29). -/
  tickets : List Ticket
  /-- The vehicle tare table, in order of storing (R58). -/
  tares : List TareEntry
  /-- The ACTIVE bank (R68). -/
  active : Bank
  /-- The generation of the ACTIVE bank (R68). -/
  generation : Nat
  /-- The PENDING bank while the edit state is OPEN; absent while it is CLOSED (R68). -/
  edit : Option Bank
  /-- The device settings (Table 9-14). -/
  settings : Settings
  /-- The live day totals (R161). -/
  totals : Totals
  /-- The day number (R171). -/
  dayNumber : Nat
  /-- The day report record (R168). -/
  report : Option DayReport
  /-- The ticket number counter (R31). -/
  nextTicket : Nat
  /-- The weighing number counter (R25). -/
  nextWeighing : Nat
  /-- The owed order counter (R135). -/
  nextStamp : Nat
  /-- The reprint store, in order of retirement (R157). -/
  snapshots : List Ticket
  /-- The header lines 1 to 4 (R158). -/
  headers : Vector Text 4
  /-- The job pool, in order of creation (R133). -/
  jobs : List Job
  /-- The job id counter (R133). -/
  nextJob : Nat
  /-- The age stamp counter (R133). -/
  nextAge : Nat
deriving DecidableEq, Repr

/-! ### Start values and cold defaults -/

/-- The cold default configuration of a channel (Table 1-6). -/
def ScaleConfig.cold : ScaleConfig :=
  { enabled := false, capacity := 600000, division := 200, windowLength := 5, staleLimit := 1000 }

/-- A channel right after a cold start (R26, R27). -/
def Channel.cold : Channel :=
  { config := ScaleConfig.cold, zero := 0, calZero := none, window := [], state := .off, zeroRequired := true,
    stale := none, slot := none }

/-- A port with a role, a default printer and a drawer, its other items at their start values (R182, R195). -/
def Port.start (role : Role) (printer : PrinterId) (drawer : Option Drawer) : Port :=
  { role := role, defaultPrinter := printer, receiver := .hunting, out := [], busy := none, attention := [],
    overflow := false, subscription := 0#5, release := false, drawer := drawer }

/-- A drawer as CONFIGURE PORT and a cold start make it (R115, R128). -/
def Drawer.empty : Drawer := { balance := 0, paidToday := 0 }

/-- The ports after a cold start (Table 9-13, R128). -/
def coldPorts : Vector Port 4 :=
  #v[Port.start .supervisor 0 none, Port.start .scalehouse 0 none,
     Port.start .payout 1 (some Drawer.empty), Port.start .yard 0 none]

/-- A printer after a restart taken at a time of the timebase (R131, R160). -/
def Printer.start (now : Nat) : Printer :=
  { status := .unknown, statusTimer := some (now + Config.statusLimit), awaited := none, closeOwed := false,
    lock := .none, sent := [] }

/-- The cold default rule (R84). -/
def Rule.cold : Rule :=
  { enabled := false, kind := .base, pattern := 0, matchLength := 0, classes := 0#4, label := [], price := 0,
    acceptsAdjustments := false, defaultDeduction := 0, holdHours := 0, adjustment := 0 }

/-- The day totals with every accumulator 0 and TOTALS_SATURATED clear (R169, R174). -/
def Totals.zero : Totals :=
  { slots := Vector.replicate 32 { weight := 0, amount := 0 }, paidCount := 0, voidCount := 0, cash := 0,
    voucher := 0, rounding := 0, saturated := false }

/-- The cold defaults of the device settings (Table 9-14). -/
def Settings.cold : Settings :=
  { roundingMode := .nearest, cashUnit := 10, cashLimit := 1000000, captureTimeout := 10, tareExpiry := 90 }

/-- The part right after reset: a new part at its first power-up, whose store fails the test of R198, so that the
restart is a cold start (R199). The timebase starts at 0 (DESIGN CHOICE, log 8). -/
def State.reset : State :=
  { pending := [], mainSupply := true, resetHigh := true, timebase := 0, clockDue := 1000,
    signatureHolds := true, sumError := 0#16, storeLost := true, clock := { day := 1, second := 0 },
    ports := coldPorts, channels := Vector.replicate 4 Channel.cold, printers := Vector.replicate 2 (Printer.start 0),
    tickets := [], tares := [], active := Vector.replicate 32 Rule.cold, generation := 0, edit := none,
    settings := Settings.cold, totals := Totals.zero, dayNumber := 1, report := none, nextTicket := 1,
    nextWeighing := 1, nextStamp := 1, snapshots := [], headers := Vector.replicate 4 [], jobs := [], nextJob := 1,
    nextAge := 1 }

end Sys2Proof.Machine
end

