-- ==== Sys2Proof/Machine/Bytes.lean ====
section
/-! DEFINITION. The byte layouts of the station lines (section 9.3): numbers, texts, optional fields, weighing and
line records, attention entries, packet bodies and frames; and vectors mapped item by item. -/

namespace Sys2Proof.Machine

/-- Every item of a vector, each changed by one function. -/
def mapItems {α β : Type} {n : Nat} (f : α → β) (v : Vector α n) : Vector β n :=
  ⟨⟨v.toList.map f⟩, by simp⟩

/-- The vector whose item i is f i. -/
def tabulate {α : Type} {n : Nat} (f : Fin n → α) : Vector α n :=
  ⟨⟨(List.finRange n).map f⟩, by simp⟩

/-! ### Numbers and texts (Table 9-4) -/

/-- An unsigned number in k bytes, little-endian. -/
def numBytes : Nat → Nat → List Byte
  | 0, _ => []
  | k + 1, n => BitVec.ofNat 8 n :: numBytes k (n / 256)

/-- A signed number in k bytes, little-endian, in two's complement in its width. -/
def intBytes (k : Nat) (i : Int) : List Byte := numBytes k (i % (256 ^ k : Nat)).toNat

/-- The unsigned number of little-endian bytes. -/
def bytesNum : List Byte → Nat
  | [] => 0
  | b :: bs => b.toNat + 256 * bytesNum bs

/-- The signed number of little-endian bytes in two's complement in their width. -/
def bytesInt (bs : List Byte) : Int :=
  if 256 ^ bs.length ≤ 2 * bytesNum bs then (bytesNum bs : Int) - (256 ^ bs.length : Nat) else bytesNum bs

/-- A yes or no byte. -/
def yesNoBytes (b : Bool) : List Byte := [if b then 1#8 else 0#8]

/-- A text in a parameter or a list: its length, then its characters. -/
def textBytes (t : Text) : List Byte := BitVec.ofNat 8 t.length :: t

/-- A text inside Table 9-7 or 9-8: its length, its characters, then zeros to the full width. -/
def fixedTextBytes (width : Nat) (t : Text) : List Byte :=
  BitVec.ofNat 8 t.length :: (t ++ List.replicate (width - t.length) 0#8)

/-- An optional field of a given size: presence, then the field, all zeros when absent. -/
def optBytes (size : Nat) : Option (List Byte) → List Byte
  | none => 0#8 :: List.replicate size 0#8
  | some field => 1#8 :: field

/-- A text that may be absent, carried with length 0 when it is (log 11). -/
def optTextBytes (t : Option Text) : List Byte := textBytes (t.getD [])

/-- A clock time: day in 2 bytes, second in 3. -/
def timeBytes (t : ClockTime) : List Byte := numBytes 2 t.day ++ numBytes 3 t.second

/-! ### Records (Tables 9-7, 9-8 and 9-6) -/

/-- A weighing record (Table 9-7), 15 bytes. -/
def weighingBytes (w : Weighing) : List Byte :=
  numBytes 4 w.weight ++ numBytes 1 (if w.margin then ReadingClass.margin.code else ReadingClass.normal.code)
    ++ numBytes 1 w.source.code ++ numBytes 4 w.number ++ timeBytes w.time

/-- The line marks byte (Table 9-4). -/
def lineMarksNum (m : LineMarks) : Nat :=
  (if m.keyed then 1 else 0) + (if m.margin then 2 else 0) + (if m.stored then 4 else 0) + (if m.clamped then 8 else 0)

/-- A pricing record as it stands in a line record (Table 9-8, offsets 42 to 92), 51 bytes. -/
def pricingBytes (p : Pricing) : List Byte :=
  numBytes 1 p.slot.val ++ numBytes 4 p.base ++ intBytes 4 p.adjust ++ numBytes 4 p.effective
    ++ yesNoBytes p.clamped ++ fixedTextBytes 16 p.label ++ numBytes 2 p.permille ++ numBytes 4 p.net
    ++ numBytes 4 p.deduction ++ numBytes 4 p.payable ++ numBytes 5 p.amount ++ numBytes 1 (lineMarksNum p.marks)

/-- A line record as READ TICKET returns it (Table 9-8), 93 bytes. -/
def lineBytes (position : Nat) (ln : Line) : List Byte :=
  numBytes 1 position ++ numBytes 4 ln.grade ++ optBytes 15 (ln.gross.map weighingBytes)
    ++ optBytes 15 (ln.tare.map weighingBytes) ++ optBytes 2 (ln.deduction.map (numBytes 2))
    ++ numBytes 1 (markCode ln.mark) ++ optBytes 51 (ln.pricing.map pricingBytes)

/-- The subject of an event (Table 9-6). -/
def Event.subject : Event → Nat
  | .scale c _ _ => c.val
  | .ticket n _ => n
  | .job id _ _ => id
  | .printer r _ _ => r.val
  | .prices g => g

/-- Value a of an event (Table 9-6); RETIRED is 5 (Table 9-5). -/
def Event.valueA : Event → Nat
  | .scale _ st _ => st.code
  | .ticket _ (some st) => st.code
  | .ticket _ none => 5
  | .job _ o _ => o.code
  | .printer _ st _ => st.code
  | .prices _ => 0

/-- Value b of an event (Table 9-6). -/
def Event.valueB : Event → Nat
  | .scale _ _ z => if z then 1 else 0
  | .ticket _ _ => 0
  | .job _ _ remaining => remaining
  | .printer _ _ l => l.code
  | .prices _ => 0

/-- An attention entry (Table 9-6), 12 bytes. -/
def entryBytes (e : Entry) : List Byte :=
  numBytes 1 e.event.kind.code ++ numBytes 4 e.event.subject ++ numBytes 1 e.event.valueA
    ++ numBytes 1 e.event.valueB ++ timeBytes e.time

/-! ### Packet bodies and frames (Tables 9-2 and 9-3) -/

/-- The note set of a NOTED reply: each note's bit, once (Table 9-11). -/
def noteCode (notes : List Note) : Nat := notes.foldr (fun n acc => 2 ^ n.bit ||| acc) 0

/-- The body of a reply (Table 9-3): tag, outcome, code, detail, data. -/
def Reply.body (r : Reply) : List Byte :=
  match r.answer with
  | .success data => r.tag :: 0#8 :: 0#8 :: 0#8 :: data
  | .noted notes data => r.tag :: 1#8 :: BitVec.ofNat 8 (noteCode notes) :: 0#8 :: data
  | .stop reason line =>
    [r.tag, if reason.isRetry then 3#8 else 2#8, BitVec.ofNat 8 reason.code, BitVec.ofNat 8 line]

/-- The body of a frame: a reply, or tag 0 and an attention entry (Table 9-3). -/
def Frame.body : Frame → List Byte
  | .reply r => r.body
  | .attention e => 0#8 :: entryBytes e

/-- The check of a frame: the sum of its body bytes modulo 65,536, low byte first (R175). -/
def checkBytes (body : List Byte) : List Byte := numBytes 2 ((body.map BitVec.toNat).sum % 65536)

/-- A frame on the line: start byte, body length, body, check (Table 9-2). -/
def frameBytes (body : List Byte) : List Byte :=
  Config.startByte :: BitVec.ofNat 8 body.length :: (body ++ checkBytes body)

end Sys2Proof.Machine
end

