-- ==== Sys2Proof/Machine/Flags.lean ====
section
/-! DEFINITION. The marks, notes and saturation flags the part computes: line marks (R95), receipt marks (R134),
the notes of a reply (R179), and the accumulators that set TOTALS_SATURATED (R163). -/

namespace Sys2Proof.Machine

/-- The notes whose condition holds, each once, in bit order (R179). -/
def notesOf (conditions : List (Bool × Note)) : List Note :=
  (conditions.filter (·.1)).map (·.2)

/-- DONE when no note arises, NOTED otherwise (R179). -/
def answerWith (notes : List Note) (data : List Byte) : Answer :=
  match notes with
  | [] => .success data
  | n :: ns => .noted (n :: ns) data

/-- The marks of a line at its close (R95). -/
def lineMarks (gross tare : Weighing) (clamped : Bool) : LineMarks :=
  { keyed := decide (gross.source = .keyed) || decide (tare.source = .keyed)
    margin := gross.margin || tare.margin
    stored := decide (tare.source = .stored)
    clamped := clamped }

/-- Some line of a ticket has a pricing record with a given mark (Table 7-5). -/
def someLineMark (t : Ticket) (mark : LineMarks → Bool) : Bool :=
  t.lines.any fun ln => match ln.pricing with
    | some p => mark p.marks
    | none => false

/-- The marks of a job that prints a receipt of a ticket (Table 7-5, R134). -/
def receiptMarks (t : Ticket) (storeLost reprint copy : Bool) : List ReceiptMark :=
  ([(someLineMark t LineMarks.keyed, ReceiptMark.keyed),
    (someLineMark t LineMarks.margin, .marginAccepted),
    (someLineMark t LineMarks.stored, .storedTare),
    (someLineMark t LineMarks.clamped, .priceClamped),
    (storeLost, .recordsReset),
    (reprint, .reprint),
    (copy, .copy)].filter (·.1)).map (·.2)

/-- The marks a DAY_REPORT job names on its mark line (R134, R200). -/
def reportMarks (storeLost reprint : Bool) : List ReceiptMark :=
  ([(reprint, ReceiptMark.reprint), (storeLost, .recordsReset)].filter (·.1)).map (·.2)

/-- An addition to an accumulator with a limit: the value, and whether it would have passed the limit (R163). -/
def addCapped (limit a x : Nat) : Nat × Bool :=
  if limit < a + x then (limit, true) else (a + x, false)

/-- An addition to the rounding total, limited in both directions (R163). -/
def addRounding (a r : Int) : Int × Bool :=
  if (Config.maxRounding : Int) < a + r then (Config.maxRounding, true)
  else if a + r < -(Config.maxRounding : Int) then (-(Config.maxRounding : Int), true)
  else (a + r, false)

end Sys2Proof.Machine
end

