-- ==== Sys2Proof/Machine/Operands.lean ====
section
/-! DEFINITION. The parameters of every command: their order and sizes (Table 9-4 and each command's rule), read from
the packet's bytes. A reading answers none exactly when the byte count does not fit the layout (R177, MALFORMED);
the values are judged later by the owning rule (R178). -/

namespace Sys2Proof.Machine

/-! ### Reading one field -/

/-- An unsigned number of k bytes, and the bytes after it. -/
def takeNum (k : Nat) (bs : List Byte) : Option (Nat × List Byte) :=
  if bs.length < k then none else some (bytesNum (bs.take k), bs.drop k)

/-- A signed number of k bytes, and the bytes after it. -/
def takeInt (k : Nat) (bs : List Byte) : Option (Int × List Byte) :=
  if bs.length < k then none else some (bytesInt (bs.take k), bs.drop k)

/-- A text: its length byte, then that many characters (Table 9-4). -/
def takeText : List Byte → Option (Text × List Byte)
  | [] => none
  | n :: bs => if bs.length < n.toNat then none else some (bs.take n.toNat, bs.drop n.toNat)

/-- No byte is left over (R177). -/
def endOf {α : Type} (a : α) : List Byte → Option α
  | [] => some a
  | _ :: _ => none

/-! ### Values of fields (R178) -/

/-- A number below n as an index; none when it is outside the range. -/
def indexOf? (n : Nat) (v : Nat) : Option (Fin n) := if h : v < n then some ⟨v, h⟩ else none

/-- A yes or no byte; none when it is neither 0 nor 1. -/
def yesNo? : Nat → Option Bool
  | 0 => some false
  | 1 => some true
  | _ => none

/-- A printable character, 0x20 to 0x7E (Table 9-4). -/
def printableChar (c : Byte) : Bool := decide (0x20 ≤ c.toNat) && decide (c.toNat ≤ 0x7E)

/-- Every character is printable. -/
def printable (t : Text) : Bool := t.all printableChar

/-- A lower-case letter. -/
def lowerChar (c : Byte) : Bool := decide (0x61 ≤ c.toNat) && decide (c.toNat ≤ 0x7A)

/-- A plate character: A to Z, a to z, 0 to 9 and hyphen (R33). -/
def plateChar (c : Byte) : Bool :=
  (decide (0x41 ≤ c.toNat) && decide (c.toNat ≤ 0x5A)) || lowerChar c
    || (decide (0x30 ≤ c.toNat) && decide (c.toNat ≤ 0x39)) || decide (c = 0x2D#8)

/-- A plate of 0 to 10 plate characters (R33). -/
def plateOk (t : Text) : Bool := decide (t.length ≤ 10) && t.all plateChar

/-- Lower-case letters taken as upper case (R33). -/
def upperCase (t : Text) : Text := t.map fun c => if lowerChar c then c - 0x20#8 else c

/-- A text of length 0 is recorded as absent (R34). -/
def presentText (t : Text) : Option Text := if t = [] then none else some t

/-- A ticket number of 1 to 999,999 (Table 2-3). -/
def ticketNumberOk (n : Nat) : Bool := decide (1 ≤ n) && decide (n ≤ Config.maxNumber)

/-- A line position of 1 to 8 (R32). -/
def positionOk (k : Nat) : Bool := decide (1 ≤ k) && decide (k ≤ Config.maxLines)

/-- A grade code of 000000 to 999999 (R32). -/
def gradeOk (g : Nat) : Bool := decide (g ≤ 999999)

/-! ### The parameters of each command -/

/-- A command without parameters. -/
def parseNone : List Byte → Option Unit := endOf ()

/-- CONFIGURE PORT (9.7). -/
structure ConfigurePortArgs where
  port : Nat
  role : Nat
  printer : Nat
  former : Nat
deriving DecidableEq, Repr

/-- Layout of CONFIGURE PORT. -/
def ConfigurePortArgs.parse (bs : List Byte) : Option ConfigurePortArgs := do
  let (port, bs) ← takeNum 1 bs
  let (role, bs) ← takeNum 1 bs
  let (printer, bs) ← takeNum 1 bs
  let (former, bs) ← takeNum 1 bs
  endOf ⟨port, role, printer, former⟩ bs

/-- SET OPTION (R186). -/
structure SetOptionArgs where
  setting : Nat
  value : Nat
deriving DecidableEq, Repr

/-- Layout of SET OPTION. -/
def SetOptionArgs.parse (bs : List Byte) : Option SetOptionArgs := do
  let (setting, bs) ← takeNum 1 bs
  let (value, bs) ← takeNum 5 bs
  endOf ⟨setting, value⟩ bs

/-- CONFIGURE SCALE (1.5). -/
structure ConfigureScaleArgs where
  channel : Nat
  enabled : Nat
  capacity : Nat
  division : Nat
  windowLength : Nat
  staleLimit : Nat
deriving DecidableEq, Repr

/-- Layout of CONFIGURE SCALE. -/
def ConfigureScaleArgs.parse (bs : List Byte) : Option ConfigureScaleArgs := do
  let (channel, bs) ← takeNum 1 bs
  let (enabled, bs) ← takeNum 1 bs
  let (capacity, bs) ← takeNum 4 bs
  let (division, bs) ← takeNum 4 bs
  let (windowLength, bs) ← takeNum 1 bs
  let (staleLimit, bs) ← takeNum 4 bs
  endOf ⟨channel, enabled, capacity, division, windowLength, staleLimit⟩ bs

/-- A command whose one parameter is a number of one byte: a channel, port, printer, slot, place, job id or set. -/
def parseOne (bs : List Byte) : Option Nat := do
  let (n, bs) ← takeNum 1 bs
  endOf n bs

/-- OPEN TICKET (2.6). -/
structure OpenTicketArgs where
  customerClass : Nat
  customer : Text
  plate : Text
deriving DecidableEq, Repr

/-- Layout of OPEN TICKET. -/
def OpenTicketArgs.parse (bs : List Byte) : Option OpenTicketArgs := do
  let (customerClass, bs) ← takeNum 1 bs
  let (customer, bs) ← takeText bs
  let (plate, bs) ← takeText bs
  endOf ⟨customerClass, customer, plate⟩ bs

/-- ADD LINE (R35). -/
structure AddLineArgs where
  ticket : Nat
  grade : Nat
deriving DecidableEq, Repr

/-- Layout of ADD LINE. -/
def AddLineArgs.parse (bs : List Byte) : Option AddLineArgs := do
  let (ticket, bs) ← takeNum 4 bs
  let (grade, bs) ← takeNum 4 bs
  endOf ⟨ticket, grade⟩ bs

/-- A command naming a ticket and a line: REMOVE LINE (R36), USE STORED TARE (R66). -/
structure TicketLineArgs where
  ticket : Nat
  line : Nat
deriving DecidableEq, Repr

/-- Layout of a ticket and a line. -/
def TicketLineArgs.parse (bs : List Byte) : Option TicketLineArgs := do
  let (ticket, bs) ← takeNum 4 bs
  let (line, bs) ← takeNum 1 bs
  endOf ⟨ticket, line⟩ bs

/-- SET DEDUCTION (R38). -/
structure SetDeductionArgs where
  ticket : Nat
  line : Nat
  deduction : Nat
deriving DecidableEq, Repr

/-- Layout of SET DEDUCTION. -/
def SetDeductionArgs.parse (bs : List Byte) : Option SetDeductionArgs := do
  let (ticket, bs) ← takeNum 4 bs
  let (line, bs) ← takeNum 1 bs
  let (deduction, bs) ← takeNum 2 bs
  endOf ⟨ticket, line, deduction⟩ bs

/-- KEY WEIGHT (R39). -/
structure KeyWeightArgs where
  ticket : Nat
  line : Nat
  side : Nat
  weight : Nat
deriving DecidableEq, Repr

/-- Layout of KEY WEIGHT. -/
def KeyWeightArgs.parse (bs : List Byte) : Option KeyWeightArgs := do
  let (ticket, bs) ← takeNum 4 bs
  let (line, bs) ← takeNum 1 bs
  let (side, bs) ← takeNum 1 bs
  let (weight, bs) ← takeNum 4 bs
  endOf ⟨ticket, line, side, weight⟩ bs

/-- A command whose one parameter is a ticket number: ACCEPT MARGIN, REOPEN TICKET, RELEASE HOLD. -/
def parseTicket (bs : List Byte) : Option Nat := do
  let (n, bs) ← takeNum 4 bs
  endOf n bs

/-- CAPTURE (2.9). -/
structure CaptureArgs where
  ticket : Nat
  line : Nat
  role : Nat
  channel : Nat
  grade : Nat
deriving DecidableEq, Repr

/-- Layout of CAPTURE. -/
def CaptureArgs.parse (bs : List Byte) : Option CaptureArgs := do
  let (ticket, bs) ← takeNum 4 bs
  let (line, bs) ← takeNum 1 bs
  let (role, bs) ← takeNum 1 bs
  let (channel, bs) ← takeNum 1 bs
  let (grade, bs) ← takeNum 4 bs
  endOf ⟨ticket, line, role, channel, grade⟩ bs

/-- A command naming a ticket and one byte: VOID TICKET's reason (2.10), READ TICKET's part (R55), CLOSE TICKET's
print-settlement (5.2), PAY's method (6.5), PRINT COPY's printer (R155). -/
structure TicketByteArgs where
  ticket : Nat
  value : Nat
deriving DecidableEq, Repr

/-- Layout of a ticket and one byte. -/
def TicketByteArgs.parse (bs : List Byte) : Option TicketByteArgs := do
  let (ticket, bs) ← takeNum 4 bs
  let (value, bs) ← takeNum 1 bs
  endOf ⟨ticket, value⟩ bs

/-- A plate and one byte: STORE TARE's channel (3.2), READ TARE's starting place (R64). -/
structure PlateByteArgs where
  plate : Text
  value : Nat
deriving DecidableEq, Repr

/-- Layout of a plate and one byte. -/
def PlateByteArgs.parse (bs : List Byte) : Option PlateByteArgs := do
  let (plate, bs) ← takeText bs
  let (value, bs) ← takeNum 1 bs
  endOf ⟨plate, value⟩ bs

/-- A plate alone: DROP TARE (R63). -/
def parsePlate (bs : List Byte) : Option Text := do
  let (plate, bs) ← takeText bs
  endOf plate bs

/-- EDIT RULE (4.4). -/
structure EditRuleArgs where
  slot : Nat
  enabled : Nat
  kind : Nat
  pattern : Nat
  matchLength : Nat
  classes : Nat
  label : Text
  price : Nat
  accepts : Nat
  defaultDeduction : Nat
  holdHours : Nat
  adjustment : Int
deriving DecidableEq, Repr

/-- Layout of EDIT RULE. The grade pattern has the 4 bytes of a grade code (DESIGN CHOICE, log 25). -/
def EditRuleArgs.parse (bs : List Byte) : Option EditRuleArgs := do
  let (slot, bs) ← takeNum 1 bs
  let (enabled, bs) ← takeNum 1 bs
  let (kind, bs) ← takeNum 1 bs
  let (pattern, bs) ← takeNum 4 bs
  let (matchLength, bs) ← takeNum 2 bs
  let (classes, bs) ← takeNum 1 bs
  let (label, bs) ← takeText bs
  let (price, bs) ← takeNum 4 bs
  let (accepts, bs) ← takeNum 1 bs
  let (defaultDeduction, bs) ← takeNum 2 bs
  let (holdHours, bs) ← takeNum 2 bs
  let (adjustment, bs) ← takeInt 4 bs
  endOf ⟨slot, enabled, kind, pattern, matchLength, classes, label, price, accepts, defaultDeduction, holdHours,
    adjustment⟩ bs

/-- Two numbers of one byte: READ RULE's bank and slot (4.5), READ TOTALS's source and part (8.3). -/
structure TwoByteArgs where
  first : Nat
  second : Nat
deriving DecidableEq, Repr

/-- Layout of two bytes. -/
def TwoByteArgs.parse (bs : List Byte) : Option TwoByteArgs := do
  let (first, bs) ← takeNum 1 bs
  let (second, bs) ← takeNum 1 bs
  endOf ⟨first, second⟩ bs

/-- SET CLOCK (R108). -/
def parseClock (bs : List Byte) : Option ClockTime := do
  let (day, bs) ← takeNum 2 bs
  let (second, bs) ← takeNum 3 bs
  endOf ⟨day, second⟩ bs

/-- FLOAT (R116) and LIFT (R117). -/
structure DrawerArgs where
  port : Nat
  amount : Nat
deriving DecidableEq, Repr

/-- Layout of FLOAT and LIFT. -/
def DrawerArgs.parse (bs : List Byte) : Option DrawerArgs := do
  let (port, bs) ← takeNum 1 bs
  let (amount, bs) ← takeNum 5 bs
  endOf ⟨port, amount⟩ bs

/-- SET HEADER (R158). -/
structure SetHeaderArgs where
  line : Nat
  text : Text
deriving DecidableEq, Repr

/-- Layout of SET HEADER. -/
def SetHeaderArgs.parse (bs : List Byte) : Option SetHeaderArgs := do
  let (line, bs) ← takeNum 1 bs
  let (text, bs) ← takeText bs
  endOf ⟨line, text⟩ bs

end Sys2Proof.Machine
end

