-- ==== Sys2Proof/Machine/Ops.lean ====
section
/-! DEFINITION. The operations every family shares: reading and writing ports, channels, printers and tickets,
raising an attention event (chapter 10), forming a reply and taking a command packet (Table 9-10). -/

namespace Sys2Proof.Machine

/-- The outcome of a row. -/
abbrev Result := Host.Outcome State Fault Refusal

/-- A command's effect on the part: the new state, and its reply unless it waits or restarts the part. -/
abbrev Effect := State × Option Answer

/-! ### Ports, channels and printers -/

/-- The part takes events: the main supply is present and the reset line is high (R196, R197). -/
def State.running (s : State) : Bool := s.mainSupply && s.resetHigh

/-- Port p. -/
def State.port (s : State) (p : PortId) : Port := s.ports[p]

/-- Port p replaced. -/
def State.setPort (s : State) (p : PortId) (x : Port) : State := { s with ports := s.ports.set p x }

/-- Channel c. -/
def State.channel (s : State) (c : ChannelId) : Channel := s.channels[c]

/-- Channel c replaced. -/
def State.setChannel (s : State) (c : ChannelId) (x : Channel) : State :=
  { s with channels := s.channels.set c x }

/-- Printer r. -/
def State.printer (s : State) (r : PrinterId) : Printer := s.printers[r]

/-- Printer r replaced. -/
def State.setPrinter (s : State) (r : PrinterId) (x : Printer) : State :=
  { s with printers := s.printers.set r x }

/-- One step of the part's own, done only while the part takes events (log 7). -/
def State.whileRunning (s : State) (f : State → State) : State := if s.running then f s else s

/-- The timebase is at least a time: the moment a timer with that expiry runs out (log 2). -/
def State.reach (s : State) (time : Nat) : State := { s with timebase := max s.timebase time }

/-! ### Attention events (chapter 10) -/

/-- Two entries are SCALE entries of one channel (R190). -/
def Entry.sameScale (a b : Entry) : Bool :=
  match a.event, b.event with
  | .scale c _ _, .scale d _ _ => decide (c = d)
  | _, _ => false

/-- An entry offered to a port's queue: merged into a SCALE entry of its channel, appended, or discarded with the
overflow flag set (R190). -/
def Port.enqueueAttention (q : Port) (e : Entry) : Port :=
  if q.attention.any (Entry.sameScale e) then
    { q with attention := q.attention.map fun x => if Entry.sameScale e x then e else x }
  else if q.attention.length < Config.maxAttention then { q with attention := q.attention ++ [e] }
  else { q with overflow := true }

/-- An entry offered to a port: taken when its kind is in the subscription set (R188). -/
def Port.offer (q : Port) (e : Entry) : Port :=
  if q.subscription.getLsbD e.event.kind.code then q.enqueueAttention e else q

/-- An event raised: offered to every port with the clock's time (R188). -/
def State.raise (s : State) (e : Event) : State :=
  { s with ports := mapItems (fun q => q.offer { event := e, time := s.clock }) s.ports }

/-! ### Replies (R176, R179) -/

/-- A frame joins a port's output queue (R176). -/
def State.enqueue (s : State) (p : PortId) (f : Frame) : State :=
  s.setPort p { s.port p with out := (s.port p).out ++ [f] }

/-- The reply of a command joins its port's output queue under its tag (R179). -/
def State.reply (s : State) (p : PortId) (tag : Byte) (a : Answer) : State :=
  s.enqueue p (.reply { tag := tag, answer := a })

/-- The receiver of a port returns to HUNTING (R175). -/
def State.hunt (s : State) (p : PortId) : State := s.setPort p { s.port p with receiver := .hunting }

/-- A command refused or retried: nothing changes (Table 0-4). -/
def State.refuse (s : State) (r : Reason) : Effect := (s, some (.stop r 0))

/-- A command carried out, replying DONE with its data. -/
def State.finish (s : State) (data : List Byte) : Effect := (s, some (.success data))

/-! ### Taking a command packet (Table 9-10) -/

/-- Steps 3 to 7 of Table 9-10 for a packet that is not discarded.
`bypass` is true for PORT RESET alone, which a command in progress does not hold back. -/
def State.passPacket {α : Type} (s : State) (k : Packet) (bypass : Bool) (allowed : Role → Bool)
    (parse : List Byte → Option α) (run : α → State → Effect) : State :=
  if (s.port k.port).busy.isSome && !bypass then s.reply k.port k.tag (.stop .busy 0)
  else match parse k.params with
    | none => s.reply k.port k.tag (.stop .malformed 0)
    | some a =>
      if allowed (s.port k.port).role then
        match run a s with
        | (t, some answer) => t.reply k.port k.tag answer
        | (t, none) => t
      else s.reply k.port k.tag (.stop .role 0)

/-- A packet is discarded before any check: 4 or more frames wait, or its tag is 0 (Table 9-10, steps 1 and 2). -/
def State.discards (s : State) (p : PortId) (tag : Byte) : Bool :=
  decide (Config.discardAt ≤ (s.port p).out.length) || decide (tag = 0#8)

/-- A command packet taken by its port (R177, Table 9-10): nothing while the part takes no events; a frame too long
for a length byte is abandoned (R175); otherwise discarded, or admitted. The receiver is HUNTING afterwards (R175; log 16). -/
def takeCommand {α : Type} (bypass : Bool) (allowed : Role → Bool) (parse : List Byte → Option α)
    (run : α → State → Effect) (k : Packet) (s : State) : Result :=
  .next (s.whileRunning fun s =>
    if 248 < k.params.length then s.hunt k.port
    else if s.discards k.port k.tag then s.hunt k.port
    else (s.hunt k.port).passPacket k bypass allowed parse run)

/-- Every role (Table 9-9). -/
def anyRole (_ : Role) : Bool := true

/-- SUPERVISOR alone (Table 9-9). -/
def supervisorOnly (r : Role) : Bool := decide (r = .supervisor)

/-- SUPERVISOR and SCALEHOUSE (Table 9-9). -/
def supervisorOrScalehouse (r : Role) : Bool := decide (r = .supervisor) || decide (r = .scalehouse)

/-- SUPERVISOR, SCALEHOUSE and YARD (Table 9-9). -/
def notPayout (r : Role) : Bool := !decide (r = .payout)

/-- SUPERVISOR, SCALEHOUSE and PAYOUT (Table 9-9). -/
def notYard (r : Role) : Bool := !decide (r = .yard)

/-- SUPERVISOR and PAYOUT (Table 9-9). -/
def supervisorOrPayout (r : Role) : Bool := decide (r = .supervisor) || decide (r = .payout)

/-! ### Tickets and lines (chapter 2) -/

/-- The ticket of a number, when it is in the table. -/
def State.ticket? (s : State) (n : Nat) : Option Ticket := s.tickets.find? fun t => decide (t.number = n)

/-- A ticket record replaced in its place in the table (R29). -/
def State.putTicket (s : State) (t : Ticket) : State :=
  { s with tickets := s.tickets.map fun x => if x.number = t.number then t else x }

/-- A change of a ticket's state: the record replaced, and one TICKET event raised (R30). -/
def State.moveTicket (s : State) (t : Ticket) : State :=
  (s.putTicket t).raise (.ticket t.number (some t.state))

/-- The line of a ticket at a position, counted from 1. -/
def Ticket.line? (t : Ticket) (k : Nat) : Option Line := if k = 0 then none else t.lines[k - 1]?

/-- A ticket with its line at a position changed. -/
def Ticket.changeLine (t : Ticket) (k : Nat) (f : Line → Line) : Ticket :=
  if k = 0 then t else { t with lines := t.lines.modify (k - 1) f }

/-- The position of the first line that meets a condition, counted from 1. -/
def firstLine (p : Line → Bool) (lines : List Line) : Option Nat := (lines.findIdx? p).map (· + 1)

/-- The common checks of a ticket request after the role (R32, checks 2 to 4): the range of its parameters (log 14), the
ticket, its state; then what the request does with the ticket. -/
def State.withTicket (s : State) (inRange : Bool) (n : Nat) (allowed : TicketState → Bool)
    (run : Ticket → Effect) : Effect :=
  if ticketNumberOk n && inRange then
    match s.ticket? n with
    | none => s.refuse .noTicket
    | some t => if allowed t.state then run t else s.refuse .state
  else s.refuse .range

/-- The common checks of a request that names a line (R32, checks 2 to 5). -/
def State.withLine (s : State) (inRange : Bool) (n k : Nat) (allowed : TicketState → Bool)
    (run : Ticket → Line → Effect) : Effect :=
  s.withTicket (positionOk k && inRange) n allowed fun t =>
    match t.line? k with
    | none => s.refuse .noLine
    | some ln => run t ln

/-- A ticket required to be OPEN. -/
def isOpened (st : TicketState) : Bool := decide (st = .opened)

/-! ### Numbers (R25) -/

/-- A counter of 1 to 999,999 advanced by one (R25, R31). -/
def advanceNumber (n : Nat) : Nat := if Config.maxNumber ≤ n then 1 else n + 1

/-- The weighing number counter advanced past the number given (R25). -/
def State.giveWeighing (s : State) : State := { s with nextWeighing := advanceNumber s.nextWeighing }

/-! ### The capture slot (1.8) -/

/-- The mark of a line capture's line set or cleared (R42, R47). A tare capture has no mark. -/
def State.setMark (s : State) (owner : CaptureOwner) (mark : Option Side) : State :=
  match owner with
  | .tare _ => s
  | .line n k _ _ =>
    match s.ticket? n with
    | none => s
    | some t => s.putTicket (t.changeLine k fun ln => { ln with mark := mark })

/-- The end of a capture in a slot: the slot is freed, the owner's mark cleared, and the port has no command in
progress (R23, R47, R180). -/
def State.freeSlot (s : State) (c : ChannelId) : State :=
  match (s.channel c).slot with
  | none => s
  | some cap =>
    let s := (s.setChannel c { s.channel c with slot := none }).setMark cap.owner none
    s.setPort cap.port { s.port cap.port with busy := none }

/-- The end of a waiting capture with an answer to its requesting port (Table 1-7). -/
def State.endCapture (s : State) (c : ChannelId) (a : Answer) : State :=
  match (s.channel c).slot with
  | none => s
  | some cap => (s.freeSlot c).reply cap.port cap.tag a

/-- Every capture in a slot that meets a condition ended in channel order. -/
def State.endCaptures (s : State) (which : Capture → Bool) (finishOne : State → ChannelId → State) : State :=
  (List.finRange 4).foldl (fun s c =>
    match (s.channel c).slot with
    | none => s
    | some cap => if which cap then finishOne s c else s) s

/-- The capture is for a ticket (R49). -/
def Capture.forTicket (n : Nat) (cap : Capture) : Bool :=
  match cap.owner with
  | .line m _ _ _ => decide (m = n)
  | .tare _ => false

/-- The capture is for a line of a ticket (R37). -/
def Capture.forLine (n k : Nat) (cap : Capture) : Bool :=
  match cap.owner with
  | .line m j _ _ => decide (m = n) && decide (j = k)
  | .tare _ => false

/-- The captures of a ticket cancelled, each port answered REFUSED CANCELLED (R23, R49). -/
def State.cancelTicketCaptures (s : State) (n : Nat) : State :=
  s.endCaptures (Capture.forTicket n) fun s c => s.endCapture c (.stop .cancelled 0)

/-- The capture of a line cancelled, its port answered REFUSED CANCELLED (R23, R37). -/
def State.cancelLineCapture (s : State) (n k : Nat) : State :=
  s.endCaptures (Capture.forLine n k) fun s c => s.endCapture c (.stop .cancelled 0)

/-- The capture requested by a port abandoned without reply (R23, R181). -/
def State.abandonCapture (s : State) (p : PortId) : State :=
  s.endCaptures (fun cap => decide (cap.port = p)) fun s c => s.freeSlot c

/-! ### Payout: the clock and holds (chapter 6) -/

/-- The hold of a ticket is over: it is HELD and its release time is not later than the clock (R110). -/
def Ticket.due (t : Ticket) (now : ClockTime) : Bool :=
  decide (t.state = .held) && match t.settlement with
    | none => false
    | some r => match r.release with
      | none => false
      | some time => time.notLater now

/-- A HELD ticket released: its state becomes PAYABLE, its settlement record kept, one TICKET event raised (R110). -/
def State.releaseTicket (s : State) (t : Ticket) : State := s.moveTicket { t with state := .payable }

/-- Every ticket of a list whose hold is over released, in the order given (R110). -/
def State.releaseDue (s : State) (ts : List Ticket) : State :=
  ts.foldl (fun s t => if t.due s.clock then s.releaseTicket t else s) s

end Sys2Proof.Machine
end

