-- ==== Sys2Proof/Machine/Attention.lean ====
section
/-! DEFINITION. The attention queues' commands and the handover (chapter 10), and the end of a frame's sending (R176). -/

namespace Sys2Proof.Machine

/-! ### SUBSCRIBE (R189) -/

/-- SUBSCRIBE's effect (R189). -/
def subscribe (port : PortId) (set : Nat) (s : State) : Effect :=
  if 31 < set then s.refuse .range
  else (s.setPort port { s.port port with subscription := BitVec.ofNat 5 set }).finish (numBytes 1 set)

/-- SUBSCRIBE. -/
def execSubscribe (k : Packet) (s : State) : Result :=
  takeCommand false anyRole parseOne (subscribe k.port) k s

/-! ### RELEASE ATTENTION and the handover (R192) -/

/-- RELEASE ATTENTION's effect (R192). -/
def releaseAttention (port : PortId) (value : Nat) (s : State) : Effect :=
  match yesNo? value with
  | none => s.refuse .range
  | some on => (s.setPort port { s.port port with release := on }).finish []

/-- RELEASE ATTENTION. -/
def execReleaseAttention (k : Packet) (s : State) : Result :=
  takeCommand false anyRole parseOne (releaseAttention k.port) k s

/-- The conditions of a handover beside an entry to hand over: release on, no command in progress, an empty output queue
(R192). -/
def Port.handsOver (q : Port) : Bool := q.release && q.busy.isNone && decide (q.out = [])

/-- A handover (R192): the oldest entry leaves the attention queue and joins the output queue. -/
def Port.handover (q : Port) : Port :=
  if q.handsOver then
    match q.attention with
    | [] => q
    | e :: rest => { q with attention := rest, out := [.attention e] }
  else q

/-- The handover of a port (R192). -/
def State.handover (s : State) (p : PortId) : State := s.setPort p (s.port p).handover

/-- ATTENTION_HANDOVER (R192). -/
def execAttentionHandover (p : PortId) (s : State) : Result := .next (s.whileRunning fun s => s.handover p)

/-! ### READ ATTENTION and CLEAR OVERFLOW (R193, R194) -/

/-- The data of READ ATTENTION (R193). -/
def attentionData (q : Port) : List Byte :=
  numBytes 1 (q.attention.take 4).length ++ (q.attention.take 4).flatMap entryBytes ++ yesNoBytes q.overflow
    ++ numBytes 1 (q.attention.drop 4).length

/-- READ ATTENTION's effect (R193). -/
def readAttention (port : PortId) (_ : Unit) (s : State) : Effect :=
  (s.setPort port { s.port port with attention := (s.port port).attention.drop 4 }).finish (attentionData (s.port port))

/-- READ ATTENTION. -/
def execReadAttention (k : Packet) (s : State) : Result :=
  takeCommand false anyRole parseNone (readAttention k.port) k s

/-- CLEAR OVERFLOW's effect (R194). -/
def clearOverflow (port : PortId) (_ : Unit) (s : State) : Effect :=
  (s.setPort port { s.port port with overflow := false }).finish []

/-- CLEAR OVERFLOW. -/
def execClearOverflow (k : Packet) (s : State) : Result :=
  takeCommand false anyRole parseNone (clearOverflow k.port) k s

/-! ### The end of a frame's sending (R176) -/

/-- The frame at the head of a port's output queue has been sent (R176). -/
def State.frameSent (s : State) (p : PortId) : State := s.setPort p { s.port p with out := (s.port p).out.drop 1 }

/-- FRAME_SENT (R176). -/
def execFrameSent (p : PortId) (s : State) : Result := .next (s.whileRunning fun s => s.frameSent p)

end Sys2Proof.Machine
end

