-- ==== Sys2Proof/Machine/Printing.lean ====
section
/-! DEFINITION. The print engine's shared operations (chapter 7): frames on a printer line, the job pool, owed receipts
and their stamps, the retirement of a ticket, and what a fault of a printer does. -/

namespace Sys2Proof.Machine

/-! ### The printer line (R129, R149) -/

/-- One PRINTER attention event with the printer's status and lock (R130). -/
def State.raisePrinter (s : State) (r : PrinterId) : State :=
  s.raise (.printer r (s.printer r).status (s.printer r).lock)

/-- A BEGIN or LINE sent for a job: it becomes the awaited answer, its timer started (R129). -/
def State.sendAwaited (s : State) (r : PrinterId) (f : PrinterFrame) (job : Nat) : State :=
  s.setPrinter r
    { s.printer r with
      sent := (s.printer r).sent ++ [f]
      awaited := some { frame := f, job := job, expiry := s.timebase + Config.answerLimit } }

/-- An END sent on a printer line; it awaits nothing, and no close is owed afterwards (R129, R149). -/
def State.sendEnd (s : State) (r : PrinterId) : State :=
  s.setPrinter r { s.printer r with sent := (s.printer r).sent ++ [.fin], closeOwed := false }

/-- A begun receipt closed: by an END at once, or owed until the awaited answer has come (R149). -/
def State.closeReceipt (s : State) (r : PrinterId) : State :=
  if (s.printer r).awaited.isNone then s.sendEnd r
  else s.setPrinter r { s.printer r with closeOwed := true }

/-! ### The pool (R133) -/

/-- A job is TAKEN or PRINTING (R132). -/
def Job.active (j : Job) : Bool := decide (j.state ≠ .queued)

/-- The job that is TAKEN or PRINTING on a printer. -/
def State.activeJob? (s : State) (r : PrinterId) : Option Job :=
  s.jobs.find? fun j => decide (j.printer = r) && j.active

/-- A printer is free: no job on it TAKEN or PRINTING, no answer awaited, no close owed (R132). -/
def State.printerFree (s : State) (r : PrinterId) : Bool :=
  (s.activeJob? r).isNone && (s.printer r).awaited.isNone && !(s.printer r).closeOwed

/-- A job other than a COPY refers to a ticket (R136). -/
def Job.refersTo (j : Job) (n : Nat) : Bool :=
  match j.source with
  | .owed m _ => decide (m = n)
  | .copyTicket _ => false
  | .copySnapshot _ => false
  | .report _ => false

/-- Some job other than a COPY refers to a ticket. -/
def State.referred (s : State) (n : Nat) : Bool := s.jobs.any fun j => j.refersTo n

/-- A job record replaced in its place in the pool. -/
def State.putJob (s : State) (j : Job) : State :=
  { s with jobs := s.jobs.map fun x => if x.id = j.id then j else x }

/-- A lock set, with one PRINTER event when it changes (R151). -/
def State.setLock (s : State) (r : PrinterId) (l : Lock) : State :=
  if (s.printer r).lock = l then s
  else (s.setPrinter r { s.printer r with lock := l }).raisePrinter r

/-- A PENDING lock becomes LOCKED when no job is PRINTING on its printer any more (R152). -/
def State.settleLock (s : State) (r : PrinterId) : State :=
  match (s.printer r).lock with
  | .pending p =>
    if s.jobs.any (fun j => decide (j.printer = r) && decide (j.state = .printing)) then s
    else s.setLock r (.locked p)
  | .locked _ => s
  | .none => s

/-- A job leaves the pool with one JOB event; the receipt it began is closed unless it is DONE (R145, R148, R149). -/
def State.leavePool (s : State) (j : Job) (outcome : JobOutcome) : State :=
  let s := { s with jobs := s.jobs.filter fun x => decide (x.id ≠ j.id) }
  let s := s.raise (.job j.id outcome (j.total - j.printed))
  if j.active && decide (outcome ≠ .printed) then s.closeReceipt j.printer else s

/-- A job cancelled in any stage (R139, R154, R156). A PENDING lock of its printer that waits for no PRINTING job any more becomes
LOCKED then (R152): where several copies on that printer are cancelled in one step, its PRINTER event stands after the first
copy's JOB event and before the other copies' (DESIGN CHOICE, log 9). -/
def State.cancelOne (s : State) (j : Job) : State := (s.leavePool j .cancelled).settleLock j.printer

/-- Every job that meets a condition cancelled, in pool order (R156). -/
def State.cancelWhere (s : State) (p : Job → Bool) : State := (s.jobs.filter p).foldl State.cancelOne s

/-- A TAKEN job returned to QUEUED with its age kept; the receipt it began is closed (R147, R151). -/
def State.requeue (s : State) (j : Job) : State :=
  (s.putJob { j with state := .queued, printed := 0 }).closeReceipt j.printer

/-! ### Retirement and the reprint store (R54, R157) -/

/-- The source of a COPY job when a ticket is retired into a place of the reprint store (R156). -/
def JobSource.follow (n place : Nat) : JobSource → JobSource
  | .copyTicket m => if m = n then .copySnapshot place else .copyTicket m
  | .owed m stamp => .owed m stamp
  | .copySnapshot i => .copySnapshot i
  | .report stamp => .report stamp

/-- The source of a COPY job when the oldest snapshot has been dropped. -/
def JobSource.shift : JobSource → JobSource
  | .copySnapshot i => .copySnapshot (i - 1)
  | .owed m stamp => .owed m stamp
  | .copyTicket m => .copyTicket m
  | .report stamp => .report stamp

/-- Beyond 8 snapshots the oldest is dropped, and every copy of it cancelled, one after another in pool order (R156, R157; the place
of a PENDING lock's PRINTER event among theirs is log 9). -/
def State.dropOldest (s : State) : State :=
  if Config.maxSnapshots < s.snapshots.length then
    let s := s.cancelWhere (fun j => decide (j.source = .copySnapshot 0));
    { s with
      snapshots := s.snapshots.drop 1
      jobs := s.jobs.map fun j => { j with source := j.source.shift } }
  else s

/-- A ticket retired: its snapshot joins the reprint store, it leaves the table, its copies follow it, and a TICKET event
carrying RETIRED is raised (R54, R157). -/
def State.retire (s : State) (t : Ticket) : State :=
  let place := s.snapshots.length
  let s : State := { s with
    snapshots := s.snapshots ++ [t]
    tickets := s.tickets.filter fun x => decide (x.number ≠ t.number)
    jobs := s.jobs.map fun j => { j with source := j.source.follow t.number place } }
  (s.raise (.ticket t.number none)).dropOldest

/-- A ticket is PAID or VOID. -/
def Ticket.finished (t : Ticket) : Bool := decide (t.state = .paid) || decide (t.state = .voided)

/-- A ticket retired when it is PAID or VOID, owes nothing and no job other than a COPY refers to it (R54). -/
def State.retireIfDone (s : State) (n : Nat) : State :=
  match s.ticket? n with
  | none => s
  | some t => if t.finished && t.owed.isNone && !s.referred n then s.retire t else s

/-! ### Faults (R147, R148) -/

/-- A PRINTING job aborted (R148). -/
def State.abortJob (s : State) (j : Job) : State :=
  let s := s.leavePool j .aborted
  let s := match j.source with
    | .owed n _ => s.retireIfDone n
    | .copyTicket _ => s
    | .copySnapshot _ => s
    | .report _ => s
  s.settleLock j.printer

/-- A fault of a printer: its TAKEN job returns to QUEUED, its PRINTING job is aborted (R147, R148). -/
def State.printerFault (s : State) (r : PrinterId) : State :=
  match s.activeJob? r with
  | none => s
  | some j =>
    match j.state with
    | .taken => s.requeue j
    | .printing => s.abortJob j
    | .queued => s

/-- A printer's status set: a fault when it goes from usable to unusable (R132), and one PRINTER event when it changes
(R130), after the events of the fault (Table 7-9, step 8; log 9). Where the fault aborts the job that a PENDING lock waits for,
the lock's PRINTER event comes first and the status change's carries LOCKED (DESIGN CHOICE, log 9). -/
def State.setStatus (s : State) (r : PrinterId) (v : PrinterStatus) : State :=
  let old := (s.printer r).status
  if old = v then s
  else
    let s := s.setPrinter r { s.printer r with status := v }
    (if old.usable && !v.usable then s.printerFault r else s).raisePrinter r

/-- A status report: the status set and the status timer restarted (R130). -/
def State.statusReport (s : State) (r : PrinterId) (v : PrinterReport) : State :=
  (s.setPrinter r { s.printer r with statusTimer := some (s.timebase + Config.statusLimit) }).setStatus r
    (PrinterStatus.ofReport v)

/-! ### The form of a receipt (R134) -/

/-- A header line is blank when it is empty or holds spaces alone (R158). -/
def blankText (t : Text) : Bool := t.all fun c => decide (c = 0x20#8)

/-- The header lines that are not blank, in line order; their number is h (R158; log 23). -/
def State.countedHeaders (s : State) : List (Fin 4) :=
  (List.finRange 4).filter fun i => !blankText s.headers[i]

/-- The lines of a ticket's receipt with h header lines, n ticket lines and m marks (Table 7-4). -/
def receiptLength (kind : TicketReceipt) (h n m : Nat) : Nat :=
  match kind with
  | .settlement => h + 4 * n + m + 8
  | .payout => h + 4 * n + m + 10
  | .voidNotice => h + m + 8

/-- The slots of a day whose weight or amount is not 0 (Table 7-4). -/
def Totals.usedSlots (t : Totals) : List (Fin 32) :=
  (List.finRange 32).filter fun i => decide (t.slots[i].weight ≠ 0) || decide (t.slots[i].amount ≠ 0)

/-- The lines of a day report with h header lines and s slots (Table 7-4). -/
def reportLength (h s : Nat) : Nat := h + s + 12

/-- The rank of a job from its port's role (Table 7-3). -/
def Role.rank : Role → Nat
  | .supervisor => 3
  | .payout => 2
  | .scalehouse => 1
  | .yard => 0

/-! ### New jobs (R133) -/

/-- The job id counter advanced, from 255 to 1 (R133). -/
def advanceJob (n : Nat) : Nat := if 255 ≤ n then 1 else n + 1

/-- The first job id from the counter on that no job in the pool holds (R133). -/
def freeJobId (jobs : List Job) : Nat → Nat → Nat
  | 0, n => n
  | fuel + 1, n => if jobs.any (fun j => decide (j.id = n)) then freeJobId jobs fuel (advanceJob n) else n

/-- The id the next job takes (R133). -/
def State.newJobId (s : State) : Nat := freeJobId s.jobs 255 s.nextJob

/-- A job joins the pool QUEUED with a new job id and age stamp, no line printed (R133, R137). -/
def State.addJob (s : State) (j : Job) : State :=
  { s with
    jobs := s.jobs ++ [{ j with id := s.newJobId, age := s.nextAge, state := .queued, printed := 0, frozen := none }]
    nextJob := advanceJob s.newJobId
    nextAge := s.nextAge + 1 }

/-- The job that prints a receipt of a ticket as things stand (R134, R137). Its id, age and state are those `addJob` gives. -/
def State.ticketJob (s : State) (t : Ticket) (kind : JobKind) (receipt : TicketReceipt) (printer : PrinterId)
    (source : JobSource) (port : PortId) (reprint copy : Bool) : Job :=
  let marks := receiptMarks t s.storeLost reprint copy
  let counted := s.countedHeaders
  { id := 0, printer := printer, kind := kind, source := source, port := port, rank := (s.port port).role.rank,
    age := 0, state := .queued, counted := counted, marks := marks, markLine := [],
    total := receiptLength receipt counted.length t.lines.length marks.length, printed := 0, frozen := none }

/-- The job that prints the day report (R134, R170). -/
def State.reportJob (s : State) (rep : DayReport) (o : ReportOwed) : Job :=
  let counted := s.countedHeaders
  { id := 0, printer := o.printer, kind := .dayReport, source := .report o.stamp, port := o.port,
    rank := (s.port o.port).role.rank, age := 0, state := .queued, counted := counted, marks := [],
    markLine := reportMarks s.storeLost o.started,
    total := reportLength counted.length rep.totals.usedSlots.length, printed := 0, frozen := none }

/-! ### Owed receipts (R135, R136, R137) -/

/-- An owed receipt of the part: a ticket's or the day report's. -/
inductive OwedItem where
  | ofTicket (t : Ticket) (o : Owed)
  | ofReport (rep : DayReport) (o : ReportOwed)
deriving DecidableEq, Repr

/-- The owed order stamp of an owed receipt. -/
def OwedItem.stamp : OwedItem → Nat
  | .ofTicket _ o => o.stamp
  | .ofReport _ o => o.stamp

/-- The source of a job that serves an owed receipt (R136). -/
def OwedItem.source : OwedItem → JobSource
  | .ofTicket t o => .owed t.number o.stamp
  | .ofReport _ o => .report o.stamp

/-- Every owed receipt of the part: the owed field of each ticket and the day report record (R199). -/
def State.owedItems (s : State) : List OwedItem :=
  s.tickets.filterMap (fun t => t.owed.map (OwedItem.ofTicket t)) ++
    match s.report with
    | none => []
    | some rep => match rep.owed with
      | none => []
      | some o => [.ofReport rep o]

/-- An owed receipt put in its place in owed order (R135). -/
def insertByStamp (x : OwedItem) : List OwedItem → List OwedItem
  | [] => [x]
  | y :: ys => if x.stamp ≤ y.stamp then x :: y :: ys else y :: insertByStamp x ys

/-- The owed receipts oldest first (R135). -/
def owedOrder (xs : List OwedItem) : List OwedItem := xs.foldr insertByStamp []

/-- A job in the pool serves an owed receipt (R136). -/
def State.served (s : State) (x : OwedItem) : Bool := s.jobs.any fun j => decide (j.source = x.source)

/-- A receipt owed by a ticket is blocked by a job other than a COPY that refers to the ticket and does not serve it
(R136). -/
def State.blocked (s : State) (x : OwedItem) : Bool :=
  match x with
  | .ofTicket t _ => s.jobs.any fun j => j.refersTo t.number && decide (j.source ≠ x.source)
  | .ofReport _ _ => false

/-- The job that serves an owed receipt (R137). -/
def State.jobFor (s : State) (x : OwedItem) : Job :=
  match x with
  | .ofTicket t o => s.ticketJob t (.ticket o.kind) o.kind o.printer x.source o.port o.started false
  | .ofReport rep o => s.reportJob rep o

/-- One owed receipt taken by the service: a job is created when it is neither served nor blocked and the pool has room
(R137). -/
def State.serveOne (s : State) (x : OwedItem) : State :=
  if s.jobs.length < Config.maxJobs ∧ s.served x = false ∧ s.blocked x = false then s.addJob (s.jobFor x) else s

/-- One run of the owed-receipt service, in owed order (R137). -/
def State.runService (s : State) : State := (owedOrder s.owedItems).foldl State.serveOne s

/-- The place of a stamp among the stamps owed, from 1 upward (R135). -/
def rankOf (stamps : List Nat) (stamp : Nat) : Nat := 1 + (stamps.filter fun x => decide (x < stamp)).length

/-- Every owed receipt renumbered from 1 upward in the order of its stamp, with the job that serves it; the counter
continues after the last stamp given (R135). -/
def State.restamp (s : State) : State :=
  let stamps := s.owedItems.map OwedItem.stamp
  let sources := s.owedItems.map OwedItem.source
  { s with
    tickets := s.tickets.map fun t => { t with owed := t.owed.map fun o => { o with stamp := rankOf stamps o.stamp } }
    report := s.report.map fun rep =>
      { rep with owed := rep.owed.map fun o => { o with stamp := rankOf stamps o.stamp } }
    jobs := s.jobs.map fun j =>
      if j.source ∈ sources then
        match j.source with
        | .owed n stamp => { j with source := .owed n (rankOf stamps stamp) }
        | .report stamp => { j with source := .report (rankOf stamps stamp) }
        | .copyTicket _ => j
        | .copySnapshot _ => j
      else j
    nextStamp := stamps.length + 1 }

/-- The owed order counter advanced past the stamp just given (R135; log 10). -/
def State.advanceStamp (s : State) : State :=
  if s.nextStamp < Config.maxStamp then { s with nextStamp := s.nextStamp + 1 } else s.restamp

/-- A receipt as it becomes owed: the counter's stamp, the started flag clear (R100, R125, R51). -/
def State.newOwed (s : State) (kind : TicketReceipt) (printer : PrinterId) (port : PortId) : Owed :=
  { kind := kind, printer := printer, port := port, stamp := s.nextStamp, started := false }

/-- A ticket comes to owe a receipt, on the default printer of a port that is its owing port, and the counter advances
(R135). -/
def State.owe (s : State) (t : Ticket) (kind : TicketReceipt) (port : PortId) : State :=
  (s.putTicket { t with owed := some (s.newOwed kind (s.port port).defaultPrinter port) }).advanceStamp

/-- The job that serves an owed receipt of a ticket (R136). -/
def State.servingJob? (s : State) (n : Nat) (o : Owed) : Option Job :=
  s.jobs.find? fun j => decide (j.source = .owed n o.stamp)

end Sys2Proof.Machine
end

