-- ==== Sys2Proof/Machine/DayTotals.lean ====
section
/-! DEFINITION. The day totals (chapter 8): READ TOTALS and END DAY. -/

namespace Sys2Proof.Machine

/-! ### READ TOTALS (R165, R166) -/

/-- The eight slots of a part 1 to 4 (R166). -/
def partSlots (part : Nat) : List (Fin 32) :=
  (List.finRange 32).filter fun i => decide (8 * (part - 1) ≤ i.val) && decide (i.val < 8 * part)

/-- The summary figures both sources carry first: the day number, the counts, the totals and TOTALS_SATURATED. -/
def summaryBytes (day : Nat) (t : Totals) : List Byte :=
  numBytes 2 day ++ numBytes 3 t.paidCount ++ numBytes 3 t.voidCount ++ numBytes 5 t.cash ++ numBytes 5 t.voucher
    ++ intBytes 5 t.rounding ++ yesNoBytes t.saturated

/-- Part 0 of the live totals (R166). -/
def State.liveSummary (s : State) : List Byte :=
  summaryBytes s.dayNumber s.totals ++ numBytes 1 s.totals.usedSlots.length ++ numBytes 4 s.nextTicket
    ++ numBytes 4 s.nextWeighing

/-- The owed mark of the day report with its printer, owing port and started flag (R166). -/
def reportOwedBytes (o : ReportOwed) : List Byte :=
  numBytes 1 o.printer.val ++ numBytes 1 o.port.val ++ yesNoBytes o.started

/-- Part 0 of the day report record (R166). -/
def reportSummary (rep : DayReport) : List Byte :=
  summaryBytes rep.day rep.totals ++ timeBytes rep.time ++ numBytes 1 rep.totals.usedSlots.length
    ++ optBytes 3 (rep.owed.map reportOwedBytes)

/-- The weight and amount of a slot (R166). -/
def slotBytes (x : SlotTotal) : List Byte := numBytes 5 x.weight ++ numBytes 5 x.amount

/-- A part of the live totals (R166). -/
def State.livePart (s : State) (part : Nat) : List Byte :=
  if part = 0 then s.liveSummary else (partSlots part).flatMap fun i => slotBytes s.totals.slots[i]

/-- A part of the day report record (R166). -/
def reportPart (rep : DayReport) (part : Nat) : List Byte :=
  if part = 0 then reportSummary rep
  else (partSlots part).flatMap fun i => textBytes rep.labels[i] ++ slotBytes rep.totals.slots[i]

/-- READ TOTALS's effect (R165, R166). -/
def readTotals (a : TwoByteArgs) (s : State) : Effect :=
  match TotalsSource.ofCode? a.first with
  | none => s.refuse .range
  | some source =>
    if 4 < a.second then s.refuse .range
    else match source with
      | .live => s.finish (s.livePart a.second)
      | .report =>
        match s.report with
        | none => s.refuse .notFound
        | some rep => s.finish (reportPart rep a.second)

/-- READ TOTALS. -/
def execReadTotals (k : Packet) (s : State) : Result :=
  takeCommand false supervisorOnly TwoByteArgs.parse readTotals k s

/-! ### END DAY (R167 to R171) -/

/-- The day number advanced, from 9,999 to 1 (R171). -/
def advanceDay (n : Nat) : Nat := if 9999 ≤ n then 1 else n + 1

/-- The day report is owed (R167). -/
def State.reportIsOwed (s : State) : Bool :=
  match s.report with
  | none => false
  | some rep => rep.owed.isSome

/-- The day report record END DAY writes (R168). -/
def State.dayReport (s : State) (port : PortId) (printer : PrinterId) : DayReport :=
  { day := s.dayNumber, totals := s.totals, labels := mapItems Rule.label s.active, time := s.clock,
    owed := some { printer := printer, port := port, stamp := s.nextStamp, started := false } }

/-- A port with the paid today of its drawer at 0 (R169). -/
def Port.zeroPaid (q : Port) : Port := { q with drawer := q.drawer.map fun d => { d with paidToday := 0 } }

/-- The whole of an END DAY that passes (R168, R169): the record, the totals and every paid today at 0, the day number and
the owed order counter advanced. -/
def State.endDay (s : State) (port : PortId) (printer : PrinterId) : State :=
  ({ s with
    report := some (s.dayReport port printer), totals := Totals.zero, dayNumber := advanceDay s.dayNumber,
    ports := mapItems Port.zeroPaid s.ports } : State).advanceStamp

/-- The owed order stamp the day report carries. -/
def State.reportStamp (s : State) : Nat :=
  match s.report with
  | none => 0
  | some rep => match rep.owed with
    | none => 0
    | some o => o.stamp

/-- END DAY's effect (R167 to R169). -/
def endDay (port : PortId) (printer : Nat) (s : State) : Effect :=
  match indexOf? 2 printer with
  | none => s.refuse .range
  | some r =>
    if s.reportIsOwed then s.refuse .reportOwed
    else
      let s' := s.endDay port r
      s'.finish (numBytes 2 s.dayNumber ++ numBytes 2 s'.dayNumber ++ numBytes 4 s'.reportStamp)

/-- END DAY. -/
def execEndDay (k : Packet) (s : State) : Result :=
  takeCommand false supervisorOnly parseOne (endDay k.port) k s

end Sys2Proof.Machine
end

