-- ==== Sys2Proof/Machine/Payout.lean ====
section
/-! DEFINITION. The payout unit (chapter 6): the clock, holds, drawers and PAY, with the feeding of the day totals (8.2). -/

namespace Sys2Proof.Machine

/-! ### The clock (R107, R108) -/

/-- One second later; the clock stops at its last value (R107). -/
def ClockTime.next (t : ClockTime) : ClockTime :=
  if t.second < Config.maxSecond then { t with second := t.second + 1 }
  else if t.day < Config.maxDay then { day := t.day + 1, second := 0 }
  else t

/-- The clock advances at the time the timebase gives it (R107). -/
def State.advanceClock (s : State) : State :=
  let s := s.reach s.clockDue
  { s with clock := s.clock.next, clockDue := s.clockDue + 1000 }

/-- The clock's advance and what it brings about (R107, R110): each HELD ticket whose release time is reached is released, in
the order of the table. While the main supply is absent or the reset line is low the clock runs on and nothing is released
(R196, R197; the restart releases, R113). -/
def State.clockAdvance (s : State) : State := s.advanceClock.whileRunning fun s => s.releaseDue s.tickets

/-- CLOCK_ADVANCE (R107, R110). -/
def execClockAdvance (s : State) : Result := .next s.clockAdvance

/-- A day of 1 to 65,535 and a second of 0 to 86,399 (R108). -/
def clockOk (t : ClockTime) : Bool :=
  decide (1 ≤ t.day) && decide (t.day ≤ Config.maxDay) && decide (t.second ≤ Config.maxSecond)

/-- SET CLOCK's effect (R108, R110). The time of the next advance stays (log 21). The
number of tickets released is sent in 1 byte (DESIGN CHOICE, log 25). -/
def setClock (time : ClockTime) (s : State) : Effect :=
  if clockOk time then
    let s' := ({ s with clock := time } : State)
    (s'.releaseDue s'.tickets).finish (numBytes 1 (s'.tickets.filter fun t => t.due time).length)
  else s.refuse .range

/-- SET CLOCK. -/
def execSetClock (k : Packet) (s : State) : Result :=
  takeCommand false supervisorOnly parseClock setClock k s

/-! ### Holds (R110, R111) -/

/-- HOLD_EXPIRY's effect (R110): the ticket is released when its hold is over, after the tickets before it in the table
whose holds are over too (log 20). A ticket that the clock's advance has released is PAYABLE, and the expiry does nothing
(R112). -/
def State.expireHold (s : State) (n : Nat) : State :=
  match s.tickets.findIdx? fun t => decide (t.number = n) with
  | none => s
  | some i =>
    match s.tickets[i]? with
    | none => s
    | some t => if t.due s.clock then s.releaseDue (s.tickets.take (i + 1)) else s

/-- HOLD_EXPIRY (R110). -/
def execHoldExpiry (n : Nat) (s : State) : Result := .next (s.whileRunning fun s => s.expireHold n)

/-- A ticket required to be HELD. -/
def isHeld (st : TicketState) : Bool := decide (st = .held)

/-- RELEASE HOLD's effect (R111). -/
def releaseHold (n : Nat) (s : State) : Effect :=
  s.withTicket true n isHeld fun t => (s.releaseTicket t).finish []

/-- RELEASE HOLD. -/
def execReleaseHold (k : Packet) (s : State) : Result :=
  takeCommand false supervisorOnly parseTicket releaseHold k s

/-! ### Drawers (R114 to R118) -/

/-- A port's drawer replaced. -/
def State.setDrawer (s : State) (p : PortId) (d : Drawer) : State := s.setPort p { s.port p with drawer := some d }

/-- An amount of 1 to 9,999,999,999 cents (R116). -/
def amountOk (n : Nat) : Bool := decide (1 ≤ n) && decide (n ≤ Config.maxBalance)

/-- FLOAT's effect (R116). -/
def floatDrawer (port : PortId) (a : DrawerArgs) (s : State) : Effect :=
  match indexOf? 4 a.port, amountOk a.amount with
  | some p, true =>
    if (s.port port).role = .payout ∧ p ≠ port then s.refuse .role
    else match (s.port p).drawer with
      | none => s.refuse .noDrawer
      | some d =>
        if Config.maxBalance < d.balance + a.amount then s.refuse .drawerLimit
        else (s.setDrawer p { d with balance := d.balance + a.amount }).finish (numBytes 5 (d.balance + a.amount))
  | _, _ => s.refuse .range

/-- FLOAT. -/
def execFloat (k : Packet) (s : State) : Result :=
  takeCommand false supervisorOrPayout DrawerArgs.parse (floatDrawer k.port) k s

/-- LIFT's effect (R117). -/
def liftDrawer (a : DrawerArgs) (s : State) : Effect :=
  match indexOf? 4 a.port, amountOk a.amount with
  | some p, true =>
    match (s.port p).drawer with
    | none => s.refuse .noDrawer
    | some d =>
      if d.balance < a.amount then s.refuse .drawerShort
      else (s.setDrawer p { d with balance := d.balance - a.amount }).finish (numBytes 5 (d.balance - a.amount))
  | _, _ => s.refuse .range

/-- LIFT. -/
def execLift (k : Packet) (s : State) : Result :=
  takeCommand false supervisorOnly DrawerArgs.parse liftDrawer k s

/-- READ DRAWER's effect (R118); the range is tested before the port's own drawer (R177, log 12). -/
def readDrawer (port : PortId) (named : Nat) (s : State) : Effect :=
  match indexOf? 4 named with
  | none => s.refuse .range
  | some p =>
    if (s.port port).role = .payout ∧ p ≠ port then s.refuse .role
    else match (s.port p).drawer with
      | none => s.refuse .noDrawer
      | some d =>
        s.finish (numBytes 5 d.balance ++ numBytes 5 d.paidToday ++ numBytes 5 s.settings.cashUnit
          ++ numBytes 5 s.settings.cashLimit)

/-- READ DRAWER. -/
def execReadDrawer (k : Packet) (s : State) : Result :=
  takeCommand false supervisorOrPayout parseOne (readDrawer k.port) k s

/-! ### Feeding the day totals (R162, R163) -/

/-- A line's weight and amount added to the slot of its base rule (R162, 1). -/
def Totals.addLine (t : Totals) (p : Pricing) : Totals :=
  let old := t.slots[p.slot]
  let (w, hitW) := addCapped Config.maxFigure old.weight p.payable
  let (a, hitA) := addCapped Config.maxFigure old.amount p.amount
  { t with slots := t.slots.set p.slot { weight := w, amount := a }, saturated := t.saturated || hitW || hitA }

/-- The lines of a ticket added in position order (R162, 1). -/
def Totals.addLines (t : Totals) (lines : List Line) : Totals :=
  lines.foldl (fun t ln => match ln.pricing with
    | none => t
    | some p => t.addLine p) t

/-- The amount paid added to the total of its method (R162, 2). -/
def Totals.addPaid (t : Totals) (method : PayMethod) (amount : Nat) : Totals :=
  match method with
  | .cash =>
    let (v, hit) := addCapped Config.maxFigure t.cash amount
    { t with cash := v, saturated := t.saturated || hit }
  | .voucher =>
    let (v, hit) := addCapped Config.maxFigure t.voucher amount
    { t with voucher := v, saturated := t.saturated || hit }

/-- The rounding added to the rounding total (R162, 3). -/
def Totals.addRounding (t : Totals) (r : Int) : Totals :=
  let (v, hit) := Machine.addRounding t.rounding r
  { t with rounding := v, saturated := t.saturated || hit }

/-- One paid ticket counted (R162, 4). -/
def Totals.countPaid (t : Totals) : Totals :=
  let (n, hit) := addCapped Config.maxCount t.paidCount 1
  { t with paidCount := n, saturated := t.saturated || hit }

/-- A payment fed to the totals in the order of R162. -/
def Totals.feed (t : Totals) (lines : List Line) (method : PayMethod) (amount : Nat) (rounding : Int) : Totals :=
  (((t.addLines lines).addPaid method amount).addRounding rounding).countPaid

/-- TOTALS_SATURATED set when a flag says so. -/
def Totals.orSaturated (t : Totals) (hit : Bool) : Totals := { t with saturated := t.saturated || hit }

/-! ### PAY (R120 to R126) -/

/-- The cash amount C of a total T at a cash unit u (R121). -/
def cashAmount (u total : Nat) : Nat := (total + (u - 1) / 2) / u * u

/-- The cash rounding R = C − T (R121). -/
def cashRounding (u total : Nat) : Int := (cashAmount u total : Int) - total

/-- The drawer after a cash payment, and whether its paid today would have passed its limit (R114, R122). -/
def Drawer.payOut (d : Drawer) (amount : Nat) : Drawer × Bool :=
  let (paid, hit) := addCapped Config.maxFigure d.paidToday amount
  ({ balance := d.balance - amount, paidToday := paid }, hit)

/-- A job converted to the PAYOUT receipt of its ticket (R138). -/
def State.convertedJob (s : State) (t : Ticket) (o : Owed) (j : Job) : Job :=
  let x := s.ticketJob t (.ticket .payout) .payout o.printer (.owed t.number o.stamp) o.port false false
  { x with id := j.id, age := j.age, state := j.state, printed := j.printed, frozen := j.frozen }

/-- The job that served a replaced SETTLEMENT receipt dealt with (R138). -/
def State.convertJob (s : State) (t : Ticket) (o : Owed) (j : Job) : State :=
  let x := s.convertedJob t o j
  match j.state with
  | .queued => s.putJob x
  | .taken =>
    if x.printer = j.printer then s.putJob x
    else (s.putJob { x with state := .queued }).closeReceipt j.printer
  | .printing => s

/-- The PAYOUT receipt becomes owed, in place of an owed SETTLEMENT receipt (R125, R138). -/
def State.owePayout (s : State) (t : Ticket) (port : PortId) : State :=
  let o := s.newOwed .payout (s.port port).defaultPrinter port
  let t' := { t with owed := some o }
  let s' := s.putTicket t'
  let s' := match t.owed with
    | none => s'
    | some old =>
      match s'.servingJob? t.number old with
      | none => s'
      | some j => s'.convertJob t' o j
  s'.advanceStamp

/-- The ticket record as a payment leaves it, before its owed receipt (R124). -/
def State.paidTicket (s : State) (t : Ticket) (port : PortId) (method : PayMethod) (amount : Nat) (rounding : Int) :
    Ticket :=
  { t with
    state := .paid
    payout := some { method := method, amount := amount, rounding := rounding, port := port, time := s.clock } }

/-- A payment carried out apart from its drawer (R124): the totals fed, the payout record and the state written, one TICKET
event raised, and the PAYOUT receipt owed. `hit` is the saturation of the drawer's paid today. -/
def State.payTicket (s : State) (t : Ticket) (port : PortId) (method : PayMethod) (amount : Nat) (rounding : Int)
    (hit : Bool) : State :=
  let totals := (s.totals.feed t.lines method amount rounding).orSaturated hit
  let t' := s.paidTicket t port method amount rounding
  (({ s with totals := totals } : State).moveTicket t').owePayout t' port

/-- A payment reaches the limit of an accumulator or of paid today (R163): its feeding alone, on totals with the flag clear,
sets the flag. -/
def State.paySaturates (s : State) (t : Ticket) (method : PayMethod) (amount : Nat) (rounding : Int) (hit : Bool) : Bool :=
  ((({ s.totals with saturated := false } : Totals).feed t.lines method amount rounding).orSaturated hit).saturated

/-- The data of a PAY reply (R126). -/
def payData (method : PayMethod) (amount : Nat) (rounding : Int) (balance : Option Nat) : List Byte :=
  numBytes 1 method.code ++ numBytes 5 amount ++ intBytes 5 rounding ++ optBytes 5 (balance.map (numBytes 5))

/-- A payment by cash (R121, R122). -/
def State.payCash (s : State) (port : PortId) (t : Ticket) (total : Nat) : Effect :=
  match (s.port port).drawer with
  | none => s.refuse .noDrawer
  | some d =>
    if s.settings.cashLimit < total then s.refuse .cashLimit
    else
      let c := cashAmount s.settings.cashUnit total
      let r := cashRounding s.settings.cashUnit total
      if d.balance < c then s.refuse .drawerShort
      else
        let (d', hit) := d.payOut c
        ((s.setDrawer port d').payTicket t port .cash c r hit,
          some (answerWith
            (notesOf [(decide (r ≠ 0), .cashRounded), (s.paySaturates t .cash c r hit, .totalsSaturated)])
            (payData .cash c r (some d'.balance))))

/-- A payment by voucher (R123). -/
def State.payVoucher (s : State) (port : PortId) (t : Ticket) (total : Nat) : Effect :=
  (s.payTicket t port .voucher total 0 false,
    some (answerWith (notesOf [(s.paySaturates t .voucher total 0 false, .totalsSaturated)])
      (payData .voucher total 0 none)))

/-- The total of a ticket's settlement record; every PAYABLE ticket has one (R97). -/
def Ticket.total (t : Ticket) : Nat :=
  match t.settlement with
  | none => 0
  | some r => r.total

/-- PAY's effect (R120 to R126). -/
def pay (port : PortId) (a : TicketByteArgs) (s : State) : Effect :=
  match ticketNumberOk a.ticket, PayMethod.ofCode? a.value with
  | true, some method =>
    match s.ticket? a.ticket with
    | none => s.refuse .noTicket
    | some t =>
      if t.state = .held then s.refuse .onHold
      else if t.state ≠ .payable then s.refuse .state
      else match method with
        | .cash => s.payCash port t t.total
        | .voucher => s.payVoucher port t t.total
  | _, _ => s.refuse .range

/-- PAY. -/
def execPay (k : Packet) (s : State) : Result :=
  takeCommand false supervisorOrPayout TicketByteArgs.parse (pay k.port) k s

end Sys2Proof.Machine
end

