-- ==== Sys2Proof/Machine/Power.lean ====
section
/-! DEFINITION. The retained store and restart (chapter 11): the supply, the reset line, the store's test, warm and cold
starts, and SYSTEM RESET. -/

namespace Sys2Proof.Machine

/-! ### Volatile start values (Table 11-2) -/

/-- A channel at a restart: its configuration, Z and Zc kept, every other item at its start value (R24, R26). -/
def Channel.restarted (ch : Channel) : Channel :=
  { ch with
    window := [], state := if ch.config.enabled then .noData else .off, zeroRequired := true, stale := none,
    slot := none }

/-- A port at a restart: its role, default printer and drawer kept, every other item at its start value (R182, R195). -/
def Port.restarted (q : Port) : Port := Port.start q.role q.defaultPrinter q.drawer

/-- A ticket at a restart: the capture marks of its lines cleared (R57). -/
def Ticket.unmarked (t : Ticket) : Ticket := { t with lines := t.lines.map fun ln => { ln with mark := none } }

/-- Every volatile item at its start value (Table 11-2); a printer's status timer starts (R131, R160). -/
def State.volatileStart (s : State) : State :=
  { s with
    channels := mapItems Channel.restarted s.channels
    ports := mapItems Port.restarted s.ports
    printers := Vector.replicate 2 (Printer.start s.timebase)
    tickets := s.tickets.map Ticket.unmarked
    edit := none
    jobs := [], nextJob := 1, nextAge := 1 }

/-! ### The test of the store and the two starts (R198, R199, R200) -/

/-- The store is valid: the signature holds and the sum of the retained bytes equals the stored sum (R198). -/
def State.storeValid (s : State) : Bool := s.signatureHolds && decide (s.sumError = 0#16)

/-- Every retained item at its cold default, STORE_LOST set, the signature and the sum written (R199, R200). -/
def State.coldRetained (s : State) : State :=
  { s with
    tickets := [], tares := [], active := Vector.replicate 32 Rule.cold, generation := 0
    ports := coldPorts, settings := Settings.cold, totals := Totals.zero, dayNumber := 1, report := none
    nextTicket := 1, nextWeighing := 1, nextStamp := 1, snapshots := [], headers := Vector.replicate 4 []
    channels := Vector.replicate 4 Channel.cold, clock := { day := 1, second := 0 }
    storeLost := true, signatureHolds := true, sumError := 0#16 }

/-- A warm restart (R199): the volatile items started, the holds that passed released in table order (R113), and one run of
the owed-receipt service. No ticket is retired (log 22). -/
def State.warmStart (s : State) : State :=
  let s := s.volatileStart
  (s.releaseDue s.tickets).runService

/-- A cold start (R199). No receipt is owed, so the service creates no job. -/
def State.coldStart (s : State) : State := s.coldRetained.volatileStart

/-- A restart (R198). -/
def State.restart (s : State) : State := if s.storeValid then s.warmStart else s.coldStart

/-! ### The rows -/

/-- SYSTEM RESET's effect (R197): the part restarts and sends no reply. -/
def systemReset (_ : Unit) (s : State) : Effect := (s.restart, none)

/-- SYSTEM RESET. -/
def execSystemReset (k : Packet) (s : State) : Result :=
  takeCommand false supervisorOnly parseNone systemReset k s

/-- POWER_UP (R197): the main supply returns. The restart begins when the reset line is high, at once or at its release
(log 6). -/
def execPowerUp (s : State) : Result :=
  let s := { s with mainSupply := true }
  .next (if s.resetHigh then s.restart else s.volatileStart)

/-- MAIN_SUPPLY_FAIL (R196, R197): the part takes no further event, and its volatile state is lost. The store is as the last
event left it (log 5). -/
def execMainSupplyFail (s : State) : Result := .next ({ s with mainSupply := false } : State).volatileStart

/-- RESET_LINE_ASSERT (R197): the part takes no event while the line is low. -/
def execResetLineAssert (s : State) : Result := .next { s with resetHigh := false }

/-- RESET_LINE_RELEASE (R197): the line returns high and the part restarts, if its main supply is present. -/
def execResetLineRelease (s : State) : Result :=
  let s := { s with resetHigh := true }
  .next (if s.mainSupply then s.restart else s)

/-- BATTERY_FAILURE (R198): while the main supply is absent the store loses its contents, so that it fails its test. While
the supply is present, the supply keeps the store (log 5). -/
def execBatteryFailure (s : State) : Result :=
  .next (if s.mainSupply then s else { s with signatureHolds := false })

end Sys2Proof.Machine
end

