-- ==== Sys2Proof/Machine/Prices.lean ====
section
/-! DEFINITION. The price schedule (chapter 4): the lookup, EDIT RULE, COMMIT PRICES, DISCARD PRICES and READ RULE. -/

namespace Sys2Proof.Machine

/-! ### The lookup (R70 to R74) -/

/-- The first m digits of a six-digit code, as a number. -/
def leadingDigits (m code : Nat) : Nat := code / 10 ^ (6 - m)

/-- A rule matches a line (R70). -/
def Rule.covers (r : Rule) (grade : Nat) (cls : CustomerClass) : Bool :=
  r.enabled && decide (leadingDigits r.matchLength grade = leadingDigits r.matchLength r.pattern)
    && r.classes.getLsbD cls.code

/-- A BASE rule matches a line. -/
def Rule.coversBase (r : Rule) (grade : Nat) (cls : CustomerClass) : Bool :=
  decide (r.kind = .base) && r.covers grade cls

/-- An ADJUST rule matches a line. -/
def Rule.coversAdjust (r : Rule) (grade : Nat) (cls : CustomerClass) : Bool :=
  decide (r.kind = .adjust) && r.covers grade cls

/-- The highest-numbered slot of a bank whose BASE rule matches (R71). -/
def Bank.winner? (b : Bank) (grade : Nat) (cls : CustomerClass) : Option (Fin 32) :=
  ((List.finRange 32).filter fun i => b[i].coversBase grade cls).getLast?

/-- The sum of the adjustments of every matching ADJUST rule of a bank (R72). -/
def Bank.adjustments (b : Bank) (grade : Nat) (cls : CustomerClass) : Int :=
  ((b.toList.filter fun r => r.coversAdjust grade cls).map Rule.adjustment).sum

/-- A lookup result (R74). -/
structure Lookup where
  slot : Fin 32
  base : Nat
  adjust : Int
  effective : Nat
  clamped : Bool
  label : Text
  defaultDeduction : Nat
  holdHours : Nat
deriving DecidableEq, Repr

/-- B + A clamped to 0 to 99,999 (R73). -/
def clampPrice (v : Int) : Nat := (max 0 (min v 99999)).toNat

/-- The lookup of a line in a bank; none when it has no price (R71 to R74). -/
def Bank.lookup (b : Bank) (grade : Nat) (cls : CustomerClass) : Option Lookup :=
  (b.winner? grade cls).map fun i =>
    let r := b[i]
    let a := if r.acceptsAdjustments then b.adjustments grade cls else 0
    let v := (r.price : Int) + a
    { slot := i, base := r.price, adjust := a, effective := clampPrice v, clamped := decide (v < 0 ∨ 99999 < v),
      label := r.label, defaultDeduction := r.defaultDeduction, holdHours := r.holdHours }

/-! ### EDIT RULE (R69, R75, R76) -/

/-- A BASE rule's own fields of an edit, in range (R75, check 3). -/
def EditRuleArgs.baseRule? (a : EditRuleArgs) (common : Rule) : Option Rule :=
  match yesNo? a.accepts with
  | none => none
  | some accepts =>
    if a.price ≤ 99999 ∧ a.defaultDeduction ≤ 500 ∧ a.holdHours ≤ 240 then
      some { common with
        price := a.price, acceptsAdjustments := accepts, defaultDeduction := a.defaultDeduction,
        holdHours := a.holdHours }
    else none

/-- An ADJUST rule's own field of an edit, in range (R75, check 3). -/
def EditRuleArgs.adjustRule? (a : EditRuleArgs) (common : Rule) : Option Rule :=
  if -9999 ≤ a.adjustment ∧ a.adjustment ≤ 9999 then some { common with adjustment := a.adjustment } else none

/-- The rule an edit carries, when every field its kind tests is in range; the fields of the other kind are held as
R69 gives (R75, checks 2 to 4). -/
def EditRuleArgs.rule? (a : EditRuleArgs) : Option Rule :=
  match yesNo? a.enabled, RuleKind.ofCode? a.kind with
  | some enabled, some kind =>
    if a.pattern ≤ 999999 ∧ a.matchLength ≤ 6 ∧ a.classes ≤ 15 ∧ a.label.length ≤ 16 ∧ printable a.label = true
        ∧ ¬(enabled = true ∧ a.classes = 0) then
      let common : Rule :=
        { enabled := enabled, kind := kind, pattern := a.pattern, matchLength := a.matchLength,
          classes := BitVec.ofNat 4 a.classes, label := a.label, price := 0, acceptsAdjustments := false,
          defaultDeduction := 0, holdHours := 0, adjustment := 0 }
      match kind with
      | .base => a.baseRule? common
      | .adjust => a.adjustRule? common
    else none
  | _, _ => none

/-- The PENDING bank an edit writes: the one that is open, or a copy of the ACTIVE bank (R76). -/
def State.pendingBank (s : State) : Bank := s.edit.getD s.active

/-- EDIT RULE's effect (R75, R76). -/
def editRule (a : EditRuleArgs) (s : State) : Effect :=
  match indexOf? 32 a.slot, a.rule? with
  | some i, some r => ({ s with edit := some (s.pendingBank.set i r) } : State).finish []
  | _, _ => s.refuse .range

/-- EDIT RULE. -/
def execEditRule (k : Packet) (s : State) : Result :=
  takeCommand false supervisorOnly EditRuleArgs.parse editRule k s

/-! ### COMMIT PRICES and DISCARD PRICES (R77, R80) -/

/-- The generation after a commit, from 65,535 to 0 (R77). -/
def advanceGeneration (g : Nat) : Nat := if 65535 ≤ g then 0 else g + 1

/-- COMMIT PRICES's effect (R77, R79). -/
def commitPrices (_ : Unit) (s : State) : Effect :=
  match s.edit with
  | none => s.refuse .noPending
  | some b =>
    let g := advanceGeneration s.generation
    (({ s with active := b, generation := g, edit := none } : State).raise (.prices g)).finish (numBytes 2 g)

/-- COMMIT PRICES. -/
def execCommitPrices (k : Packet) (s : State) : Result :=
  takeCommand false supervisorOnly parseNone commitPrices k s

/-- DISCARD PRICES's effect (R80). -/
def discardPrices (_ : Unit) (s : State) : Effect :=
  match s.edit with
  | none => s.refuse .noPending
  | some _ => ({ s with edit := none } : State).finish []

/-- DISCARD PRICES. -/
def execDiscardPrices (k : Packet) (s : State) : Result :=
  takeCommand false supervisorOnly parseNone discardPrices k s

/-! ### READ RULE (R82) -/

/-- A rule record in a reply, every field of Table 4-2 in its order (R82). The grade pattern has 4 bytes (DESIGN CHOICE, log 25),
and the label is its length and its characters, unpadded (DEDUCED, log 11). -/
def ruleBytes (r : Rule) : List Byte :=
  yesNoBytes r.enabled ++ numBytes 1 r.kind.code ++ numBytes 4 r.pattern ++ numBytes 2 r.matchLength
    ++ numBytes 1 r.classes.toNat ++ textBytes r.label ++ numBytes 4 r.price ++ yesNoBytes r.acceptsAdjustments
    ++ numBytes 2 r.defaultDeduction ++ numBytes 2 r.holdHours ++ intBytes 4 r.adjustment

/-- The bank a read names; the PENDING bank is absent while the edit state is CLOSED (R82). -/
def State.bank? (s : State) : BankName → Option Bank
  | .active => some s.active
  | .pending => s.edit

/-- READ RULE's effect (R82). -/
def readRule (a : TwoByteArgs) (s : State) : Effect :=
  match BankName.ofCode? a.first, indexOf? 32 a.second with
  | some name, some i =>
    match s.bank? name with
    | none => s.refuse .noPending
    | some b => s.finish (ruleBytes b[i] ++ numBytes 2 s.generation ++ yesNoBytes s.edit.isSome)
  | _, _ => s.refuse .range

/-- READ RULE. -/
def execReadRule (k : Packet) (s : State) : Result :=
  takeCommand false anyRole TwoByteArgs.parse readRule k s

end Sys2Proof.Machine
end

