-- ==== Sys2Proof/Machine/Settlement.lean ====
section
/-! DEFINITION. The settlement unit (chapter 5): the checks of CLOSE TICKET, the arithmetic of a line, the ticket result
and the owed SETTLEMENT receipt. -/

namespace Sys2Proof.Machine

/-! ### Checks (R86, R87) -/

/-- A line lacks a gross or a tare (R86, check 3). -/
def Line.incomplete (ln : Line) : Bool := ln.gross.isNone || ln.tare.isNone

/-- A line's tare weight is greater than its gross weight (R86, check 4). -/
def Line.invalidNet (ln : Line) : Bool :=
  match ln.gross, ln.tare with
  | some g, some t => decide (g.weight < t.weight)
  | _, _ => false

/-- A line holds a weighing of class MARGIN (R86, check 5). -/
def Line.hasMargin (ln : Line) : Bool := ln.gross.any Weighing.margin || ln.tare.any Weighing.margin

/-- A line has no price in a bank for a customer class (R86, check 6). -/
def Line.noPrice (b : Bank) (cls : CustomerClass) (ln : Line) : Bool := (b.lookup ln.grade cls).isNone

/-- The checks of Table 5-3, each over every line before the next: the first reason that fails, with the position it
carries, 0 for none. -/
def closeCheck (b : Bank) (t : Ticket) : Option (Reason × Nat) :=
  if t.lines = [] then some (.noLines, 0)
  else match firstLine (fun ln => ln.mark.isSome) t.lines with
  | some k => some (.capturePending, k)
  | none =>
    match firstLine Line.incomplete t.lines with
    | some k => some (.incompleteLine, k)
    | none =>
      match firstLine Line.invalidNet t.lines with
      | some k => some (.invalidNet, k)
      | none =>
        match firstLine (fun ln => ln.hasMargin && !t.marginAccepted) t.lines with
        | some k => some (.marginUnaccepted, k)
        | none => (firstLine (Line.noPrice b t.customerClass) t.lines).map fun k => (.noPrice, k)

/-! ### Arithmetic of a line (R89 to R95) -/

/-- The deduction weight D of a net N at p permille, exact halves going up (R90). -/
def deductionWeight (n p : Nat) : Nat := (n * p + 500) / 1000

/-- The line amount L of a raw product Q under a rounding mode (R93). -/
def lineAmount (mode : RoundingMode) (q : Nat) : Nat :=
  match mode with
  | .nearest => (q + 50) / 100
  | .down => q / 100

/-- The pricing record of a line from its weighings, its deduction, its lookup and the rounding mode (R96). -/
def pricingOf (mode : RoundingMode) (gross tare : Weighing) (deduction : Option Nat) (l : Lookup) : Pricing :=
  let n := gross.weight - tare.weight
  let p := deduction.getD l.defaultDeduction
  let d := deductionWeight n p
  let w := n - d
  { slot := l.slot, base := l.base, adjust := l.adjust, effective := l.effective, clamped := l.clamped,
    label := l.label, permille := p, net := n, deduction := d, payable := w,
    amount := lineAmount mode (w * l.effective), marks := lineMarks gross tare l.clamped }

/-- A line priced; a line that lacks a weighing or a price stays as it is, which the checks rule out. -/
def Line.priced (mode : RoundingMode) (b : Bank) (cls : CustomerClass) (ln : Line) : Line :=
  match ln.gross, ln.tare, b.lookup ln.grade cls with
  | some g, some t, some l => { ln with pricing := some (pricingOf mode g t ln.deduction l) }
  | _, _, _ => ln

/-! ### The ticket result (R97, R98, R99) -/

/-- The amount of a line. -/
def Line.amount (ln : Line) : Nat :=
  match ln.pricing with
  | none => 0
  | some p => p.amount

/-- The ticket total T: the sum of the line amounts (R97). -/
def ticketTotal (lines : List Line) : Nat := (lines.map Line.amount).sum

/-- The hold hours of a ticket: the largest of the hold hours of the winning rules of its lines (R98). -/
def holdHours (b : Bank) (cls : CustomerClass) (lines : List Line) : Nat :=
  (lines.map fun ln => match b.lookup ln.grade cls with
    | none => 0
    | some l => l.holdHours).foldl max 0

/-- A close time advanced by hours, kept at the last day and second (R98). -/
def releaseTime (now : ClockTime) (hours : Nat) : ClockTime :=
  let seconds := now.second + hours * 3600
  let day := now.day + seconds / 86400
  if Config.maxDay < day then { day := Config.maxDay, second := Config.maxSecond }
  else { day := day, second := seconds % 86400 }

/-- The settlement record of a close (R99). -/
def State.settlementOf (s : State) (t : Ticket) (lines : List Line) : Settlement :=
  let hours := holdHours s.active t.customerClass t.lines
  { closed := s.clock, generation := s.generation, total := ticketTotal lines,
    release := if hours = 0 then none else some (releaseTime s.clock hours) }

/-- The ticket record as a close leaves it, before an owed receipt (R96, R99). -/
def State.settled (s : State) (t : Ticket) : Ticket :=
  let lines := t.lines.map (Line.priced s.settings.roundingMode s.active t.customerClass)
  let r := s.settlementOf t lines
  { t with lines := lines, settlement := some r, state := if r.release.isSome then .held else .payable }

/-- Some line of a ticket was clamped (R101). -/
def Ticket.anyClamped (t : Ticket) : Bool := t.lines.any fun ln => ln.pricing.any Pricing.clamped

/-- The reply of a close: T, the new state, the generation, and the release time when the ticket is HELD (R101). -/
def closeAnswer (t : Ticket) : Answer :=
  match t.settlement with
  | none => .success []
  | some r =>
    answerWith (notesOf [(t.anyClamped, .priceClamped), (r.release.isSome, .held)])
      (numBytes 5 r.total ++ numBytes 1 t.state.code ++ numBytes 2 r.generation ++ optBytes 5 (r.release.map timeBytes))

/-- CLOSE TICKET's effect (R85 to R101). -/
def closeTicket (port : PortId) (a : TicketByteArgs) (s : State) : Effect :=
  s.withTicket (yesNo? a.value).isSome a.ticket isOpened fun t =>
    match closeCheck s.active t with
    | some (reason, line) => (s, some (.stop reason line))
    | none =>
      let t' := s.settled t
      let s' := s.moveTicket t'
      (if yesNo? a.value = some true then s'.owe t' .settlement port else s', some (closeAnswer t'))

/-- CLOSE TICKET. -/
def execCloseTicket (k : Packet) (s : State) : Result :=
  takeCommand false supervisorOrScalehouse TicketByteArgs.parse (closeTicket k.port) k s

end Sys2Proof.Machine
end

