-- ==== Sys2Proof/Machine/Receipts.lean ====
section
/-! DEFINITION. What the lines of each receipt hold (Table 7-6), formed from a job's source when a line is sent (R134),
and the text of a line on the printer line (R129). -/

namespace Sys2Proof.Machine

/-! ### The text of a line (R129) -/

/-- The text of a receipt line, cut at 42 characters (R129). A header line's text is its own. A blank line is empty, and so
are the total line of a receipt without a total and a mark line that names no mark (Table 7-6). The text of every other
line is the free value `Config.lineText` (log 13). -/
def ReceiptLine.text (l : ReceiptLine) : Text :=
  match l with
  | .header t => t.take 42
  | .blank => []
  | .total none => []
  | .markLine [] => []
  | l => (Config.lineText l).take 42

/-! ### The parts of a receipt (Table 7-6); their order on the paper is log 13 -/

/-- A header line as it stands when it is sent: blank when it has become blank (R134). -/
def State.headerLine (s : State) (i : Fin 4) : ReceiptLine :=
  if blankText s.headers[i] then .blank else .header s.headers[i]

/-- The four lines of one ticket line. -/
def linePart (position : Nat) (ln : Line) : List ReceiptLine :=
  [.lineGrade position ln.grade (ln.pricing.map Pricing.label), .lineGross ln.gross,
    .lineTare ln.tare (ln.pricing.map Pricing.net), .lineFigures ln.pricing]

/-- The lines of the ticket lines from a position on, four for each. -/
def lineParts : Nat → List Line → List ReceiptLine
  | _, [] => []
  | k, ln :: lns => linePart k ln ++ lineParts (k + 1) lns

/-- The fixed lines of a SETTLEMENT before its end line. -/
def settlementTop (kind : JobKind) (t : Ticket) : List ReceiptLine :=
  [.title kind, .ticketOpened t.number t.openedBy, .closeTime (t.settlement.map Settlement.closed),
    .customer t.customerClass t.customer, .plate t.plate,
    .generationAndHold (t.settlement.map Settlement.generation) (t.settlement.bind Settlement.release),
    .total (t.settlement.map Settlement.total)]

/-- The two lines a PAYOUT adds. -/
def payoutPart (t : Ticket) : List ReceiptLine :=
  [.payMethod (t.payout.map Payout.method) (t.payout.map Payout.amount), .payRounding t.payout]

/-- The fixed lines of a VOID_NOTICE before its end line. -/
def voidTop (kind : JobKind) (t : Ticket) : List ReceiptLine :=
  [.title kind, .ticketOpened t.number t.openedBy, .customer t.customerClass t.customer, .plate t.plate,
    .closeAndGeneration (t.settlement.map fun r => (r.closed, r.generation)),
    .total (t.settlement.map Settlement.total), .voidReason t.voidReason t.voidPort]

/-- The lines of a ticket's receipt after its header. -/
def receiptBody (kind : JobKind) (receipt : TicketReceipt) (t : Ticket) (marks : List ReceiptMark) (now : ClockTime) :
    List ReceiptLine :=
  match receipt with
  | .settlement => settlementTop kind t ++ lineParts 1 t.lines ++ marks.map .mark ++ [.endWithTime now]
  | .payout => settlementTop kind t ++ lineParts 1 t.lines ++ payoutPart t ++ marks.map .mark ++ [.endWithTime now]
  | .voidNotice => voidTop kind t ++ marks.map .mark ++ [.endLine]

/-- The lines of a day report after its header. -/
def reportBody (rep : DayReport) (markLine : List ReceiptMark) : List ReceiptLine :=
  [.title .dayReport, .dayNumber rep.day, .paidCount rep.totals.paidCount, .voidCount rep.totals.voidCount,
    .cashTotal rep.totals.cash, .voucherTotal rep.totals.voucher, .roundingTotal rep.totals.rounding,
    .saturatedState rep.totals.saturated, .endDayTime rep.time, .separator]
    ++ rep.totals.usedSlots.map (fun i =>
        .slotLine i.val rep.labels[i] rep.totals.slots[i].weight rep.totals.slots[i].amount)
    ++ [.markLine markLine, .endLine]

/-- The ticket record a job prints from: the snapshot of R139 when it has one, else its source. -/
def State.jobTicket? (s : State) (j : Job) : Option Ticket :=
  match j.frozen with
  | some t => some t
  | none =>
    match j.source with
    | .owed n _ => s.ticket? n
    | .copyTicket n => s.ticket? n
    | .copySnapshot i => s.snapshots[i]?
    | .report _ => none

/-- Every line of a job's receipt as it would be sent now (R134). -/
def State.jobLines (s : State) (j : Job) : List ReceiptLine :=
  j.counted.map s.headerLine ++
    match j.kind with
    | .dayReport => match s.report with
      | none => []
      | some rep => reportBody rep j.markLine
    | .ticket k => match s.jobTicket? j with
      | none => []
      | some t => receiptBody j.kind k t j.marks s.clock
    | .copy k => match s.jobTicket? j with
      | none => []
      | some t => receiptBody j.kind k t j.marks s.clock

/-- The next line of a job (R143, R144). -/
def State.nextLine (s : State) (j : Job) : ReceiptLine := (s.jobLines j).getD j.printed .blank

/-- The next LINE of a job sent (R129). -/
def State.sendLine (s : State) (j : Job) : State := s.sendAwaited j.printer (.line (s.nextLine j)) j.id

end Sys2Proof.Machine
end

