-- ==== Sys2Proof/Machine/Printers.lean ====
section
/-! DEFINITION. The rows of the print engine (chapter 7): status frames, answers and timers of a printer, the arbiter, the
owed-receipt service, the printer lock, copies, cancellation, the header, and READ PRINTER. -/

namespace Sys2Proof.Machine

/-! ### Completion of a job (R145, R146) -/

/-- A DONE job's effect on the ticket record (R146, 1 and 2): settlement printed, and the owed field cleared when it still
holds the kind and the stamp the job carries. -/
def Ticket.afterPrint (t : Ticket) (kind : TicketReceipt) (stamp : Nat) : Ticket :=
  { t with
    settlementPrinted := t.settlementPrinted || decide (kind = .settlement)
    owed := match t.owed with
      | none => none
      | some o => if o.kind = kind ∧ o.stamp = stamp then none else some o }

/-- A VOID ticket comes to owe its VOID_NOTICE on the default printer of its voiding port as it stands now (R51, R146). -/
def State.oweVoidNotice (s : State) (t : Ticket) : State :=
  match t.voidPort with
  | none => s
  | some p => s.owe t .voidNotice p

/-- A DONE job's effects on the ticket it was printed from, in the order of R146. -/
def State.ticketPrinted (s : State) (n : Nat) (kind : TicketReceipt) (stamp : Nat) : State :=
  match s.ticket? n with
  | none => s
  | some t =>
    let t := t.afterPrint kind stamp
    let s := s.putTicket t
    let s :=
      if t.state = .voided ∧ kind = .settlement ∧ t.owed.isNone ∧ t.settlementPrinted = true then s.oweVoidNotice t
      else s
    s.retireIfDone n

/-- A DONE day report clears its record's owed mark (R146, R170). The printer, owing port and started flag of the owed report go with
the mark (DESIGN CHOICE, log 27). -/
def State.reportPrinted (s : State) (stamp : Nat) : State :=
  match s.report with
  | none => s
  | some rep =>
    match rep.owed with
    | none => s
    | some o => if o.stamp = stamp then { s with report := some { rep with owed := none } } else s

/-- A DONE job acts on its source (R146). A COPY changes no source. -/
def State.sourceEffects (s : State) (j : Job) : State :=
  match j.source, j.kind with
  | .owed n stamp, .ticket kind => s.ticketPrinted n kind stamp
  | .report stamp, .dayReport => s.reportPrinted stamp
  | _, _ => s

/-- The last line accepted: END sent, the job DONE, its source acted on, a PENDING lock settled (R145). -/
def State.finishJob (s : State) (j : Job) : State :=
  (((s.sendEnd j.printer).leavePool j .printed).sourceEffects j).settleLock j.printer

/-! ### Answers (R143, R144, R149) -/

/-- The started flag of the owed receipt that a job serves is set (R136, R143). -/
def State.setStarted (s : State) (j : Job) : State :=
  match j.source with
  | .owed n stamp =>
    match s.ticket? n with
    | none => s
    | some t =>
      match t.owed with
      | none => s
      | some o => if o.stamp = stamp then s.putTicket { t with owed := some { o with started := true } } else s
  | .report stamp =>
    match s.report with
    | none => s
    | some rep =>
      match rep.owed with
      | none => s
      | some o =>
        if o.stamp = stamp then { s with report := some { rep with owed := some { o with started := true } } } else s
  | .copyTicket _ => s
  | .copySnapshot _ => s

/-- A usable answer to the BEGIN of a TAKEN job: it is PRINTING and its first LINE is sent (R143). -/
def State.startPrinting (s : State) (j : Job) : State :=
  let j := { j with state := .printing }
  ((s.putJob j).setStarted j).sendLine j

/-- ACCEPTED to a LINE: the line counts, and the next is sent or the job is DONE (R144, R145). -/
def State.lineAccepted (s : State) (j : Job) : State :=
  let j := { j with printed := j.printed + 1 }
  if j.printed < j.total then (s.putJob j).sendLine j else s.finishJob j

/-- A usable answer matched to the awaited frame of the active job. READY or PAPER_LOW to a LINE sends the same LINE
again (R144; log 15). -/
def State.answerUsable (s : State) (r : PrinterId) (frame : PrinterFrame) (accepted : Bool) : State :=
  match s.activeJob? r with
  | none => s
  | some j =>
    match j.state with
    | .taken => s.startPrinting j
    | .printing => if accepted then s.lineAccepted j else s.sendAwaited r frame j.id
    | .queued => s

/-- The awaited answer cleared and its timer stopped (R130, R131). -/
def State.clearAwaited (s : State) (r : PrinterId) : State :=
  s.setPrinter r { s.printer r with awaited := none }

/-- The status report an answer carries, if it carries one (R130). -/
def State.answerReport (s : State) (r : PrinterId) (a : PrinterAnswer) : State :=
  match a with
  | .accepted => s
  | .report v => s.statusReport r v

/-- An answer leaves the printer usable for its job: ACCEPTED, READY or PAPER_LOW (R143, R144). -/
def answerKeepsUsable : PrinterAnswer → Bool
  | .accepted => true
  | .report v => (PrinterStatus.ofReport v).usable

/-- An answer from a printer (R130, R143, R144, R149): discarded when none is awaited, the closing of a receipt when a close
is owed, and otherwise the next stage of the active job. -/
def State.answer (s : State) (r : PrinterId) (a : PrinterAnswer) : State :=
  match (s.printer r).awaited with
  | none => s.answerReport r a
  | some w =>
    if (s.printer r).closeOwed then ((s.clearAwaited r).sendEnd r).answerReport r a
    else
      let s := (s.clearAwaited r).answerReport r a
      if answerKeepsUsable a then s.answerUsable r w.frame (decide (a = .accepted)) else s

/-- PRINTER_STATUS_FRAME (R130). A frame whose check fails is no arrival. -/
def execPrinterStatusFrame (r : PrinterId) (status : PrinterReport) (checkHolds : Bool) (s : State) : Result :=
  .next (s.whileRunning fun s => if checkHolds then s.statusReport r status else s)

/-- PRINTER_ANSWER (R130, R143, R144, R149). A frame whose check fails is no arrival. -/
def execPrinterAnswer (r : PrinterId) (answer : PrinterAnswer) (checkHolds : Bool) (s : State) : Result :=
  .next (s.whileRunning fun s => if checkHolds then s.answer r answer else s)

/-- An answer timer that runs out (R131, R149): the awaited answer is cleared, an owed close is sent, and the status
becomes OFFLINE, which is a fault when the printer was usable. -/
def State.expireAnswer (s : State) (r : PrinterId) : State :=
  match (s.printer r).awaited with
  | none => s
  | some w =>
    let s := (s.reach w.expiry).clearAwaited r
    let s := if (s.printer r).closeOwed then s.sendEnd r else s
    s.setStatus r .offline

/-- ANSWER_TIMER_EXPIRY (R131). -/
def execAnswerTimerExpiry (r : PrinterId) (s : State) : Result :=
  .next (s.whileRunning fun s => s.expireAnswer r)

/-- A status timer that runs out (R131): the status becomes OFFLINE. -/
def State.expireStatus (s : State) (r : PrinterId) : State :=
  match (s.printer r).statusTimer with
  | none => s
  | some time =>
    let s := s.reach time
    (s.setPrinter r { s.printer r with statusTimer := none }).setStatus r .offline

/-- STATUS_TIMER_EXPIRY (R131). -/
def execStatusTimerExpiry (r : PrinterId) (s : State) : Result :=
  .next (s.whileRunning fun s => s.expireStatus r)

/-! ### The arbiter (R141, R142) -/

/-- The first job of a list under an order. -/
def pickJob (before : Job → Job → Bool) (js : List Job) : Option Job :=
  js.foldl (fun best j => match best with
    | none => some j
    | some b => if before j b then some j else some b) none

/-- One job is older than another (R141). -/
def Job.older (a b : Job) : Bool := decide (a.age < b.age)

/-- One job goes before another with the lock NONE: higher rank, or equal rank and older (R141). -/
def Job.outranks (a b : Job) : Bool := decide (b.rank < a.rank) || (decide (a.rank = b.rank) && a.older b)

/-- The QUEUED jobs of a printer. -/
def State.queuedOn (s : State) (r : PrinterId) : List Job :=
  s.jobs.filter fun j => decide (j.printer = r) && decide (j.state = .queued)

/-- The job the arbiter of a printer would take (R141). -/
def State.arbiterChoice (s : State) (r : PrinterId) : Option Job :=
  if (s.printer r).status.usable && s.printerFree r then
    match (s.printer r).lock with
    | .none => pickJob Job.outranks (s.queuedOn r)
    | .pending _ => none
    | .locked p => pickJob Job.older ((s.queuedOn r).filter fun j => decide (j.port = p))
  else none

/-- The arbiter of a printer takes a job: it is TAKEN and its BEGIN is sent (R141, R142). -/
def State.arbiterTake (s : State) (r : PrinterId) : State :=
  match s.arbiterChoice r with
  | none => s
  | some j => (s.putJob { j with state := .taken }).sendAwaited r .begin j.id

/-- ARBITER_TAKE (R141). -/
def execArbiterTake (r : PrinterId) (s : State) : Result :=
  .next (s.whileRunning fun s => s.arbiterTake r)

/-- OWED_RECEIPT_SERVICE (R137). -/
def execOwedReceiptService (s : State) : Result := .next (s.whileRunning State.runService)

/-! ### The lock (R151, R152) -/

/-- LOCK PRINTER's effect (Table 7-8). -/
def lockPrinter (port : PortId) (printer : Nat) (s : State) : Effect :=
  match indexOf? 2 printer with
  | none => s.refuse .range
  | some r =>
    match (s.printer r).lock with
    | .locked _ => s.finish []
    | .pending _ => (s, some (.noted [.lockPending] []))
    | .none =>
      match s.activeJob? r with
      | none => (s.setLock r (.locked port)).finish []
      | some j =>
        if j.port = port then (s.setLock r (.locked port)).finish []
        else match j.state with
          | .printing => (s.setLock r (.pending port), some (.noted [.lockPending] []))
          | .taken => ((s.requeue j).setLock r (.locked port)).finish []
          | .queued => (s.setLock r (.locked port)).finish []

/-- LOCK PRINTER. -/
def execLockPrinter (k : Packet) (s : State) : Result :=
  takeCommand false supervisorOnly parseOne (lockPrinter k.port) k s

/-- UNLOCK PRINTER's effect (R152). -/
def unlockPrinter (printer : Nat) (s : State) : Effect :=
  match indexOf? 2 printer with
  | none => s.refuse .range
  | some r =>
    match (s.printer r).lock with
    | .none => s.refuse .notLocked
    | .pending _ => (s.setLock r .none).finish []
    | .locked _ => (s.setLock r .none).finish []

/-- UNLOCK PRINTER. -/
def execUnlockPrinter (k : Packet) (s : State) : Result :=
  takeCommand false supervisorOnly parseOne unlockPrinter k s

/-- Every lock a port holds released, each with its PRINTER event, PR0's before PR1's (R153, R185; the order is a DESIGN
CHOICE, log 9). -/
def State.releaseLocks (s : State) (p : PortId) : State :=
  (List.finRange 2).foldl (fun s r =>
    if (s.printer r).lock.holder? = some p then s.setLock r .none else s) s

/-! ### Cancellation and copies (R154, R155) -/

/-- CANCEL JOB's effect (R154). -/
def cancelJob (port : PortId) (id : Nat) (s : State) : Effect :=
  if id = 0 then s.refuse .range
  else match s.jobs.find? fun j => decide (j.id = id) with
    | none => s.refuse .noJob
    | some j =>
      if j.port ≠ port ∧ (s.port port).role ≠ .supervisor then s.refuse .role
      else match j.kind with
        | .ticket _ => s.refuse .owedJob
        | .dayReport => s.refuse .owedJob
        | .copy _ =>
          if j.state = .printing then s.refuse .jobStarted else (s.cancelOne j).finish []

/-- CANCEL JOB. -/
def execCancelJob (k : Packet) (s : State) : Result :=
  takeCommand false notYard parseOne (cancelJob k.port) k s

/-- The receipt a copy of a ticket or snapshot prints (R155); an OPEN ticket is copied from nowhere. -/
def Ticket.copyKind? (t : Ticket) : Option TicketReceipt :=
  match t.state with
  | .opened => none
  | .held => some .settlement
  | .payable => some .settlement
  | .paid => some .payout
  | .voided => some .voidNotice

/-- The place of the newest snapshot of a ticket number (R155). -/
def newestSnapshot (n : Nat) (snapshots : List Ticket) : Option Nat :=
  (((List.range snapshots.length).filter fun i =>
    match snapshots[i]? with
    | some t => decide (t.number = n)
    | none => false).getLast?)

/-- The source of a copy (R155): a live ticket that is not OPEN, else the newest snapshot. -/
def State.copySource (s : State) (n : Nat) : Option (JobSource × Ticket × TicketReceipt) :=
  match (s.ticket? n).bind (fun t => t.copyKind?.map fun k => (JobSource.copyTicket n, t, k)) with
  | some found => some found
  | none =>
    (newestSnapshot n s.snapshots).bind fun i =>
      s.snapshots[i]?.bind fun t => t.copyKind?.map fun k => (JobSource.copySnapshot i, t, k)

/-- PRINT COPY's effect (R155). -/
def printCopy (port : PortId) (a : TicketByteArgs) (s : State) : Effect :=
  match ticketNumberOk a.ticket, indexOf? 2 a.value with
  | true, some r =>
    match s.copySource a.ticket with
    | none => s.refuse .notFound
    | some (source, t, kind) =>
      if Config.maxJobs ≤ s.jobs.length then s.refuse .poolFull
      else
        let j := s.ticketJob t (.copy kind) kind r source port false true
        (s.addJob j).finish (numBytes 1 s.newJobId ++ numBytes 1 j.total)
  | _, _ => s.refuse .range

/-- PRINT COPY. -/
def execPrintCopy (k : Packet) (s : State) : Result :=
  takeCommand false notYard TicketByteArgs.parse (printCopy k.port) k s

/-! ### Header and READ PRINTER (R158, R159) -/

/-- SET HEADER's effect (R158). -/
def setHeader (a : SetHeaderArgs) (s : State) : Effect :=
  match indexOf? 4 (a.line - 1) with
  | some i =>
    if a.line = 0 ∨ 42 < a.text.length ∨ printable a.text = false then s.refuse .range
    else ({ s with headers := s.headers.set i a.text } : State).finish []
  | none => s.refuse .range

/-- SET HEADER. -/
def execSetHeader (k : Packet) (s : State) : Result :=
  takeCommand false supervisorOnly SetHeaderArgs.parse setHeader k s

/-- A job as READ PRINTER returns it (R159). -/
def jobBytes (j : Job) : List Byte :=
  numBytes 1 j.id ++ numBytes 1 j.kind.code ++ optBytes 1 (j.kind.copied?.map fun k => numBytes 1 k.code)
    ++ numBytes 1 j.state.code ++ numBytes 1 j.port.val ++ numBytes 1 j.rank ++ numBytes 1 j.total
    ++ numBytes 1 j.printed

/-- The data of READ PRINTER (R159). The pool is in order of age, since a job joins it at its creation. -/
def State.printerData (s : State) (r : PrinterId) : List Byte :=
  numBytes 1 (s.printer r).status.code ++ numBytes 1 (s.printer r).lock.code
    ++ optBytes 1 ((s.printer r).lock.holder?.map fun p => numBytes 1 p.val)
    ++ yesNoBytes (s.printerFree r)
    ++ (s.jobs.filter fun j => decide (j.printer = r)).flatMap jobBytes
    ++ numBytes 1 s.jobs.length

/-- READ PRINTER's effect (R159). -/
def readPrinter (printer : Nat) (s : State) : Effect :=
  match indexOf? 2 printer with
  | none => s.refuse .range
  | some r => s.finish (s.printerData r)

/-- READ PRINTER. -/
def execReadPrinter (k : Packet) (s : State) : Result :=
  takeCommand false anyRole parseOne readPrinter k s

end Sys2Proof.Machine
end

