-- ==== Sys2Proof/Machine/Captures.lean ====
section
/-! DEFINITION. The two ends of a capture that both owners share: the request reaching its channel (R16, R17), and the
completion with its class test and its owner's tests (R19, R20, R44 to R46, R61). -/

namespace Sys2Proof.Machine

/-- The tests a line capture's owner makes on a NORMAL or MARGIN reading of weight w, on a channel of division d, with
n lines in the ticket (R44, R45, R46). -/
def lineTest (role : CaptureRole) (d : Nat) (w : Int) (n : Nat) : Option Reason :=
  match role with
  | .gross => if w < 20 * d then some .belowMin else none
  | .tare => if w < 0 then some .negativeTare else none
  | .chain =>
    if w < 20 * d then some .belowMin
    else if Config.maxLines ≤ n then some .lineLimit
    else none

/-- The tests of a tare capture (R61): its class, its minimum, and the room for its plate. -/
def tareTest (s : State) (plate : Text) (d : Nat) (r : Reading) : Option Reason :=
  if r.readingClass = .margin then some .weightRange
  else if r.weight < 20 * d then some .belowMin
  else if s.tares.all (fun e => decide (e.plate ≠ plate)) && decide (Config.maxTares ≤ s.tares.length) then
    some .tableFull
  else none

/-- The weighing record of a completing reading (R20). -/
def State.weighingOf (s : State) (c : ChannelId) (r : Reading) : Weighing :=
  { weight := r.weight.toNat, margin := decide (r.readingClass = .margin), source := .scale c,
    number := s.nextWeighing, time := s.clock }

/-- A weighing recorded in line k by a capture role, the line's mark cleared; a CHAIN also appends a line with the
grade given and the same record as its gross (R44, R45, R46). -/
def Ticket.recordWeighing (t : Ticket) (k : Nat) (role : CaptureRole) (grade : Nat) (w : Weighing) : Ticket :=
  match role with
  | .gross => t.changeLine k fun ln => { ln with gross := some w, mark := none }
  | .tare => t.changeLine k fun ln => { ln with tare := some w, mark := none }
  | .chain =>
    let t := t.changeLine k fun ln => { ln with tare := some w, mark := none }
    { t with lines := t.lines ++ [{ Line.fresh grade with gross := some w }] }

/-- The answer of a completed line capture: the weighing number, and for a CHAIN the new line's position (R44, R46). -/
def lineCaptureAnswer (role : CaptureRole) (r : Reading) (number lines : Nat) : Answer :=
  answerWith (notesOf [(decide (r.readingClass = .margin), .marginWeight)])
    (numBytes 4 number ++ match role with
      | .chain => numBytes 1 lines
      | .gross => []
      | .tare => [])

/-- A tare entry stored at the end of the order, an entry of its plate removed first (R61). -/
def State.storeTare (s : State) (e : TareEntry) : State :=
  { s with tares := s.tares.filter (fun x => decide (x.plate ≠ e.plate)) ++ [e] }

/-- A capture that fails at completion: nothing recorded, no number used, the line's mark cleared (R20, R44 to R46). -/
def State.failCapture (s : State) (owner : CaptureOwner) (reason : Reason) : State × Answer :=
  (s.setMark owner none, .stop reason 0)

/-- The completion of a capture with a reading (R20): the class test, the owner's tests, and the record.
A line capture whose line has gone is answered CANCELLED (log 18). -/
def State.completeCapture (s : State) (owner : CaptureOwner) (c : ChannelId) (r : Reading) : State × Answer :=
  if r.readingClass = .over ∨ r.readingClass = .under then s.failCapture owner .weightRange
  else match owner with
    | .line n k role grade =>
      match s.ticket? n with
      | none => (s, .stop .cancelled 0)
      | some t =>
        match t.line? k with
        | none => (s, .stop .cancelled 0)
        | some _ =>
          match lineTest role (s.channel c).config.division r.weight t.lines.length with
          | some reason => s.failCapture owner reason
          | none =>
            let t' := t.recordWeighing k role grade (s.weighingOf c r)
            ((s.putTicket t').giveWeighing, lineCaptureAnswer role r s.nextWeighing t'.lines.length)
    | .tare plate =>
      match tareTest s plate (s.channel c).config.division r with
      | some reason => s.failCapture owner reason
      | none =>
        let replaced := s.tares.any fun e => decide (e.plate = plate)
        ((s.storeTare { plate := plate, tare := s.weighingOf c r, channel := c }).giveWeighing,
          .success (numBytes 4 s.nextWeighing ++ yesNoBytes replaced))

/-- The kind of command in progress that a waiting capture is. -/
def CaptureOwner.progress : CaptureOwner → ProgressKind
  | .line _ _ _ _ => .capture
  | .tare _ => .storeTare

/-- A capture placed in its channel's slot to wait: the line's mark set, the timeout's expiry fixed, and the command
in progress on its port (R17, R42, R180). -/
def State.placeCapture (s : State) (c : ChannelId) (owner : CaptureOwner) (mark : Option Side) (k : Packet) : State :=
  let s := s.setMark owner mark
  let cap : Capture :=
    { owner := owner, port := k.port, tag := k.tag, expiry := s.timebase + 1000 * s.settings.captureTimeout }
  let s := s.setChannel c { s.channel c with slot := some cap }
  s.setPort k.port { s.port k.port with busy := some { kind := owner.progress, tag := k.tag } }

/-- The checks a channel makes on a capture request (R16). -/
def Channel.captureCheck (ch : Channel) : Option Reason :=
  if ch.state = .off then some .scaleOff
  else if ch.zeroRequired then some .zeroRequired
  else if ch.slot.isSome then some .scaleBusy
  else if ch.state = .noData then some .noData
  else none

/-- A capture request reaching its channel (R16, R17): refused, completed at once with the newest window entry when
the channel is STABLE, or placed in the slot to wait. -/
def State.requestCapture (s : State) (c : ChannelId) (owner : CaptureOwner) (mark : Option Side) (k : Packet) : Effect :=
  match (s.channel c).captureCheck with
  | some reason => s.refuse reason
  | none =>
    match (s.channel c).state, (s.channel c).window.getLast? with
    | .stable, some r =>
      let (t, answer) := s.completeCapture owner c r
      (t, some answer)
    | _, _ => (s.placeCapture c owner mark k, none)

/-- A waiting capture completed by the arrival that made its channel STABLE (R7, R19): the slot is freed and the
requesting port answered by the tests of R20. -/
def State.completeWaiting (s : State) (c : ChannelId) : State :=
  match (s.channel c).slot, (s.channel c).window.getLast? with
  | some cap, some r =>
    let (t, answer) := (s.freeSlot c).completeCapture cap.owner c r
    t.reply cap.port cap.tag answer
  | _, _ => s

end Sys2Proof.Machine
end

