-- ==== Sys2Proof/Machine/Scale.lean ====
section
/-! DEFINITION. The scale channels (chapter 1): intake, rounding, classes, the window, the states, CONFIGURE SCALE,
ZERO, READ SCALE, and the ends of a waiting capture by its timers. -/

namespace Sys2Proof.Machine

/-! ### Readings (R2, R3, R4, R5) -/

/-- The rounded weight of a raw value: the multiple of d nearest to raw − Z, exact halves going up (R2). -/
def roundWeight (d : Nat) (zero raw : Int) : Int := d * ((raw - zero + (d / 2 : Nat)) / d)

/-- The class of an arrival (Table 1-3). -/
def classify (cfg : ScaleConfig) (overrange : Bool) (w : Int) : ReadingClass :=
  if overrange then .over
  else if w < -(20 * cfg.division : Nat) then .under
  else if w ≤ cfg.capacity then .normal
  else if w ≤ (cfg.capacity + 9 * cfg.division : Nat) then .margin
  else .over

/-- The window after an entry has joined: at most W entries, the oldest removed (R4). -/
def joinWindow (limit : Nat) (window : List Reading) (r : Reading) : List Reading :=
  (window ++ [r]).drop ((window ++ [r]).length - limit)

/-- Every two weights of a window differ by at most d: its largest less its smallest is at most d (R5). -/
def spreadWithin (d : Nat) (window : List Reading) : Bool :=
  window.all fun a => window.all fun b => decide (a.weight - b.weight ≤ d)

/-- The steadiness test (R5). -/
def steady (cfg : ScaleConfig) (window : List Reading) : Bool :=
  decide (window.length = cfg.windowLength) &&
    (window.all (fun r => decide (r.readingClass = .over)) ||
      (window.all (fun r => decide (r.readingClass ≠ .over)) && spreadWithin cfg.division window))

/-! ### Channel changes (R10) -/

/-- A channel replaced, with one SCALE event when its state or ZERO_REQUIRED changed (R10). -/
def State.changeChannel (s : State) (c : ChannelId) (x : Channel) : State :=
  if (s.channel c).state = x.state ∧ (s.channel c).zeroRequired = x.zeroRequired then s.setChannel c x
  else (s.setChannel c x).raise (.scale c x.state x.zeroRequired)

/-- A raw value a frame may carry (R1). -/
def rawInRange (raw : Int) : Bool := decide (-2000000 ≤ raw) && decide (raw ≤ 2000000)

/-- An OK or OVERRANGE arrival joined to its channel's window (R2, R3, R4, R7). -/
def Channel.join (ch : Channel) (now : Nat) (raw : Int) (overrange : Bool) : Channel :=
  let w := roundWeight ch.config.division ch.zero raw
  let window := joinWindow ch.config.windowLength ch.window
    { raw := raw, weight := w, readingClass := classify ch.config overrange w }
  { ch with
    window := window
    state := if steady ch.config window then .stable else .motion
    stale := some (now + ch.config.staleLimit) }

/-- An OK or OVERRANGE arrival (R7): the channel's new state, and the completion of a waiting capture when the channel
goes from MOTION to STABLE. -/
def State.arrive (s : State) (c : ChannelId) (raw : Int) (overrange : Bool) : State :=
  let old := s.channel c
  let new := old.join s.timebase raw overrange
  let s := s.changeChannel c new
  if old.state = .motion ∧ new.state = .stable then s.completeWaiting c else s

/-- A FAULT arrival (R6): the window emptied, ZERO_REQUIRED set, NO_DATA, the timer stopped, and a waiting capture ended
RETRY NO_DATA (R22). -/
def State.headFault (s : State) (c : ChannelId) : State :=
  (s.changeChannel c
    { s.channel c with window := [], zeroRequired := true, state := .noData, stale := none }).endCapture c
      (.stop .noData 0)

/-- READING_FRAME (R1): discarded, or an arrival at its channel. -/
def execReadingFrame (c : ChannelId) (raw : Int) (status : HeadStatus) (checkHolds : Bool) (s : State) : Result :=
  .next (s.whileRunning fun s =>
    if !checkHolds || !rawInRange raw || decide ((s.channel c).state = .off) then s
    else match status with
      | .ok => s.arrive c raw false
      | .overrange => s.arrive c raw true
      | .fault => s.headFault c
      | .other => s)

/-- A stale timer that runs out (R8): NO_DATA, the window emptied, the timer stopped, ZERO_REQUIRED unchanged, and a
waiting capture ended RETRY NO_DATA (R22). -/
def State.expireStale (s : State) (c : ChannelId) : State :=
  match (s.channel c).stale with
  | none => s
  | some time =>
    let s := s.reach time
    (s.changeChannel c { s.channel c with window := [], state := .noData, stale := none }).endCapture c
      (.stop .noData 0)

/-- STALE_EXPIRY (R8). A stopped timer does not expire. -/
def execStaleExpiry (c : ChannelId) (s : State) : Result :=
  .next (s.whileRunning fun s => s.expireStale c)

/-- A capture timeout that runs out (R21): the capture ends RETRY UNSTABLE; the channel's state and window stay. -/
def State.expireCapture (s : State) (c : ChannelId) : State :=
  match (s.channel c).slot with
  | none => s
  | some cap => (s.reach cap.expiry).endCapture c (.stop .unstable 0)

/-- CAPTURE_TIMEOUT (R21). A free slot has no timeout. -/
def execCaptureTimeout (c : ChannelId) (s : State) : Result :=
  .next (s.whileRunning fun s => s.expireCapture c)

/-! ### CONFIGURE SCALE (R11, R12) -/

/-- The divisions a channel may have (Table 1-6). -/
def divisions : List Nat := [1, 2, 5, 10, 20, 50, 100, 200, 500]

/-- The capacity and division tests of R11, in its order. -/
def capacityOk (capacity division : Nat) : Bool :=
  decide (division ∈ divisions) && (decide (1000 ≤ capacity) && decide (capacity ≤ 1000000))
    && decide (capacity % division = 0) && (decide (500 ≤ capacity / division) && decide (capacity / division ≤ 10000))

/-- A value replaced by the nearest limit (R11). -/
def clamp (low high v : Nat) : Nat := if v < low then low else if high < v then high else v

/-- A channel with a new configuration (R12). Z keeps its value. -/
def Channel.configure (ch : Channel) (cfg : ScaleConfig) : Channel :=
  { ch with
    config := cfg, calZero := none, window := [], zeroRequired := true, stale := none,
    state := if cfg.enabled then .noData else .off }

/-- CONFIGURE SCALE's effect (R11, R12). The enabled byte is tested with the channel (log 12). -/
def configureScale (a : ConfigureScaleArgs) (s : State) : Effect :=
  match indexOf? 4 a.channel, yesNo? a.enabled with
  | some c, some enabled =>
    if (s.channel c).slot.isSome then s.refuse .scaleBusy
    else if !capacityOk a.capacity a.division then s.refuse .range
    else
      let w := clamp 3 32 a.windowLength
      let stale := clamp 200 5000 a.staleLimit
      let cfg : ScaleConfig :=
        { enabled := enabled, capacity := a.capacity, division := a.division, windowLength := w, staleLimit := stale }
      (s.changeChannel c ((s.channel c).configure cfg),
        some (answerWith (notesOf [(decide (w ≠ a.windowLength) || decide (stale ≠ a.staleLimit), .clampedSetting)]) []))
  | _, _ => s.refuse .range

/-- CONFIGURE SCALE. -/
def execConfigureScale (k : Packet) (s : State) : Result :=
  takeCommand false supervisorOnly ConfigureScaleArgs.parse configureScale k s

/-! ### ZERO (R13, R14) -/

/-- A newest raw value too far from the calibration zero (R13, check 6). -/
def zeroTooFar (ch : Channel) (raw : Int) : Bool :=
  match ch.calZero with
  | none => false
  | some zc => decide (ch.config.capacity / 25 < (raw - zc).natAbs)

/-- The channel after a ZERO with a newest raw value (R14). -/
def Channel.zeroed (ch : Channel) (raw : Int) : Channel :=
  { ch with zero := raw, calZero := some (ch.calZero.getD raw), zeroRequired := false, window := [], state := .motion }

/-- ZERO's effect (R13, R14). -/
def zeroScale (channel : Nat) (s : State) : Effect :=
  match indexOf? 4 channel with
  | none => s.refuse .range
  | some c =>
    let ch := s.channel c
    if ch.state = .off then s.refuse .scaleOff
    else if ch.slot.isSome then s.refuse .scaleBusy
    else if ch.state ≠ .stable then s.refuse .unstable
    else match ch.window.getLast? with
      | none => s.refuse .unstable
      | some r =>
        if ch.window.all (fun r => decide (r.readingClass = .over)) then s.refuse .zeroRange
        else if zeroTooFar ch r.raw then s.refuse .zeroRange
        else (s.changeChannel c (ch.zeroed r.raw)).finish []

/-- ZERO. -/
def execZero (k : Packet) (s : State) : Result :=
  takeCommand false supervisorOrScalehouse parseOne zeroScale k s

/-! ### READ SCALE (R15) -/

/-- The data of READ SCALE (R15). -/
def scaleData (ch : Channel) : List Byte :=
  yesNoBytes ch.config.enabled ++ numBytes 4 ch.config.capacity ++ numBytes 4 ch.config.division
    ++ numBytes 1 ch.config.windowLength ++ numBytes 4 ch.config.staleLimit
    ++ intBytes 4 ch.zero ++ optBytes 4 (ch.calZero.map (intBytes 4))
    ++ numBytes 1 ch.state.code ++ yesNoBytes ch.zeroRequired ++ numBytes 1 ch.window.length
    ++ optBytes 5 (ch.window.getLast?.map fun r => intBytes 4 r.weight ++ numBytes 1 r.readingClass.code)
    ++ optBytes 1 (ch.slot.map fun cap => numBytes 1 cap.port.val)

/-- READ SCALE's effect (R15). -/
def readScale (channel : Nat) (s : State) : Effect :=
  match indexOf? 4 channel with
  | none => s.refuse .range
  | some c => s.finish (scaleData (s.channel c))

/-- READ SCALE. -/
def execReadScale (k : Packet) (s : State) : Result :=
  takeCommand false anyRole parseOne readScale k s

end Sys2Proof.Machine
end

