-- ==== Sys2Proof/Machine/Stations.lean ====
section
/-! DEFINITION. The commands of the part as a whole (chapters 9 and 11): READ STATUS, PORT RESET, CONFIGURE PORT, SET
OPTION and CLEAR FAULT. -/

namespace Sys2Proof.Machine

/-! ### READ STATUS (R187) -/

/-- A port in READ STATUS: its role, its default printer, and whether it has a command in progress. -/
def portStatus (q : Port) : List Byte :=
  numBytes 1 q.role.code ++ numBytes 1 q.defaultPrinter.val ++ yesNoBytes q.busy.isSome

/-- The device settings in the order of Table 9-14, each in the encoding of Table 9-4 that fits it (log 11). -/
def settingsBytes (x : Settings) : List Byte :=
  numBytes 1 x.roundingMode.code ++ numBytes 5 x.cashUnit ++ numBytes 5 x.cashLimit ++ numBytes 5 x.captureTimeout
    ++ numBytes 2 x.tareExpiry

/-- A channel in READ STATUS: its state and ZERO_REQUIRED. -/
def channelStatus (ch : Channel) : List Byte := numBytes 1 ch.state.code ++ yesNoBytes ch.zeroRequired

/-- A printer in READ STATUS: its status and lock state. -/
def printerStatus (r : Printer) : List Byte := numBytes 1 r.status.code ++ numBytes 1 r.lock.code

/-- The data of READ STATUS to a port (R187). -/
def State.statusData (s : State) (port : PortId) : List Byte :=
  timeBytes s.clock ++ yesNoBytes s.storeLost ++ yesNoBytes s.totals.saturated ++ numBytes 2 s.dayNumber
    ++ numBytes 1 port.val ++ s.ports.toList.flatMap portStatus ++ settingsBytes s.settings
    ++ s.channels.toList.flatMap channelStatus ++ s.printers.toList.flatMap printerStatus
    ++ numBytes 1 s.tickets.length ++ numBytes 1 s.jobs.length
    ++ numBytes 2 s.generation ++ yesNoBytes s.edit.isSome
    ++ numBytes 1 (s.port port).attention.length ++ yesNoBytes (s.port port).overflow

/-- READ STATUS's effect (R187). -/
def readStatus (port : PortId) (_ : Unit) (s : State) : Effect := s.finish (s.statusData port)

/-- READ STATUS. -/
def execReadStatus (k : Packet) (s : State) : Result :=
  takeCommand false anyRole parseNone (readStatus k.port) k s

/-! ### PORT RESET (R181) -/

/-- A port's attention items at their start values, and no command in progress (R181, R195). -/
def Port.cleared (q : Port) : Port :=
  { q with busy := none, attention := [], overflow := false, subscription := 0#5, release := false }

/-- The changes PORT RESET makes (R181): the capture abandoned, the locks released, the attention items cleared. -/
def State.portReset (s : State) (port : PortId) : State :=
  let s := (s.abandonCapture port).releaseLocks port
  s.setPort port (s.port port).cleared

/-- PORT RESET's effect (R181). -/
def portReset (port : PortId) (_ : Unit) (s : State) : Effect := (s.portReset port).finish []

/-- PORT RESET. A command in progress does not hold it back (Table 9-10). -/
def execPortReset (k : Packet) (s : State) : Result :=
  takeCommand true anyRole parseNone (portReset k.port) k s

/-! ### CONFIGURE PORT (R184, R185, R115) -/

/-- A configuration whose four bytes are in range: the port, its new role and printer, and the former role, absent for
NONE (R184, check 1). -/
structure PortChange where
  port : PortId
  role : Role
  printer : PrinterId
  former : Option Role
deriving DecidableEq, Repr

/-- The former role: NONE, 4, or a role other than SUPERVISOR (R184, check 1). -/
def formerRole? (v : Nat) : Option (Option Role) :=
  match v with
  | 4 => some none
  | 0 => none
  | v => (Role.ofCode? v).map some

/-- The range check of CONFIGURE PORT (R184, check 1). -/
def ConfigurePortArgs.change? (a : ConfigurePortArgs) : Option PortChange :=
  match indexOf? 4 a.port, Role.ofCode? a.role, indexOf? 2 a.printer, formerRole? a.former with
  | some p, some role, some r, some former => some { port := p, role := role, printer := r, former := former }
  | _, _, _, _ => none

/-- A port holds the role PAYOUT with a balance above 0 (R184, check 4). -/
def Port.drawerFull (q : Port) : Bool :=
  decide (q.role = .payout) && q.drawer.any fun d => decide (0 < d.balance)

/-- Checks 2 to 4 of R184. -/
def State.configureCheck (s : State) (requester : PortId) (x : PortChange) : Option Reason :=
  if x.port = requester ∧ x.role ≠ .supervisor then some .supervisorExists
  else if x.port ≠ requester ∧ x.role = .supervisor ∧ x.former.isNone then some .supervisorExists
  else if (s.port x.port).drawerFull = true ∧ x.role ≠ .payout then some .drawerNotEmpty
  else none

/-- The drawer a port has after its role is written (R115): kept within PAYOUT, created on entry, removed on exit. -/
def Port.drawerFor (q : Port) (role : Role) : Option Drawer :=
  if role = .payout then (if q.role = .payout then q.drawer else some Drawer.empty) else none

/-- A port with a role written (R115, R185). -/
def Port.withRole (q : Port) (role : Role) : Port := { q with role := role, drawer := q.drawerFor role }

/-- The changes CONFIGURE PORT makes (R185): the named port's role and printer, and in a handover the requesting port's role
and the release of its printer locks. -/
def State.configurePort (s : State) (requester : PortId) (x : PortChange) : State :=
  let s := s.setPort x.port { (s.port x.port).withRole x.role with defaultPrinter := x.printer }
  match x.former with
  | none => s
  | some role =>
    if x.port ≠ requester ∧ x.role = .supervisor then
      (s.setPort requester ((s.port requester).withRole role)).releaseLocks requester
    else s

/-- CONFIGURE PORT's effect (R184, R185). -/
def configurePort (requester : PortId) (a : ConfigurePortArgs) (s : State) : Effect :=
  match a.change? with
  | none => s.refuse .range
  | some x =>
    match s.configureCheck requester x with
    | some reason => s.refuse reason
    | none => (s.configurePort requester x).finish []

/-- CONFIGURE PORT. -/
def execConfigurePort (k : Packet) (s : State) : Result :=
  takeCommand false supervisorOnly ConfigurePortArgs.parse (configurePort k.port) k s

/-! ### SET OPTION (R186) -/

/-- The setting a value gives, and the value in force; none when the value is refused (Table 9-14). -/
def Settings.write? (x : Settings) (setting : Setting) (v : Nat) : Option (Settings × Nat) :=
  match setting with
  | .roundingMode => (RoundingMode.ofCode? v).map fun m => ({ x with roundingMode := m }, v)
  | .cashUnit => if v ∈ [1, 5, 10, 50] then some ({ x with cashUnit := v }, v) else none
  | .cashLimit => some ({ x with cashLimit := clamp 0 Config.maxBalance v }, clamp 0 Config.maxBalance v)
  | .captureTimeout => some ({ x with captureTimeout := clamp 1 60 v }, clamp 1 60 v)
  | .tareExpiry => some ({ x with tareExpiry := clamp 1 365 v }, clamp 1 365 v)

/-- SET OPTION's effect (R186). -/
def setOption (a : SetOptionArgs) (s : State) : Effect :=
  match Setting.ofCode? a.setting with
  | none => s.refuse .range
  | some setting =>
    match s.settings.write? setting a.value with
    | none => s.refuse .range
    | some (x, v) =>
      ({ s with settings := x },
        some (answerWith (notesOf [(decide (v ≠ a.value), .clampedSetting)]) (numBytes 1 setting.code ++ numBytes 5 v)))

/-- SET OPTION. -/
def execSetOption (k : Packet) (s : State) : Result :=
  takeCommand false supervisorOnly SetOptionArgs.parse setOption k s

/-! ### CLEAR FAULT (R200) -/

/-- CLEAR FAULT's effect (R200). -/
def clearFault (_ : Unit) (s : State) : Effect := ({ s with storeLost := false } : State).finish []

/-- CLEAR FAULT. -/
def execClearFault (k : Packet) (s : State) : Result :=
  takeCommand false supervisorOnly parseNone clearFault k s

end Sys2Proof.Machine
end

