-- ==== Sys2Proof/Machine/Tares.lean ====
section
/-! DEFINITION. The vehicle tare table (chapter 3): STORE TARE, DROP TARE, READ TARE and USE STORED TARE. -/

namespace Sys2Proof.Machine

/-- The entry of a plate (R58). -/
def State.tareEntry? (s : State) (plate : Text) : Option TareEntry := s.tares.find? fun e => decide (e.plate = plate)

/-- A plate of 1 to 10 plate characters (R59). -/
def presentPlateOk (t : Text) : Bool := plateOk t && decide (t ≠ [])

/-! ### STORE TARE (R59, R60) -/

/-- STORE TARE's effect (R59): the table's checks, then the request to the channel (R16, R17). -/
def storeTare (k : Packet) (a : PlateByteArgs) (s : State) : Effect :=
  match presentPlateOk a.plate, indexOf? 4 a.value with
  | true, some c =>
    let plate := upperCase a.plate
    if (s.tareEntry? plate).isNone ∧ Config.maxTares ≤ s.tares.length then s.refuse .tableFull
    else s.requestCapture c (.tare plate) none k
  | _, _ => s.refuse .range

/-- STORE TARE. -/
def execStoreTare (k : Packet) (s : State) : Result :=
  takeCommand false supervisorOrScalehouse PlateByteArgs.parse (storeTare k) k s

/-! ### DROP TARE (R63) -/

/-- DROP TARE's effect (R63). -/
def dropTare (plate : Text) (s : State) : Effect :=
  if presentPlateOk plate then
    match s.tareEntry? (upperCase plate) with
    | none => s.refuse .notFound
    | some _ =>
      ({ s with tares := s.tares.filter fun e => decide (e.plate ≠ upperCase plate) } : State).finish []
  else s.refuse .range

/-- DROP TARE. -/
def execDropTare (k : Packet) (s : State) : Result :=
  takeCommand false supervisorOnly parsePlate dropTare k s

/-! ### Age and expiry (R65) -/

/-- The age of an entry in days; 0 when the clock has been set back to a day before the record's (R65). -/
def TareEntry.age (e : TareEntry) (now : ClockTime) : Nat := now.day - e.tare.time.day

/-- An entry is expired when its age is greater than the tare expiry setting (R65). -/
def State.tareExpired (s : State) (e : TareEntry) : Bool := decide (s.settings.tareExpiry < e.age s.clock)

/-! ### READ TARE (R64) -/

/-- An entry in a reply (R64). -/
def State.tareBytes (s : State) (e : TareEntry) : List Byte :=
  textBytes e.plate ++ weighingBytes e.tare ++ numBytes 1 e.channel.val ++ numBytes 2 (e.age s.clock)
    ++ yesNoBytes (s.tareExpired e)

/-- READ TARE's effect (R64). With a plate, the starting place is ignored (log 12). -/
def readTare (a : PlateByteArgs) (s : State) : Effect :=
  if plateOk a.plate = false then s.refuse .range
  else if a.plate = [] then
    if 63 < a.value then s.refuse .range
    else s.finish (((s.tares.drop a.value).take 8).flatMap s.tareBytes ++ numBytes 1 s.tares.length)
  else match s.tareEntry? (upperCase a.plate) with
    | none => s.refuse .notFound
    | some e => s.finish (s.tareBytes e)

/-- READ TARE. -/
def execReadTare (k : Packet) (s : State) : Result :=
  takeCommand false supervisorOrScalehouse PlateByteArgs.parse readTare k s

/-! ### USE STORED TARE (R66) -/

/-- USE STORED TARE's effect (R66). -/
def useStoredTare (a : TicketLineArgs) (s : State) : Effect :=
  s.withLine true a.ticket a.line isOpened fun t ln =>
    match t.plate with
    | none => s.refuse .noPlate
    | some plate =>
      match s.tareEntry? plate with
      | none => s.refuse .tareUnknown
      | some e =>
        if s.tareExpired e then s.refuse .tareExpired
        else if ln.mark = some .tare then s.refuse .capturePending
        else if ln.tare.isSome then s.refuse .state
        else
          (s.putTicket (t.changeLine a.line fun ln => { ln with tare := some { e.tare with source := .stored } })).finish
            (numBytes 4 e.tare.number)

/-- USE STORED TARE. -/
def execUseStoredTare (k : Packet) (s : State) : Result :=
  takeCommand false supervisorOrScalehouse TicketLineArgs.parse useStoredTare k s

end Sys2Proof.Machine
end

