-- ==== Sys2Proof/Machine/Tickets.lean ====
section
/-! DEFINITION. The ticket requests (chapter 2): opening, lines, deductions, keyed weights, margin acceptance, CAPTURE,
VOID TICKET, REOPEN TICKET, READ TICKET and LIST TICKETS. -/

namespace Sys2Proof.Machine

/-! ### OPEN TICKET (R31, R33, R34) -/

/-- The first ticket number from the counter on that no ticket in the table carries (R31). -/
def freeTicketNumber (tickets : List Ticket) : Nat → Nat → Nat
  | 0, n => n
  | fuel + 1, n =>
    if tickets.any (fun t => decide (t.number = n)) then freeTicketNumber tickets fuel (advanceNumber n) else n

/-- The number OPEN TICKET gives (R31). -/
def State.newTicketNumber (s : State) : Nat := freeTicketNumber s.tickets s.tickets.length s.nextTicket

/-- Some OPEN ticket, other than one of a given number, carries a plate (R29, R33, R52). -/
def State.plateOpen (s : State) (plate : Option Text) (except : Option Nat) : Bool :=
  plate.isSome && s.tickets.any fun t =>
    decide (t.state = .opened) && decide (t.plate = plate) && decide (some t.number ≠ except)

/-- The ticket record OPEN TICKET creates (R34). -/
def State.freshTicket (s : State) (port : PortId) (cls : CustomerClass) (customer plate : Option Text) : Ticket :=
  { number := s.newTicketNumber, state := .opened, customerClass := cls, customer := customer, plate := plate,
    openedAt := s.clock, openedBy := port, lines := [], marginAccepted := false, settlement := none, payout := none,
    owed := none, settlementPrinted := false, voidReason := none, voidPort := none }

/-- A ticket at the end of the table's order, the counter advanced past its number (R31, R34). -/
def State.appendTicket (s : State) (t : Ticket) : State :=
  { s with tickets := s.tickets ++ [t], nextTicket := advanceNumber t.number }

/-- OPEN TICKET's effect (R33, R34). -/
def openTicket (port : PortId) (a : OpenTicketArgs) (s : State) : Effect :=
  match CustomerClass.ofCode? a.customerClass with
  | none => s.refuse .range
  | some cls =>
    if 12 < a.customer.length ∨ printable a.customer = false ∨ plateOk a.plate = false then s.refuse .range
    else
      let plate := presentText (upperCase a.plate)
      if Config.maxTickets ≤ s.tickets.length then s.refuse .tableFull
      else if s.plateOpen plate none then s.refuse .plateOpen
      else
        let t := s.freshTicket port cls (presentText a.customer) plate
        ((s.appendTicket t).raise (.ticket t.number (some .opened))).finish (numBytes 4 t.number)

/-- OPEN TICKET. -/
def execOpenTicket (k : Packet) (s : State) : Result :=
  takeCommand false supervisorOrScalehouse OpenTicketArgs.parse (openTicket k.port) k s

/-! ### Lines (R35, R36, R37, R38) -/

/-- ADD LINE's effect (R35). -/
def addLine (a : AddLineArgs) (s : State) : Effect :=
  s.withTicket (gradeOk a.grade) a.ticket isOpened fun t =>
    if Config.maxLines ≤ t.lines.length then s.refuse .lineLimit
    else (s.putTicket { t with lines := t.lines ++ [Line.fresh a.grade] }).finish (numBytes 1 (t.lines.length + 1))

/-- ADD LINE. -/
def execAddLine (k : Packet) (s : State) : Result :=
  takeCommand false notPayout AddLineArgs.parse addLine k s

/-- A capture's line after line k of a ticket has been removed: a line after it moves up one position (R36). -/
def CaptureOwner.renumber (n k : Nat) : CaptureOwner → CaptureOwner
  | .line m j role grade => if m = n ∧ k < j then .line m (j - 1) role grade else .line m j role grade
  | .tare plate => .tare plate

/-- The captures in flight keep their hold on their lines when line k of a ticket is removed (R36). -/
def State.renumberCaptures (s : State) (n k : Nat) : State :=
  { s with
    channels := mapItems (fun ch =>
      { ch with slot := ch.slot.map fun cap => { cap with owner := cap.owner.renumber n k } }) s.channels }

/-- Line k of a ticket removed with all it holds, the later lines renumbered (R36). -/
def State.removeLine (s : State) (n k : Nat) : State :=
  match s.ticket? n with
  | none => s
  | some t => (s.putTicket { t with lines := t.lines.eraseIdx (k - 1) }).renumberCaptures n k

/-- REMOVE LINE's effect (R36, R37). -/
def removeLine (a : TicketLineArgs) (s : State) : Effect :=
  s.withLine true a.ticket a.line isOpened fun t ln =>
    let s := if ln.mark.isSome then s.cancelLineCapture t.number a.line else s
    (s.removeLine t.number a.line).finish []

/-- REMOVE LINE. -/
def execRemoveLine (k : Packet) (s : State) : Result :=
  takeCommand false supervisorOrScalehouse TicketLineArgs.parse removeLine k s

/-- The value SET DEDUCTION carries: 65,535 clears, 0 to 500 sets, any other is out of range (R38, R178). -/
def deductionValue? (v : Nat) : Option (Option Nat) :=
  if v = 65535 then some none else if v ≤ 500 then some (some v) else none

/-- SET DEDUCTION's effect (R38). -/
def setDeduction (a : SetDeductionArgs) (s : State) : Effect :=
  s.withLine (deductionValue? a.deduction).isSome a.ticket a.line isOpened fun t _ =>
    (s.putTicket (t.changeLine a.line fun ln =>
      { ln with deduction := (deductionValue? a.deduction).getD none })).finish []

/-- SET DEDUCTION. -/
def execSetDeduction (k : Packet) (s : State) : Result :=
  takeCommand false notPayout SetDeductionArgs.parse setDeduction k s

/-! ### KEY WEIGHT and ACCEPT MARGIN (R39, R40) -/

/-- The weighing in a slot of a line. -/
def Line.weighing? (ln : Line) : Side → Option Weighing
  | .gross => ln.gross
  | .tare => ln.tare

/-- A weighing written into a slot of a line. -/
def Line.setWeighing (ln : Line) (side : Side) (w : Weighing) : Line :=
  match side with
  | .gross => { ln with gross := some w }
  | .tare => { ln with tare := some w }

/-- The weighing record KEY WEIGHT makes (R39). -/
def State.keyedWeighing (s : State) (weight : Nat) : Weighing :=
  { weight := weight, margin := false, source := .keyed, number := s.nextWeighing, time := s.clock }

/-- KEY WEIGHT's effect (R39). -/
def keyWeight (a : KeyWeightArgs) (s : State) : Effect :=
  match Side.ofCode? a.side with
  | none => s.refuse .range
  | some side =>
    s.withLine (decide (a.weight ≤ 1000000)) a.ticket a.line isOpened fun t ln =>
      if ln.mark = some side then s.refuse .capturePending
      else if (ln.weighing? side).isSome then s.refuse .state
      else
        ((s.putTicket (t.changeLine a.line fun ln => ln.setWeighing side (s.keyedWeighing a.weight))).giveWeighing).finish
          (numBytes 4 s.nextWeighing)

/-- KEY WEIGHT. -/
def execKeyWeight (k : Packet) (s : State) : Result :=
  takeCommand false supervisorOnly KeyWeightArgs.parse keyWeight k s

/-- ACCEPT MARGIN's effect (R40). -/
def acceptMargin (n : Nat) (s : State) : Effect :=
  s.withTicket true n isOpened fun t => (s.putTicket { t with marginAccepted := true }).finish []

/-- ACCEPT MARGIN. -/
def execAcceptMargin (k : Packet) (s : State) : Result :=
  takeCommand false supervisorOnly parseTicket acceptMargin k s

/-! ### CAPTURE (R41, R42) -/

/-- The checks of CAPTURE's own (R41). -/
def captureCheck (role : CaptureRole) (t : Ticket) (ln : Line) : Option Reason :=
  match role with
  | .gross => if ln.gross.isSome || ln.mark.isSome then some .state else none
  | .tare => if ln.tare.isSome || ln.mark.isSome then some .state else none
  | .chain =>
    if ln.tare.isSome || ln.mark.isSome then some .state
    else if ln.gross.isNone then some .incompleteLine
    else if Config.maxLines ≤ t.lines.length then some .lineLimit
    else none

/-- CAPTURE's effect (R41, R42). -/
def capture (k : Packet) (a : CaptureArgs) (s : State) : Effect :=
  match CaptureRole.ofCode? a.role, indexOf? 4 a.channel with
  | some role, some c =>
    s.withLine (decide (role ≠ .chain) || gradeOk a.grade) a.ticket a.line isOpened fun t ln =>
      match captureCheck role t ln with
      | some reason => s.refuse reason
      | none => s.requestCapture c (.line a.ticket a.line role a.grade) (some role.side) k
  | _, _ => s.refuse .range

/-- CAPTURE. -/
def execCapture (k : Packet) (s : State) : Result :=
  takeCommand false supervisorOrScalehouse CaptureArgs.parse (capture k) k s

/-! ### Withdrawal of an owed SETTLEMENT receipt (R139) -/

/-- An owed SETTLEMENT receipt withdrawn at VOID TICKET: left when its job is PRINTING, else its job is cancelled and the
owed field cleared (R51, R139). -/
def State.withdrawAtVoid (s : State) (t : Ticket) : State :=
  match t.owed with
  | none => s
  | some o =>
    match s.servingJob? t.number o with
    | none => s.putTicket { t with owed := none }
    | some j => if j.state = .printing then s else (s.putTicket { t with owed := none }).cancelOne j

/-- The owed receipt withdrawn at REOPEN TICKET: a QUEUED or TAKEN job is cancelled, a PRINTING one runs on from a snapshot
of the ticket taken before its settlement is removed (R53, R139). -/
def State.withdrawAtReopen (s : State) (t : Ticket) : State :=
  match t.owed with
  | none => s
  | some o =>
    match s.servingJob? t.number o with
    | none => s
    | some j => if j.state = .printing then s.putJob { j with frozen := some t } else s.cancelOne j

/-! ### VOID TICKET (R48 to R51) -/

/-- Some line holds a gross or a tare (R48). -/
def Ticket.weighed (t : Ticket) : Bool := t.lines.any fun ln => ln.gross.isSome || ln.tare.isSome

/-- One void counted (R164). -/
def Totals.countVoid (t : Totals) : Totals :=
  let (n, hit) := addCapped Config.maxCount t.voidCount 1
  { t with voidCount := n, saturated := t.saturated || hit }

/-- The ticket record as VOID TICKET leaves it (R49). -/
def Ticket.voidedBy (t : Ticket) (port : PortId) (reason : Nat) : Ticket :=
  { t with state := .voided, voidReason := if reason = 0 then none else some reason, voidPort := some port }

/-- The VOID_NOTICE of a ticket just voided: owed when its settlement was printed and its owed field is free (R51). -/
def State.oweNoticeAtVoid (s : State) (n : Nat) (port : PortId) : State :=
  match s.ticket? n with
  | none => s
  | some t => if t.settlementPrinted && t.owed.isNone then s.owe t .voidNotice port else s

/-- The whole of a VOID TICKET that passes its checks (R49, R51): the captures cancelled, the record voided, the void
counted, the TICKET event, the owed receipt dealt with, and the ticket retired if nothing is left. A request that names
the retired ticket afterwards finds none (R54): a CLOSE TICKET or a PAY is refused with NO_TICKET, where R105 and R127 say
STATE (DEDUCED, log 26). -/
def State.voidTicket (s : State) (n : Nat) (port : PortId) (reason : Nat) : State :=
  let s := s.cancelTicketCaptures n
  match s.ticket? n with
  | none => s
  | some t =>
    let t := t.voidedBy port reason
    let s := ({ s with totals := s.totals.countVoid } : State).moveTicket t
    ((s.withdrawAtVoid t).oweNoticeAtVoid n port).retireIfDone n

/-- A state VOID TICKET allows (R48). -/
def voidable (st : TicketState) : Bool := decide (st = .opened) || decide (st = .held) || decide (st = .payable)

/-- VOID TICKET's effect (R48, R49). -/
def voidTicket (port : PortId) (a : TicketByteArgs) (s : State) : Effect :=
  s.withTicket true a.ticket voidable fun t =>
    if (s.port port).role = .scalehouse ∧ (t.state ≠ .opened ∨ t.weighed = true) then s.refuse .weighed
    else (s.voidTicket a.ticket port a.value).finish []

/-- VOID TICKET. -/
def execVoidTicket (k : Packet) (s : State) : Result :=
  takeCommand false supervisorOrScalehouse TicketByteArgs.parse (voidTicket k.port) k s

/-! ### REOPEN TICKET (R52, R53) -/

/-- A state REOPEN TICKET allows (R52). -/
def reopenable (st : TicketState) : Bool := decide (st = .held) || decide (st = .payable)

/-- The ticket record as REOPEN TICKET leaves it (R53). -/
def Ticket.reopened (t : Ticket) : Ticket :=
  { t with
    state := .opened, lines := t.lines.map fun ln => { ln with pricing := none }, settlement := none,
    marginAccepted := false, owed := none }

/-- REOPEN TICKET's effect (R52, R53, R156). -/
def reopenTicket (n : Nat) (s : State) : Effect :=
  s.withTicket true n reopenable fun t =>
    if s.plateOpen t.plate (some n) then s.refuse .plateOpen
    else
      (((s.withdrawAtReopen t).moveTicket t.reopened).cancelWhere fun j =>
        decide (j.source = .copyTicket n)).finish []

/-- REOPEN TICKET. -/
def execReopenTicket (k : Packet) (s : State) : Result :=
  takeCommand false supervisorOnly parseTicket reopenTicket k s

/-! ### READ TICKET and LIST TICKETS (R55, R56) -/

/-- A settlement record in a reply. -/
def settlementBytes (r : Settlement) : List Byte :=
  timeBytes r.closed ++ numBytes 2 r.generation ++ numBytes 5 r.total ++ optBytes 5 (r.release.map timeBytes)

/-- A payout record in a reply. -/
def payoutBytes (p : Payout) : List Byte :=
  numBytes 1 p.method.code ++ numBytes 5 p.amount ++ intBytes 5 p.rounding ++ numBytes 1 p.port.val ++ timeBytes p.time

/-- An owed receipt in a reply. -/
def owedBytes (o : Owed) : List Byte :=
  numBytes 1 o.kind.code ++ numBytes 1 o.printer.val ++ numBytes 1 o.port.val ++ numBytes 4 o.stamp
    ++ yesNoBytes o.started

/-- Part 0 of READ TICKET: the ticket's own fields (R55). -/
def ticketBytes (t : Ticket) : List Byte :=
  numBytes 4 t.number ++ numBytes 1 t.state.code ++ numBytes 1 t.customerClass.code ++ optTextBytes t.customer
    ++ optTextBytes t.plate ++ timeBytes t.openedAt ++ numBytes 1 t.openedBy.val ++ numBytes 1 t.lines.length
    ++ yesNoBytes t.marginAccepted ++ yesNoBytes t.settlementPrinted
    ++ optBytes 18 (t.settlement.map settlementBytes) ++ optBytes 17 (t.payout.map payoutBytes)
    ++ optBytes 8 (t.owed.map owedBytes) ++ optBytes 1 (t.voidReason.map (numBytes 1))
    ++ optBytes 1 (t.voidPort.map fun p => numBytes 1 p.val)

/-- READ TICKET's effect (R55). -/
def readTicket (a : TicketByteArgs) (s : State) : Effect :=
  s.withTicket (decide (a.value ≤ 8)) a.ticket (fun _ => true) fun t =>
    if a.value = 0 then s.finish (ticketBytes t)
    else match t.line? a.value with
      | none => s.refuse .noLine
      | some ln => s.finish (lineBytes a.value ln)

/-- READ TICKET. -/
def execReadTicket (k : Packet) (s : State) : Result :=
  takeCommand false anyRole TicketByteArgs.parse readTicket k s

/-- An entry of LIST TICKETS (R56). -/
def listEntryBytes (t : Ticket) : List Byte :=
  numBytes 4 t.number ++ numBytes 1 t.state.code ++ numBytes 1 t.customerClass.code ++ optTextBytes t.plate
    ++ numBytes 1 t.lines.length

/-- LIST TICKETS's effect (R56). -/
def listTickets (place : Nat) (s : State) : Effect :=
  if 47 < place then s.refuse .range
  else s.finish (((s.tickets.drop place).take 12).flatMap listEntryBytes ++ numBytes 1 s.tickets.length)

/-- LIST TICKETS. -/
def execListTickets (k : Packet) (s : State) : Result :=
  takeCommand false anyRole parseOne listTickets k s

end Sys2Proof.Machine
end

