-- ==== Sys2Proof/Machine/Lines.lean ====
section
/-! DEFINITION. The receivers of the station lines (R175), and the packets that are not commands of Table 9-9 (R176, R177). -/

namespace Sys2Proof.Machine

/-- A command of an unknown code, not discarded (Table 9-10, steps 3 and 4). -/
def State.answerUnknown (s : State) (k : Packet) : State :=
  if (s.port k.port).busy.isSome then s.reply k.port k.tag (.stop .busy 0)
  else s.reply k.port k.tag (.stop .unknown 0)

/-- A packet of an unknown code taken by its port (R177). -/
def takeUnknown (k : Packet) (s : State) : Result :=
  .next (s.whileRunning fun s =>
    if 248 < k.params.length then s.hunt k.port
    else if s.discards k.port k.tag then s.hunt k.port
    else (s.hunt k.port).answerUnknown k)

/-- A packet arrival whose body the receiver has taken: the command it spells is carried out (R175, R177). A row that is no
packet changes nothing here. -/
def takePacket (i : Instr) (s : State) : Result :=
  match i with
  | .readStatus k => execReadStatus k s
  | .portReset k => execPortReset k s
  | .configurePort k => execConfigurePort k s
  | .setOption k => execSetOption k s
  | .clearFault k => execClearFault k s
  | .systemReset k => execSystemReset k s
  | .configureScale k => execConfigureScale k s
  | .zero k => execZero k s
  | .readScale k => execReadScale k s
  | .openTicket k => execOpenTicket k s
  | .addLine k => execAddLine k s
  | .removeLine k => execRemoveLine k s
  | .setDeduction k => execSetDeduction k s
  | .keyWeight k => execKeyWeight k s
  | .acceptMargin k => execAcceptMargin k s
  | .capture k => execCapture k s
  | .voidTicket k => execVoidTicket k s
  | .reopenTicket k => execReopenTicket k s
  | .readTicket k => execReadTicket k s
  | .listTickets k => execListTickets k s
  | .storeTare k => execStoreTare k s
  | .dropTare k => execDropTare k s
  | .readTare k => execReadTare k s
  | .useStoredTare k => execUseStoredTare k s
  | .editRule k => execEditRule k s
  | .commitPrices k => execCommitPrices k s
  | .discardPrices k => execDiscardPrices k s
  | .readRule k => execReadRule k s
  | .closeTicket k => execCloseTicket k s
  | .setClock k => execSetClock k s
  | .releaseHold k => execReleaseHold k s
  | .float k => execFloat k s
  | .lift k => execLift k s
  | .readDrawer k => execReadDrawer k s
  | .pay k => execPay k s
  | .lockPrinter k => execLockPrinter k s
  | .unlockPrinter k => execUnlockPrinter k s
  | .cancelJob k => execCancelJob k s
  | .printCopy k => execPrintCopy k s
  | .setHeader k => execSetHeader k s
  | .readPrinter k => execReadPrinter k s
  | .readTotals k => execReadTotals k s
  | .endDay k => execEndDay k s
  | .subscribe k => execSubscribe k s
  | .releaseAttention k => execReleaseAttention k s
  | .readAttention k => execReadAttention k s
  | .clearOverflow k => execClearOverflow k s
  | .unknownCommand k _ => takeUnknown k s
  | .discardedPacket _ _ | .frameAbandoned _ _ | .interByteTimeout _ | .frameSent _ | .attentionHandover _
  | .readingFrame _ _ _ _ | .staleExpiry _ | .captureTimeout _
  | .printerStatusFrame _ _ _ | .printerAnswer _ _ _ | .answerTimerExpiry _ | .statusTimerExpiry _
  | .arbiterTake _ | .owedReceiptService | .clockAdvance | .holdExpiry _
  | .powerUp | .mainSupplyFail | .resetLineAssert | .resetLineRelease | .startByte _ | .batteryFailure => .next s

/-- The packet arrival of a body at a port (R175): the command it spells is carried out, and a body that spells none, or is
too long for a length byte, is an abandoned frame. -/
def takeBody (p : PortId) (body : List Byte) (s : State) : Result :=
  if 250 < body.length then .next (s.whileRunning fun s => s.hunt p)
  else match decodeBody p body with
    | none => .next (s.whileRunning fun s => s.hunt p)
    | some i => takePacket i s

/-- UNKNOWN_COMMAND (R177). A code that stands in Table 9-9 is the command of that code. -/
def execUnknownCommand (k : Packet) (code : Byte) (s : State) : Result :=
  takePacket (commandOfCode code k) s

/-- DISCARDED_PACKET (R176, R177). A body that is not to be discarded is taken like any packet (log 16). -/
def execDiscardedPacket (p : PortId) (body : List Byte) (s : State) : Result := takeBody p body s

/-- FRAME_ABANDONED (R175): the frame is discarded without reply and the receiver is HUNTING, whatever the cause. -/
def execFrameAbandoned (p : PortId) (_cause : AbandonCause) (s : State) : Result :=
  .next (s.whileRunning fun s => s.hunt p)

/-- A pause between two bytes grown past 10 ms (R175): the frame is abandoned. -/
def State.expireFrame (s : State) (p : PortId) : State :=
  match (s.port p).receiver with
  | .hunting => s
  | .inFrame _ due => (s.reach (due + 1)).hunt p

/-- INTER_BYTE_TIMEOUT (R175). A HUNTING receiver has no frame to abandon. -/
def execInterByteTimeout (p : PortId) (s : State) : Result :=
  .next (s.whileRunning fun s => s.expireFrame p)

/-! ### The receiver's bytes (R175) -/

/-- What the receiver makes of the bytes it holds after the start byte. -/
inductive FrameProgress where
  | more
  | abandoned
  | complete (body : List Byte)
deriving DecidableEq, Repr

/-- The frame so far (R175): a length outside 2 to 250 abandons it; with the body and the two check bytes taken, its check
decides. -/
def frameProgress : List Byte → FrameProgress
  | [] => .more
  | len :: rest =>
    if len.toNat < 2 ∨ 250 < len.toNat then .abandoned
    else if rest.length < len.toNat + 2 then .more
    else if rest.drop len.toNat = checkBytes (rest.take len.toNat) then .complete (rest.take len.toNat)
    else .abandoned

/-- A port's receiver set. -/
def State.setReceiver (s : State) (p : PortId) (r : Receiver) : State :=
  s.setPort p { s.port p with receiver := r }

/-- A byte of the value of the start byte arrives at a port (R175): it puts a HUNTING receiver IN_FRAME, and is the next byte
of a frame already begun (log 16). -/
def takeStartByte (p : PortId) (s : State) : Result :=
  let due := s.timebase + Config.interByteLimit
  match (s.port p).receiver with
  | .hunting => .next (s.setReceiver p (.inFrame [] due))
  | .inFrame bytes _ =>
    let bytes := bytes ++ [Config.startByte]
    match frameProgress bytes with
    | .more => .next (s.setReceiver p (.inFrame bytes due))
    | .abandoned => .next (s.hunt p)
    | .complete body => takeBody p body s

/-- START_BYTE (R175). -/
def execStartByte (p : PortId) (s : State) : Result := if s.running then takeStartByte p s else .next s

end Sys2Proof.Machine
end

