-- ==== Sys2Proof/Machine/Ticks.lean ====
section
/-! DEFINITION. What the passing of one millisecond brings about when no command waits (log 3): the timers that have run out,
the clock's advance, the holds that are over, and the part's own steps. -/

namespace Sys2Proof.Machine

/-- A time has been reached. -/
def State.reached (s : State) (time : Nat) : Bool := decide (time ≤ s.timebase)

/-- The stale timer of a channel, if it has run out (R8). -/
def State.tickStale (s : State) (c : ChannelId) : State :=
  match (s.channel c).stale with
  | none => s
  | some time => if s.reached time then s.expireStale c else s

/-- The capture timeout of a channel, if it has run out (R21). -/
def State.tickCapture (s : State) (c : ChannelId) : State :=
  match (s.channel c).slot with
  | none => s
  | some cap => if s.reached cap.expiry then s.expireCapture c else s

/-- The pause between two bytes of a frame, if it has grown past 10 ms (R175). -/
def State.tickFrame (s : State) (p : PortId) : State :=
  match (s.port p).receiver with
  | .hunting => s
  | .inFrame _ due => if s.reached (due + 1) then s.expireFrame p else s

/-- The answer timer of a printer, if it has run out (R131). -/
def State.tickAnswer (s : State) (r : PrinterId) : State :=
  match (s.printer r).awaited with
  | none => s
  | some w => if s.reached w.expiry then s.expireAnswer r else s

/-- The status timer of a printer, if it has run out (R131). -/
def State.tickStatus (s : State) (r : PrinterId) : State :=
  match (s.printer r).statusTimer with
  | none => s
  | some time => if s.reached time then s.expireStatus r else s

/-- The clock's advance with the holds it ends, if its second is over (R107, R110). -/
def State.tickClock (s : State) : State := if s.reached s.clockDue then s.clockAdvance else s

/-- The steps of the part's own that are due: timers first, then holds, the owed-receipt service, the arbiters and the
handovers (log 3). -/
def State.ownSteps (s : State) : State :=
  let s := (List.finRange 4).foldl State.tickStale s
  let s := (List.finRange 4).foldl State.tickCapture s
  let s := (List.finRange 4).foldl State.tickFrame s
  let s := (List.finRange 2).foldl State.tickAnswer s
  let s := (List.finRange 2).foldl State.tickStatus s
  let s := s.releaseDue s.tickets
  let s := s.runService
  let s := (List.finRange 2).foldl State.arbiterTake s
  (List.finRange 4).foldl State.handover s

/-- One millisecond with no command waiting (log 3). The clock runs whether or not the part takes events (R107, R197). -/
def State.idle (s : State) : State :=
  (({ s with timebase := s.timebase + 1 } : State).tickClock).whileRunning State.ownSteps

end Sys2Proof.Machine
end

