-- ==== Sys2Proof/Machine/Dispatch.lean ====
section
/-! DEFINITION. The meaning of every row of spec/opcode_table.json, one arm for each constructor of `Instr`. -/

namespace Sys2Proof.Machine

def exec (i : Instr) (s : State) : Host.Outcome State Fault Refusal :=
  match i with
  | .readStatus k => Sys2Proof.Machine.execReadStatus k s
  | .portReset k => Sys2Proof.Machine.execPortReset k s
  | .configurePort k => Sys2Proof.Machine.execConfigurePort k s
  | .setOption k => Sys2Proof.Machine.execSetOption k s
  | .clearFault k => Sys2Proof.Machine.execClearFault k s
  | .systemReset k => Sys2Proof.Machine.execSystemReset k s
  | .configureScale k => Sys2Proof.Machine.execConfigureScale k s
  | .zero k => Sys2Proof.Machine.execZero k s
  | .readScale k => Sys2Proof.Machine.execReadScale k s
  | .openTicket k => Sys2Proof.Machine.execOpenTicket k s
  | .addLine k => Sys2Proof.Machine.execAddLine k s
  | .removeLine k => Sys2Proof.Machine.execRemoveLine k s
  | .setDeduction k => Sys2Proof.Machine.execSetDeduction k s
  | .keyWeight k => Sys2Proof.Machine.execKeyWeight k s
  | .acceptMargin k => Sys2Proof.Machine.execAcceptMargin k s
  | .capture k => Sys2Proof.Machine.execCapture k s
  | .voidTicket k => Sys2Proof.Machine.execVoidTicket k s
  | .reopenTicket k => Sys2Proof.Machine.execReopenTicket k s
  | .readTicket k => Sys2Proof.Machine.execReadTicket k s
  | .listTickets k => Sys2Proof.Machine.execListTickets k s
  | .storeTare k => Sys2Proof.Machine.execStoreTare k s
  | .dropTare k => Sys2Proof.Machine.execDropTare k s
  | .readTare k => Sys2Proof.Machine.execReadTare k s
  | .useStoredTare k => Sys2Proof.Machine.execUseStoredTare k s
  | .editRule k => Sys2Proof.Machine.execEditRule k s
  | .commitPrices k => Sys2Proof.Machine.execCommitPrices k s
  | .discardPrices k => Sys2Proof.Machine.execDiscardPrices k s
  | .readRule k => Sys2Proof.Machine.execReadRule k s
  | .closeTicket k => Sys2Proof.Machine.execCloseTicket k s
  | .setClock k => Sys2Proof.Machine.execSetClock k s
  | .releaseHold k => Sys2Proof.Machine.execReleaseHold k s
  | .float k => Sys2Proof.Machine.execFloat k s
  | .lift k => Sys2Proof.Machine.execLift k s
  | .readDrawer k => Sys2Proof.Machine.execReadDrawer k s
  | .pay k => Sys2Proof.Machine.execPay k s
  | .lockPrinter k => Sys2Proof.Machine.execLockPrinter k s
  | .unlockPrinter k => Sys2Proof.Machine.execUnlockPrinter k s
  | .cancelJob k => Sys2Proof.Machine.execCancelJob k s
  | .printCopy k => Sys2Proof.Machine.execPrintCopy k s
  | .setHeader k => Sys2Proof.Machine.execSetHeader k s
  | .readPrinter k => Sys2Proof.Machine.execReadPrinter k s
  | .readTotals k => Sys2Proof.Machine.execReadTotals k s
  | .endDay k => Sys2Proof.Machine.execEndDay k s
  | .subscribe k => Sys2Proof.Machine.execSubscribe k s
  | .releaseAttention k => Sys2Proof.Machine.execReleaseAttention k s
  | .readAttention k => Sys2Proof.Machine.execReadAttention k s
  | .clearOverflow k => Sys2Proof.Machine.execClearOverflow k s
  | .unknownCommand k code => Sys2Proof.Machine.execUnknownCommand k code s
  | .discardedPacket p body => Sys2Proof.Machine.execDiscardedPacket p body s
  | .frameAbandoned p cause => Sys2Proof.Machine.execFrameAbandoned p cause s
  | .interByteTimeout p => Sys2Proof.Machine.execInterByteTimeout p s
  | .frameSent p => Sys2Proof.Machine.execFrameSent p s
  | .attentionHandover p => Sys2Proof.Machine.execAttentionHandover p s
  | .readingFrame c raw status checkHolds => Sys2Proof.Machine.execReadingFrame c raw status checkHolds s
  | .staleExpiry c => Sys2Proof.Machine.execStaleExpiry c s
  | .captureTimeout c => Sys2Proof.Machine.execCaptureTimeout c s
  | .printerStatusFrame r status checkHolds => Sys2Proof.Machine.execPrinterStatusFrame r status checkHolds s
  | .printerAnswer r answer checkHolds => Sys2Proof.Machine.execPrinterAnswer r answer checkHolds s
  | .answerTimerExpiry r => Sys2Proof.Machine.execAnswerTimerExpiry r s
  | .statusTimerExpiry r => Sys2Proof.Machine.execStatusTimerExpiry r s
  | .arbiterTake r => Sys2Proof.Machine.execArbiterTake r s
  | .owedReceiptService => Sys2Proof.Machine.execOwedReceiptService s
  | .clockAdvance => Sys2Proof.Machine.execClockAdvance s
  | .holdExpiry ticket => Sys2Proof.Machine.execHoldExpiry ticket s
  | .powerUp => Sys2Proof.Machine.execPowerUp s
  | .mainSupplyFail => Sys2Proof.Machine.execMainSupplyFail s
  | .resetLineAssert => Sys2Proof.Machine.execResetLineAssert s
  | .resetLineRelease => Sys2Proof.Machine.execResetLineRelease s
  | .startByte p => Sys2Proof.Machine.execStartByte p s
  | .batteryFailure => Sys2Proof.Machine.execBatteryFailure s

end Sys2Proof.Machine
end

