-- ==== Sys2Proof/Safety.lean ====
section
/-! DEFINITION. What the statements about the part are said in: a packet that its port looks at, the layout and the permission
of a command, and the invariants that every step keeps. -/

namespace Sys2Proof.Machine

/-! ### Packets -/

/-- The part takes events, and a packet's frame is whole and is not discarded (R175, Table 9-10, steps 1 and 2). -/
abbrev State.looksAt (s : State) (k : Packet) : Prop :=
  s.running = true ∧ k.params.length ≤ 248 ∧ (s.port k.port).out.length < 4 ∧ k.tag ≠ 0#8

/-- The port looks at a packet and has no command in progress (Table 9-10, steps 1 to 3). -/
abbrev State.takes (s : State) (k : Packet) : Prop := s.looksAt k ∧ (s.port k.port).busy = none

/-- The state after a command that leaves the part in a state t and ends with an answer: the reply joins the output queue of the
packet's port under the packet's tag (R179). -/
abbrev State.replied (t : State) (k : Packet) (a : Answer) : State := t.reply k.port k.tag a

/-- The parameter bytes of a command fit its layout (Table 9-10, step 5). -/
def fitsLayout : Instr → Bool
  | .readStatus k | .portReset k | .clearFault k | .systemReset k | .commitPrices k | .discardPrices k
  | .readAttention k | .clearOverflow k => (parseNone k.params).isSome
  | .zero k | .readScale k | .listTickets k | .readDrawer k | .lockPrinter k | .unlockPrinter k | .cancelJob k
  | .readPrinter k | .endDay k | .subscribe k | .releaseAttention k => (parseOne k.params).isSome
  | .acceptMargin k | .reopenTicket k | .releaseHold k => (parseTicket k.params).isSome
  | .voidTicket k | .readTicket k | .closeTicket k | .pay k | .printCopy k => (TicketByteArgs.parse k.params).isSome
  | .storeTare k | .readTare k => (PlateByteArgs.parse k.params).isSome
  | .removeLine k | .useStoredTare k => (TicketLineArgs.parse k.params).isSome
  | .float k | .lift k => (DrawerArgs.parse k.params).isSome
  | .readRule k | .readTotals k => (TwoByteArgs.parse k.params).isSome
  | .configurePort k => (ConfigurePortArgs.parse k.params).isSome
  | .setOption k => (SetOptionArgs.parse k.params).isSome
  | .configureScale k => (ConfigureScaleArgs.parse k.params).isSome
  | .openTicket k => (OpenTicketArgs.parse k.params).isSome
  | .addLine k => (AddLineArgs.parse k.params).isSome
  | .setDeduction k => (SetDeductionArgs.parse k.params).isSome
  | .keyWeight k => (KeyWeightArgs.parse k.params).isSome
  | .capture k => (CaptureArgs.parse k.params).isSome
  | .dropTare k => (parsePlate k.params).isSome
  | .editRule k => (EditRuleArgs.parse k.params).isSome
  | .setClock k => (parseClock k.params).isSome
  | .setHeader k => (SetHeaderArgs.parse k.params).isSome
  | .unknownCommand _ _ | .discardedPacket _ _ | .frameAbandoned _ _ | .interByteTimeout _ | .frameSent _
  | .attentionHandover _ | .readingFrame _ _ _ _ | .staleExpiry _ | .captureTimeout _
  | .printerStatusFrame _ _ _ | .printerAnswer _ _ _ | .answerTimerExpiry _ | .statusTimerExpiry _
  | .arbiterTake _ | .owedReceiptService | .clockAdvance | .holdExpiry _
  | .powerUp | .mainSupplyFail | .resetLineAssert | .resetLineRelease | .startByte _ | .batteryFailure => false

/-- The roles Table 9-9 permits a command of a code: yes, limited and own entries. -/
def permitted (code : Nat) : List Role :=
  if code ∈ [1, 2, 9, 19, 20, 28, 41, 44, 45, 46, 47] then [.supervisor, .scalehouse, .yard, .payout]
  else if code ∈ [8, 10, 12, 16, 17, 21, 23, 24, 29] then [.supervisor, .scalehouse]
  else if code ∈ [11, 13] then [.supervisor, .scalehouse, .yard]
  else if code ∈ [38, 39] then [.supervisor, .scalehouse, .payout]
  else if code ∈ [32, 34, 35] then [.supervisor, .payout]
  else [.supervisor]

/-! ### Invariants -/

/-- The tables and queues keep their limits: 48 tickets (R29), 64 tare entries (R58), 12 jobs (R133), 8 snapshots (R157) and 16
attention entries at each port (R190). -/
def State.withinLimits (s : State) : Prop :=
  s.tickets.length ≤ 48 ∧ s.tares.length ≤ 64 ∧ s.jobs.length ≤ 12 ∧ s.snapshots.length ≤ 8
    ∧ ∀ p, (s.port p).attention.length ≤ 16

/-- There is one SUPERVISOR port (R183), and the ports that hold a drawer are those of the role PAYOUT (R114). -/
def State.rolesStand (s : State) : Prop :=
  (∃ p, (s.port p).role = .supervisor ∧ ∀ q, (s.port q).role = .supervisor → q = p)
    ∧ ∀ p, (s.port p).drawer.isSome = true ↔ (s.port p).role = .payout

/-- The counters, the clock, the settings and the figures lie in their ranges (R25, R31, R68, R107, R114, R133, R135, R161, R171,
Table 9-14). -/
def State.inRange (s : State) : Prop :=
  (1 ≤ s.nextTicket ∧ s.nextTicket ≤ 999999) ∧ (1 ≤ s.nextWeighing ∧ s.nextWeighing ≤ 999999)
    ∧ 1 ≤ s.nextStamp ∧ (1 ≤ s.nextJob ∧ s.nextJob ≤ 255) ∧ 1 ≤ s.nextAge
    ∧ (1 ≤ s.dayNumber ∧ s.dayNumber ≤ 9999) ∧ s.generation ≤ 65535
    ∧ (1 ≤ s.clock.day ∧ s.clock.day ≤ 65535 ∧ s.clock.second ≤ 86399)
    ∧ (s.settings.cashUnit ∈ [1, 5, 10, 50] ∧ s.settings.cashLimit ≤ 9999999999
      ∧ (1 ≤ s.settings.captureTimeout ∧ s.settings.captureTimeout ≤ 60)
      ∧ (1 ≤ s.settings.tareExpiry ∧ s.settings.tareExpiry ≤ 365))
    ∧ (∀ i : Fin 32, s.totals.slots[i].weight ≤ 99999999999 ∧ s.totals.slots[i].amount ≤ 99999999999)
    ∧ (s.totals.paidCount ≤ 999999 ∧ s.totals.voidCount ≤ 999999 ∧ s.totals.cash ≤ 99999999999
      ∧ s.totals.voucher ≤ 99999999999 ∧ -9999999999 ≤ s.totals.rounding ∧ s.totals.rounding ≤ 9999999999)
    ∧ ∀ p d, (s.port p).drawer = some d → d.balance ≤ 9999999999 ∧ d.paidToday ≤ 99999999999

/-- The tickets carry different numbers of 1 to 999,999 (R29, R31), and the tare entries different plates (R58). -/
def State.distinctNames (s : State) : Prop :=
  s.tickets.length ≤ 48 ∧ (s.tickets.map Ticket.number).Nodup
    ∧ (∀ t ∈ s.tickets, 1 ≤ t.number ∧ t.number ≤ 999999) ∧ (1 ≤ s.nextTicket ∧ s.nextTicket ≤ 999999)
    ∧ (s.tares.map TareEntry.plate).Nodup

/-- The pool (R133): at most 12 jobs with different ids of 1 to 255, at most one TAKEN or PRINTING on each printer, and at most
one that refers to any one ticket. -/
def State.poolStands (s : State) : Prop :=
  s.jobs.length ≤ 12 ∧ (s.jobs.map Job.id).Nodup ∧ (∀ j ∈ s.jobs, 1 ≤ j.id ∧ j.id ≤ 255)
    ∧ (1 ≤ s.nextJob ∧ s.nextJob ≤ 255)
    ∧ (∀ j ∈ s.jobs, ∀ x ∈ s.jobs, j.active = true → x.active = true → j.printer = x.printer → j.id = x.id)
    ∧ ∀ n, ∀ j ∈ s.jobs, ∀ x ∈ s.jobs, j.refersTo n = true → x.refersTo n = true → j.id = x.id

/-- A waiting capture and its port belong together (R17, R180), and the output queues keep their limit of 5 frames, and of 4 while
a command is in progress (R176). -/
def State.capturesStand (s : State) : Prop :=
  (∀ c cap, (s.channel c).slot = some cap →
      (s.port cap.port).busy = some { kind := cap.owner.progress, tag := cap.tag })
    ∧ (∀ c d a b, (s.channel c).slot = some a → (s.channel d).slot = some b → a.port = b.port → c = d)
    ∧ (∀ p, (s.port p).busy ≠ none → ∃ c cap, (s.channel c).slot = some cap ∧ cap.port = p)
    ∧ ∀ p, (s.port p).out.length ≤ 5 ∧ ((s.port p).busy ≠ none → (s.port p).out.length ≤ 4)

/-- A waiting line capture holds a line of an OPEN ticket, marked for its slot, and no two hold one line (R42, R47, R49). -/
def State.marksStand (s : State) : Prop :=
  (∀ c cap n k role grade, (s.channel c).slot = some cap → cap.owner = .line n k role grade →
      ∃ t ln, s.ticket? n = some t ∧ t.state = .opened ∧ t.line? k = some ln ∧ ln.mark = some role.side)
    ∧ ∀ c d a b n k r1 g1 r2 g2, (s.channel c).slot = some a → (s.channel d).slot = some b →
        a.owner = .line n k r1 g1 → b.owner = .line n k r2 g2 → c = d

/-- Every marked line of a ticket in the table has a waiting capture for it, of the slot its mark names (R42). -/
def State.marksHeld (s : State) : Prop :=
  ∀ t ∈ s.tickets, ∀ k ln side, t.line? k = some ln → ln.mark = some side →
    ∃ c cap role grade, (s.channel c).slot = some cap ∧ cap.owner = .line t.number k role grade ∧ role.side = side

/-- What a ticket's state says of its records (R97, R99, R124): an OPEN ticket holds no pricing and no settlement; a HELD, PAYABLE
or PAID one a pricing record in every line and a total that is the sum of its line amounts; a HELD one a release time; and a PAID
one a payout record. -/
def Ticket.recordsStand (t : Ticket) : Prop :=
  (t.state = .opened → t.settlement = none ∧ ∀ ln ∈ t.lines, ln.pricing = none)
    ∧ (t.state = .held ∨ t.state = .payable ∨ t.state = .paid →
      ∃ r, t.settlement = some r ∧ (∀ ln ∈ t.lines, ln.pricing ≠ none) ∧ r.total = ticketTotal t.lines
        ∧ (t.state = .held → r.release ≠ none))
    ∧ (t.state = .paid → t.payout ≠ none)

/-- The tickets carry different numbers, a line carries a mark exactly while a capture for it waits, and every ticket's records fit
its state. -/
def State.ticketsStand (s : State) : Prop :=
  s.distinctNames ∧ s.marksStand ∧ s.marksHeld ∧ ∀ t ∈ s.tickets, t.recordsStand

/-- The owed order counter lies in 1 to 4,294,967,295, and the stamps owed are different, from 1 on, and all older than the counter,
in a table of at most 48 tickets of different numbers (R29, R135). -/
def State.stampsStand (s : State) : Prop :=
  s.distinctNames ∧ (1 ≤ s.nextStamp ∧ s.nextStamp ≤ 4294967295) ∧ (s.owedItems.map OwedItem.stamp).Nodup
    ∧ ∀ x ∈ s.owedItems, 1 ≤ x.stamp ∧ x.stamp < s.nextStamp

/-! ### Events raised, and stamps given anew -/

/-- The attention queues and overflow flags of a state are those of another after a list of events raised in order (R188). -/
def State.tells (s u : State) (es : List Event) : Prop :=
  ∀ p, (u.port p).attention = ((es.foldl State.raise s).port p).attention
    ∧ (u.port p).overflow = ((es.foldl State.raise s).port p).overflow

/-- One PRINTER event carrying NONE for each lock that a port holds, PR0's before PR1's (R153; the order is log 9). -/
def State.tellUnlocked (s : State) (p : PortId) : State :=
  (List.finRange 2).foldl (fun x r =>
    if (s.printer r).lock.holder? = some p then x.raise (.printer r (s.printer r).status .none) else x) s

/-- A state differs from another by new stamps alone (R135): the stamp of each owed receipt becomes one more than the number of owed
receipts with an older one, each job that serves it takes the new stamp, every other job stays, and the counter goes on after the
last. -/
def State.renumbered (s u : State) : Prop :=
  let renewed : Nat → Nat := fun stamp => (s.owedItems.filter fun x => decide (x.stamp < stamp)).length + 1
  u = { s with tickets := u.tickets, report := u.report, jobs := u.jobs, nextStamp := s.owedItems.length + 1 } ∧
  u.tickets = s.tickets.map (fun t => { t with owed := t.owed.map fun o => { o with stamp := renewed o.stamp } }) ∧
  u.report = s.report.map (fun rep => { rep with owed := rep.owed.map fun o => { o with stamp := renewed o.stamp } }) ∧
  u.jobs.length = s.jobs.length ∧
  ∀ (i : Nat) (j : Job), s.jobs[i]? = some j →
    (∀ n stamp, j.source = .owed n stamp → (∃ x ∈ s.owedItems, x.source = .owed n stamp) →
      u.jobs[i]? = some { j with source := .owed n (renewed stamp) }) ∧
    (∀ stamp, j.source = .report stamp → (∃ x ∈ s.owedItems, x.source = .report stamp) →
      u.jobs[i]? = some { j with source := .report (renewed stamp) }) ∧
    ((∀ x ∈ s.owedItems, x.source ≠ j.source) → u.jobs[i]? = some j)

/-- A job as the service makes it for an owed receipt: QUEUED with nothing printed, with the receipt's source, kind, printer and
owing port, the rank of that port's role, and the marks and length its receipt has now (R134, R137). -/
def State.madeFor (s : State) (j : Job) (x : OwedItem) : Prop :=
  j.source = x.source ∧ j.state = .queued ∧ j.printed = 0 ∧ j.frozen = none ∧ j.counted = s.countedHeaders ∧
  match x with
  | .ofTicket t o =>
    j.kind = .ticket o.kind ∧ j.printer = o.printer ∧ j.port = o.port ∧ j.rank = (s.port o.port).role.rank ∧
    j.marks = receiptMarks t s.storeLost o.started false ∧ j.markLine = [] ∧
    j.total = receiptLength o.kind s.countedHeaders.length t.lines.length j.marks.length
  | .ofReport rep o =>
    j.kind = .dayReport ∧ j.printer = o.printer ∧ j.port = o.port ∧ j.rank = (s.port o.port).role.rank ∧ j.marks = [] ∧
    j.markLine = reportMarks s.storeLost o.started ∧
    j.total = s.countedHeaders.length + rep.totals.usedSlots.length + 12

/-! ### Numbers, holds and a printer's status -/

/-- A number is reached from a start by steps of a counter, and every number passed over is taken (R31, R133). -/
def passesOver (next : Nat → Nat) (taken : Nat → Prop) (start n : Nat) : Prop :=
  ∃ m, n = next^[m] start ∧ ∀ i, i < m → taken (next^[i] start)

/-- One TICKET event carrying PAYABLE for each HELD ticket whose release time the clock has reached, in table order (R110). -/
def State.tellReleased (s : State) : State :=
  (s.tickets.filter fun t => t.due s.clock).foldl (fun x t => x.raise (.ticket t.number (some .payable))) s

/-- What a printer's status becoming a value leaves of a state (R130, R132, R147, R148, R149, R152): nothing when it is that value
already; the status and one PRINTER event when the change is no fault or meets no job TAKEN or PRINTING; a TAKEN job returned to
QUEUED; a PRINTING job aborted, with its ticket retired when nothing keeps it and a PENDING lock LOCKED. The order of the events of a
fault is log 9. -/
def State.statusBecomes (s : State) (r : PrinterId) (v : PrinterStatus) (u : State) : Prop :=
  let line := s.printer r
  let closed : Printer → Prop := fun x =>
    (line.awaited = none → x.sent = line.sent ++ [.fin] ∧ x.closeOwed = false) ∧
    (line.awaited ≠ none → x.sent = line.sent ∧ x.closeOwed = true)
  (line.status = v → u = s) ∧
  (line.status ≠ v → line.status.usable = false ∨ v.usable = true ∨ s.activeJob? r = none →
    u = (s.setPrinter r { line with status := v }).raise (.printer r v line.lock)) ∧
  (∀ j, line.status.usable = true → v.usable = false → s.activeJob? r = some j → j.state = .taken →
    u.jobs = s.jobs.map (fun x => if x.id = j.id then { j with state := .queued, printed := 0 } else x) ∧
    u.tickets = s.tickets ∧ (u.printer r).lock = line.lock ∧ (u.printer r).awaited = line.awaited ∧ closed (u.printer r) ∧
    u.ports = (s.raise (.printer r v line.lock)).ports) ∧
  (∀ j, line.status.usable = true → v.usable = false → s.activeJob? r = some j → j.state = .printing →
    let told := s.raise (.job j.id .aborted (j.total - j.printed))
    let ended : State → Vector Port 4 := fun x =>
      (match line.lock with
        | .pending p => (x.raise (.printer r v (.locked p))).raise (.printer r v (.locked p))
        | .locked p => x.raise (.printer r v (.locked p))
        | .none => x.raise (.printer r v .none)).ports
    (u.printer r).awaited = line.awaited ∧
    (∀ n t, s.ticket? n = some t → t.owed ≠ none → u.ticket? n = some t) ∧
    (s.snapshots.length < 8 → u.jobs.map Job.id = (s.jobs.map Job.id).filter (fun i => decide (i ≠ j.id)) ∧
      closed (u.printer r)) ∧
    (s.poolStands →
      (∀ p, line.lock = .pending p → (u.printer r).lock = .locked p) ∧
      (∀ n stamp t, j.source = .owed n stamp → s.ticket? n = some t → (t.state = .paid ∨ t.state = .voided) → t.owed = none →
        u.ticket? n = none ∧
        (s.snapshots.length < 8 → u.snapshots = s.snapshots ++ [t] ∧ u.ports = ended (told.raise (.ticket n none)))) ∧
      ((∀ n stamp t, j.source = .owed n stamp → s.ticket? n = some t →
          (t.state ≠ .paid ∧ t.state ≠ .voided) ∨ t.owed ≠ none) →
        u.tickets = s.tickets ∧ u.snapshots = s.snapshots ∧ u.ports = ended told)))

end Sys2Proof.Machine
end

