-- ==== Sys2Proof/Certificates/Slice0/Obligations.lean ====
section
/-! DEFINITION. The statements about the part, for the provers. `s.takes k` says that the part takes events, that the packet's
frame is whole and not discarded, and that its port has no command in progress; a state `s.hunt k.port` differs from `s` in
the receiver of the packet's port alone, which is HUNTING after a frame (R175); `t.replied k a` is `t` with the reply of the
packet in the output queue of its port. -/

open Sys2Proof Sys2Proof.Machine

/-! ### Steps, packets and receivers -/

/-- A step carries out the command at the front of the queue on the queue's rest. The queue is the model's own (the row's cut; log 24). -/
def Obligations.StepTakesTheFrontCommand : Prop :=
  ∀ (c : Instr) (rest : List Instr) (s : State), s.pending = c :: rest → step s = exec c { s with pending := rest }

/-- Every row answers a next state, and leaves the queue of waiting commands as it was. The queue is the model's own (log 24); that no
row stops the part is Table 0-4. -/
def Obligations.RowsLeaveTheQueue : Prop :=
  ∀ (c : Instr) (s : State), ∃ t, exec c s = .next t ∧ t.pending = s.pending

/-- While the main supply is absent or the reset line is low, no row but the clock's advance and the rows of the supply, the reset line
and the battery changes anything (R196, R197). That the part's own rows and a start byte do nothing then either is the model's
reading (log 7). -/
def Obligations.NothingTakenWhileNotRunning : Prop :=
  ∀ (c : Instr) (s : State), s.running = false →
    c ∉ [.clockAdvance, .powerUp, .mainSupplyFail, .resetLineAssert, .resetLineRelease, .batteryFailure] →
    exec c s = .next s

/-- A packet that meets 4 or more waiting frames, or carries tag 0, changes the receiver alone, whether it comes as a command's row or
as DISCARDED_PACKET; a command that its port looks at while a command is in progress is answered RETRY BUSY, unless it is PORT RESET
(R176, R177, Table 9-10, steps 1 to 3). DISCARDED_PACKET is log 16. -/
def Obligations.PacketsDiscardedOrBusy : Prop :=
  (∀ (c : Instr) (code : Nat) (k : Packet) (s : State), c.wf = true → c.command? = some (code, k) → s.running = true →
    ((4 ≤ (s.port k.port).out.length ∨ k.tag = 0#8) → exec c s = .next (s.hunt k.port)) ∧
    (s.looksAt k → (s.port k.port).busy ≠ none → code ≠ 2 →
      exec c s = .next ((s.hunt k.port).replied k (.stop .busy 0)))) ∧
  (∀ (p : PortId) (body : List Byte) (s : State), s.running = true → 2 ≤ body.length → body.length ≤ 250 →
    (4 ≤ (s.port p).out.length ∨ body.head? = some 0#8) → exec (.discardedPacket p body) s = .next (s.hunt p))

/-- A command whose parameter bytes do not fit is refused with MALFORMED, then one whose role is not permitted by Table 9-9 with ROLE,
and a code that is not in Table 9-9 with UNKNOWN; nothing else changes (R177). -/
def Obligations.RefusalsBeforeTheOwner : Prop :=
  (∀ (c : Instr) (code : Nat) (k : Packet) (s : State), c.wf = true → c.command? = some (code, k) → 1 ≤ code → code ≤ 47 →
    s.takes k →
    (fitsLayout c = false → exec c s = .next ((s.hunt k.port).replied k (.stop .malformed 0))) ∧
    (fitsLayout c = true → (s.port k.port).role ∉ permitted code →
      exec c s = .next ((s.hunt k.port).replied k (.stop .role 0)))) ∧
  (∀ (k : Packet) (code : Byte) (s : State), knownCode code = false → s.takes k →
    exec (.unknownCommand k code) s = .next ((s.hunt k.port).replied k (.stop .unknown 0)))

/-- A start byte puts a HUNTING receiver IN_FRAME; an abandoned frame and a pause past 10 ms return it to HUNTING; a frame sent leaves
the output queue; and with release on, no command in progress and an empty output queue, the oldest attention entry joins it, while
a handover whose conditions do not hold changes nothing (R175, R176, R192). The timebase at an expiry is the model's choice (log 2). -/
def Obligations.ReceiversAndSenders : Prop :=
  ∀ (p : PortId) (s : State), s.running = true →
    ((s.port p).receiver = .hunting → exec (.startByte p) s =
      .next (s.setPort p { s.port p with receiver := .inFrame [] (s.timebase + 10) })) ∧
    (∀ cause, exec (.frameAbandoned p cause) s = .next (s.setPort p { s.port p with receiver := .hunting })) ∧
    (∀ bytes due, (s.port p).receiver = .inFrame bytes due → exec (.interByteTimeout p) s =
      .next (({ s with timebase := max s.timebase (due + 1) } : State).setPort p
        { s.port p with receiver := .hunting })) ∧
    (∀ f rest, (s.port p).out = f :: rest → exec (.frameSent p) s =
      .next (s.setPort p { s.port p with out := rest })) ∧
    (∀ e rest, (s.port p).release = true → (s.port p).busy = none → (s.port p).out = [] →
      (s.port p).attention = e :: rest → exec (.attentionHandover p) s =
        .next (s.setPort p { s.port p with attention := rest, out := [.attention e] })) ∧
    ((s.port p).release = false ∨ (s.port p).busy ≠ none ∨ (s.port p).out ≠ [] ∨ (s.port p).attention = [] →
      exec (.attentionHandover p) s = .next s)

/-- The frame of every well-formed command is taken whole by the receiver, no shorter part of it is, and its body spells the command
(R175, Tables 9-2, 9-3 and 9-9). -/
def Obligations.FramesCarryTheirCommands : Prop :=
  ∀ (c : Instr) (code : Nat) (k : Packet) (body : List Byte), c.wf = true → c.command? = some (code, k) →
    c.body? = some body →
    frameProgress (frameBytes body).tail = .complete body ∧
    (∀ n, n < (frameBytes body).tail.length → frameProgress ((frameBytes body).tail.take n) = .more) ∧
    decodeBody k.port body = some c

/-! ### Reading and settings -/

/-- READ STATUS, READ SCALE, READ PRINTER, READ TICKET, LIST TICKETS, READ TARE, READ RULE, READ DRAWER and READ TOTALS answer DONE with
the present values they name and change nothing (R187, R15, R159, R55, R56, R64, R82, R118, R166). The byte form of compound and
absent fields and of texts (log 11), the size of a grade pattern (log 25), and that READ TARE with a plate tests no starting place
(log 12), are the model's choice. -/
def Obligations.ReadsChangeNothing : Prop :=
  ∀ (k : Packet) (s : State), s.takes k →
    (k.params = [] →
      exec (.readStatus k) s = .next ((s.hunt k.port).replied k (.success (s.statusData k.port)))) ∧
    (∀ c : ChannelId, k.params = numBytes 1 c.val →
      exec (.readScale k) s = .next ((s.hunt k.port).replied k (.success (scaleData (s.channel c))))) ∧
    (∀ r : PrinterId, k.params = numBytes 1 r.val →
      exec (.readPrinter k) s = .next ((s.hunt k.port).replied k (.success (s.printerData r)))) ∧
    (∀ n t, 1 ≤ n → n ≤ 999999 → s.ticket? n = some t → k.params = numBytes 4 n ++ numBytes 1 0 →
      exec (.readTicket k) s = .next ((s.hunt k.port).replied k (.success (ticketBytes t)))) ∧
    (∀ n i t ln, 1 ≤ n → n ≤ 999999 → i < 8 → s.ticket? n = some t → t.lines[i]? = some ln →
      k.params = numBytes 4 n ++ numBytes 1 (i + 1) →
      exec (.readTicket k) s = .next ((s.hunt k.port).replied k (.success (lineBytes (i + 1) ln)))) ∧
    (∀ place, place ≤ 47 → k.params = numBytes 1 place →
      exec (.listTickets k) s = .next ((s.hunt k.port).replied k
        (.success (((s.tickets.drop place).take 12).flatMap listEntryBytes ++ numBytes 1 s.tickets.length)))) ∧
    (∀ plate place e, (s.port k.port).role ∈ permitted 23 → plate ≠ [] → plateOk plate = true → place ≤ 255 →
      s.tares.find? (fun x => decide (x.plate = upperCase plate)) = some e →
      k.params = textBytes plate ++ numBytes 1 place →
      exec (.readTare k) s = .next ((s.hunt k.port).replied k (.success (s.tareBytes e)))) ∧
    (∀ place, (s.port k.port).role ∈ permitted 23 → place ≤ 63 → k.params = textBytes [] ++ numBytes 1 place →
      exec (.readTare k) s = .next ((s.hunt k.port).replied k
        (.success (((s.tares.drop place).take 8).flatMap s.tareBytes ++ numBytes 1 s.tares.length)))) ∧
    (∀ i : Fin 32, k.params = numBytes 1 0 ++ numBytes 1 i.val →
      exec (.readRule k) s = .next ((s.hunt k.port).replied k
        (.success (ruleBytes s.active[i] ++ numBytes 2 s.generation ++ yesNoBytes s.edit.isSome)))) ∧
    (∀ (i : Fin 32) b, s.edit = some b → k.params = numBytes 1 1 ++ numBytes 1 i.val →
      exec (.readRule k) s = .next ((s.hunt k.port).replied k
        (.success (ruleBytes b[i] ++ numBytes 2 s.generation ++ yesNoBytes true)))) ∧
    (∀ (p : PortId) d, ((s.port k.port).role = .supervisor ∨ ((s.port k.port).role = .payout ∧ p = k.port)) →
      (s.port p).drawer = some d → k.params = numBytes 1 p.val →
      exec (.readDrawer k) s = .next ((s.hunt k.port).replied k
        (.success (numBytes 5 d.balance ++ numBytes 5 d.paidToday ++ numBytes 5 s.settings.cashUnit
          ++ numBytes 5 s.settings.cashLimit)))) ∧
    (∀ part, (s.port k.port).role = .supervisor → part ≤ 4 → k.params = numBytes 1 0 ++ numBytes 1 part →
      exec (.readTotals k) s = .next ((s.hunt k.port).replied k (.success (s.livePart part)))) ∧
    (∀ part rep, (s.port k.port).role = .supervisor → part ≤ 4 → s.report = some rep →
      k.params = numBytes 1 1 ++ numBytes 1 part →
      exec (.readTotals k) s = .next ((s.hunt k.port).replied k (.success (reportPart rep part))))

/-- PORT RESET is taken whether or not a command is in progress, abandons the port's waiting capture without a reply and clears the mark
of its line, releases the locks it holds, clears the port's attention items, keeps its role, printer, drawer and waiting frames, and
replies DONE. The other ports stay but for the PRINTER events of the released locks in their attention queues, and the rest of the
part is as it was (R181, R23, R153). The order of two such events is the model's choice (log 9). -/
def Obligations.PortResetClears : Prop :=
  ∀ (k : Packet) (s : State), s.looksAt k → s.capturesStand → (s.tickets.map Ticket.number).Nodup → k.params = [] →
    ∃ t, exec (.portReset k) s = .next t ∧
      t.port k.port =
        { s.port k.port with
          receiver := .hunting, busy := none, attention := [], overflow := false, subscription := 0#5, release := false,
          out := (s.port k.port).out ++ [.reply { tag := k.tag, answer := .success [] }] } ∧
      (∀ c, (t.channel c) =
        if ∃ cap, (s.channel c).slot = some cap ∧ cap.port = k.port then { s.channel c with slot := none } else s.channel c) ∧
      (∀ r, (t.printer r) =
        if (s.printer r).lock.holder? = some k.port then { s.printer r with lock := .none } else s.printer r) ∧
      (∀ q, q ≠ k.port → t.port q = (s.tellUnlocked k.port).port q) ∧
      (∀ q, q ≠ k.port → t.port q = { s.port q with attention := (t.port q).attention, overflow := (t.port q).overflow }) ∧
      t = { s with ports := t.ports, channels := t.channels, printers := t.printers, tickets := t.tickets } ∧
      (∀ c cap n l role grade tk, (s.channel c).slot = some cap → cap.port = k.port → cap.owner = .line n l role grade →
        s.ticket? n = some tk →
        t.ticket? n = some (tk.changeLine l fun ln => { ln with mark := none }) ∧ ∀ m, m ≠ n → t.ticket? m = s.ticket? m) ∧
      ((∀ c cap n l role grade, (s.channel c).slot = some cap → cap.port = k.port → cap.owner ≠ .line n l role grade) →
        t.tickets = s.tickets) ∧
      t.tickets.map Ticket.unmarked = s.tickets.map Ticket.unmarked

/-- CONFIGURE PORT by the checks of R184 in order: RANGE for a port, role, printer or former role outside its set, SUPERVISOR_EXISTS and
DRAWER_NOT_EMPTY. One that passes writes the named port's role and default printer; entering PAYOUT makes a drawer of 0 and 0,
leaving it removes the drawer, staying keeps it. In a handover the requesting port takes the former role and releases its locks,
each with its PRINTER event. Nothing else of the part changes (R184, R185, R115, R153). The order of two such events is the model's
choice (log 9). -/
def Obligations.ConfigurePortWrites : Prop :=
  (∀ (k : Packet) (s : State) (p role r former : Nat), s.takes k → (s.port k.port).role = .supervisor → p < 256 → role < 256 →
    r < 256 → former < 256 → k.params = numBytes 1 p ++ numBytes 1 role ++ numBytes 1 r ++ numBytes 1 former →
    3 < p ∨ 3 < role ∨ 1 < r ∨ former = 0 ∨ 4 < former →
    exec (.configurePort k) s = .next ((s.hunt k.port).replied k (.stop .range 0))) ∧
  ∀ (k : Packet) (s : State) (p : PortId) (role : Role) (r : PrinterId) (former : Nat), s.takes k →
    (s.port k.port).role = .supervisor → former ≤ 4 → former ≠ 0 →
    k.params = numBytes 1 p.val ++ numBytes 1 role.code ++ numBytes 1 r.val ++ numBytes 1 former →
    (p = k.port → role ≠ .supervisor →
      exec (.configurePort k) s = .next ((s.hunt k.port).replied k (.stop .supervisorExists 0))) ∧
    (p ≠ k.port → role = .supervisor → former = 4 →
      exec (.configurePort k) s = .next ((s.hunt k.port).replied k (.stop .supervisorExists 0))) ∧
    (p ≠ k.port → ¬(role = .supervisor ∧ former = 4) → role ≠ .payout → (s.port p).role = .payout →
      (∃ d, (s.port p).drawer = some d ∧ 0 < d.balance) →
      exec (.configurePort k) s = .next ((s.hunt k.port).replied k (.stop .drawerNotEmpty 0))) ∧
    ((p = k.port ∧ role = .supervisor) ∨ (p ≠ k.port ∧ role ≠ .supervisor) →
      ((s.port p).role = .payout → role ≠ .payout → ∀ d, (s.port p).drawer = some d → d.balance = 0) →
      exec (.configurePort k) s = .next (((s.hunt k.port).setPort p
        { (s.hunt k.port).port p with
          role := role, defaultPrinter := r,
          drawer := if role = .payout then
            (if (s.port p).role = .payout then (s.port p).drawer else some { balance := 0, paidToday := 0 }) else none }).replied k
        (.success []))) ∧
    (p ≠ k.port → role = .supervisor → former ≠ 4 →
      ((s.port p).role = .payout → ∀ d, (s.port p).drawer = some d → d.balance = 0) →
      ∃ t, exec (.configurePort k) s = .next t ∧ (t.port k.port).role.code = former ∧
        t.port p = { (s.tellUnlocked k.port).port p with role := .supervisor, defaultPrinter := r, drawer := none } ∧
        t.port k.port = { (s.tellUnlocked k.port).port k.port with
          receiver := .hunting, role := (t.port k.port).role,
          drawer := if former = 3 then some { balance := 0, paidToday := 0 } else none,
          out := (s.port k.port).out ++ [.reply { tag := k.tag, answer := .success [] }] } ∧
        (∀ q, q ≠ p → q ≠ k.port → t.port q = (s.tellUnlocked k.port).port q) ∧
        (∀ q, (t.port q).defaultPrinter = if q = p then r else (s.port q).defaultPrinter) ∧
        (∀ v, t.printer v =
          if (s.printer v).lock.holder? = some k.port then { s.printer v with lock := .none } else s.printer v) ∧
        t = { s with ports := t.ports, printers := t.printers })

/-- SET OPTION writes the setting, a number outside its range replaced by the nearest limit with the note CLAMPED_SETTING, and refuses a
rounding mode or a cash unit outside its values; CLEAR FAULT clears STORE_LOST; SET HEADER replaces a header line; nothing else
changes (R186, R200, R158). -/
def Obligations.SettingsWritten : Prop :=
  ∀ (k : Packet) (s : State), s.takes k → (s.port k.port).role = .supervisor →
    (∀ m : RoundingMode, k.params = numBytes 1 0 ++ numBytes 5 m.code →
      exec (.setOption k) s = .next (({ s.hunt k.port with settings := { s.settings with roundingMode := m } } : State).replied k
        (.success (numBytes 1 0 ++ numBytes 5 m.code)))) ∧
    (∀ v, v < 256 ^ 5 → 2 ≤ v → k.params = numBytes 1 0 ++ numBytes 5 v →
      exec (.setOption k) s = .next ((s.hunt k.port).replied k (.stop .range 0))) ∧
    (∀ u, u < 256 ^ 5 → k.params = numBytes 1 1 ++ numBytes 5 u →
      exec (.setOption k) s =
        if u = 1 ∨ u = 5 ∨ u = 10 ∨ u = 50 then
          .next (({ s.hunt k.port with settings := { s.settings with cashUnit := u } } : State).replied k
            (.success (numBytes 1 1 ++ numBytes 5 u)))
        else .next ((s.hunt k.port).replied k (.stop .range 0))) ∧
    (∀ v, v < 256 ^ 5 → k.params = numBytes 1 2 ++ numBytes 5 v →
      exec (.setOption k) s =
        .next (({ s.hunt k.port with settings := { s.settings with cashLimit := min v 9999999999 } } : State).replied k
          (if v ≤ 9999999999 then .success (numBytes 1 2 ++ numBytes 5 v)
            else .noted [.clampedSetting] (numBytes 1 2 ++ numBytes 5 9999999999)))) ∧
    (∀ v, v < 256 ^ 5 → k.params = numBytes 1 3 ++ numBytes 5 v →
      exec (.setOption k) s =
        .next (({ s.hunt k.port with settings := { s.settings with captureTimeout := max 1 (min v 60) } } : State).replied k
          (if 1 ≤ v ∧ v ≤ 60 then .success (numBytes 1 3 ++ numBytes 5 v)
            else .noted [.clampedSetting] (numBytes 1 3 ++ numBytes 5 (max 1 (min v 60)))))) ∧
    (∀ v, v < 256 ^ 5 → k.params = numBytes 1 4 ++ numBytes 5 v →
      exec (.setOption k) s =
        .next (({ s.hunt k.port with settings := { s.settings with tareExpiry := max 1 (min v 365) } } : State).replied k
          (if 1 ≤ v ∧ v ≤ 365 then .success (numBytes 1 4 ++ numBytes 5 v)
            else .noted [.clampedSetting] (numBytes 1 4 ++ numBytes 5 (max 1 (min v 365)))))) ∧
    (k.params = [] →
      exec (.clearFault k) s = .next (({ s.hunt k.port with storeLost := false } : State).replied k (.success []))) ∧
    (∀ (i : Fin 4) (text : Text), text.length ≤ 42 → (∀ c ∈ text, 0x20 ≤ c.toNat ∧ c.toNat ≤ 0x7E) →
      k.params = numBytes 1 (i.val + 1) ++ textBytes text →
      exec (.setHeader k) s =
        .next (({ s.hunt k.port with headers := s.headers.set i text } : State).replied k (.success [])))

/-! ### Supply, reset line and restart -/

/-- The causes of a restart restart the part, the loss of the main supply and a low reset line stop it, and a battery that falls too low
while the supply is absent makes the store fail its test (R196, R197, R198). What the battery does while the supply is present, and
a power-up or a release that meets the other cause still in force, are the model's choice (log 5, log 6). -/
def Obligations.RestartCauses : Prop :=
  (∀ s : State, s.resetHigh = true → exec .powerUp s = .next ({ s with mainSupply := true } : State).restart) ∧
  (∀ s : State, s.mainSupply = true → exec .resetLineRelease s = .next ({ s with resetHigh := true } : State).restart) ∧
  (∀ (k : Packet) (s : State), s.takes k → (s.port k.port).role = .supervisor → k.params = [] →
    exec (.systemReset k) s = .next (s.hunt k.port).restart) ∧
  (∀ s : State, exec .resetLineAssert s = .next { s with resetHigh := false } ∧
    ({ s with resetHigh := false } : State).running = false) ∧
  (∀ s : State, ∃ t, exec .mainSupplyFail s = .next t ∧ t.running = false ∧ t.mainSupply = false ∧ t.clock = s.clock ∧
    t.storeValid = s.storeValid ∧ t.tickets.map Ticket.unmarked = s.tickets.map Ticket.unmarked ∧ t.tares = s.tares ∧
    t.active = s.active ∧ t.totals = s.totals ∧ t.report = s.report ∧ t.snapshots = s.snapshots ∧ t.settings = s.settings) ∧
  (∀ s : State, s.mainSupply = false → ∃ t, exec .batteryFailure s = .next t ∧ t.storeValid = false ∧ t.mainSupply = false) ∧
  (∀ s : State, s.mainSupply = true → exec .batteryFailure s = .next s) ∧
  (∀ s : State, s.resetHigh = false → exec .powerUp s = .next ({ s with mainSupply := true } : State).volatileStart) ∧
  (∀ s : State, s.mainSupply = false → exec .resetLineRelease s = .next { s with resetHigh := true }) ∧
  (∀ s : State, s.storeValid = true → s.restart = s.warmStart) ∧
  (∀ s : State, s.storeValid = false → s.restart = s.coldStart)

/-- A warm restart keeps every retained item: each ticket with its marks cleared and each HELD ticket whose release time has come made
PAYABLE, and everything else of the store as it was (R199, R113, R57). -/
def Obligations.WarmRestartKeepsTheStore : Prop :=
  ∀ s : State, (s.tickets.map Ticket.number).Nodup →
    s.warmStart.tickets = s.tickets.map (fun t =>
      { t with
        lines := t.lines.map fun ln => { ln with mark := none }
        state := if t.due s.clock then .payable else t.state }) ∧
    s.warmStart.tares = s.tares ∧ s.warmStart.active = s.active ∧ s.warmStart.generation = s.generation ∧
    s.warmStart.settings = s.settings ∧ s.warmStart.totals = s.totals ∧ s.warmStart.dayNumber = s.dayNumber ∧
    s.warmStart.report = s.report ∧ s.warmStart.nextTicket = s.nextTicket ∧ s.warmStart.nextWeighing = s.nextWeighing ∧
    s.warmStart.nextStamp = s.nextStamp ∧ s.warmStart.snapshots = s.snapshots ∧ s.warmStart.headers = s.headers ∧
    s.warmStart.storeLost = s.storeLost ∧ s.warmStart.clock = s.clock ∧
    (∀ p, (s.warmStart.port p).role = (s.port p).role ∧ (s.warmStart.port p).defaultPrinter = (s.port p).defaultPrinter ∧
      (s.warmStart.port p).drawer = (s.port p).drawer) ∧
    (∀ c, (s.warmStart.channel c).config = (s.channel c).config ∧ (s.warmStart.channel c).zero = (s.channel c).zero ∧
      (s.warmStart.channel c).calZero = (s.channel c).calZero)

/-- A cold start sets every retained item to its cold default, sets STORE_LOST and writes a valid store (R199, R27, R67, R84, R128,
R160, R174, R182, R186). How the store's validity is held is the model's choice (log 4). -/
def Obligations.ColdStartSetsTheDefaults : Prop :=
  ∀ s : State,
    s.coldStart.storeLost = true ∧ s.coldStart.storeValid = true ∧ s.coldStart.clock = { day := 1, second := 0 } ∧
    s.coldStart.tickets = [] ∧ s.coldStart.tares = [] ∧ s.coldStart.snapshots = [] ∧ s.coldStart.jobs = [] ∧
    s.coldStart.report = none ∧ s.coldStart.generation = 0 ∧ s.coldStart.dayNumber = 1 ∧ s.coldStart.nextTicket = 1 ∧
    s.coldStart.nextWeighing = 1 ∧ s.coldStart.nextStamp = 1 ∧
    s.coldStart.settings =
      { roundingMode := .nearest, cashUnit := 10, cashLimit := 1000000, captureTimeout := 10, tareExpiry := 90 } ∧
    (∀ i : Fin 32, s.coldStart.active[i] =
      { enabled := false, kind := .base, pattern := 0, matchLength := 0, classes := 0#4, label := [], price := 0,
        acceptsAdjustments := false, defaultDeduction := 0, holdHours := 0, adjustment := 0 }) ∧
    (∀ i : Fin 32, s.coldStart.totals.slots[i] = { weight := 0, amount := 0 }) ∧
    s.coldStart.totals.paidCount = 0 ∧ s.coldStart.totals.voidCount = 0 ∧ s.coldStart.totals.cash = 0 ∧
    s.coldStart.totals.voucher = 0 ∧ s.coldStart.totals.rounding = 0 ∧ s.coldStart.totals.saturated = false ∧
    (∀ i : Fin 4, s.coldStart.headers[i] = []) ∧
    ((s.coldStart.port 0).role = .supervisor ∧ (s.coldStart.port 1).role = .scalehouse ∧
      (s.coldStart.port 2).role = .payout ∧ (s.coldStart.port 3).role = .yard) ∧
    ((s.coldStart.port 0).defaultPrinter = 0 ∧ (s.coldStart.port 1).defaultPrinter = 0 ∧
      (s.coldStart.port 2).defaultPrinter = 1 ∧ (s.coldStart.port 3).defaultPrinter = 0) ∧
    (s.coldStart.port 2).drawer = some { balance := 0, paidToday := 0 } ∧
    (∀ p, p ≠ 2 → (s.coldStart.port p).drawer = none) ∧
    (∀ c, (s.coldStart.channel c).config =
        { enabled := false, capacity := 600000, division := 200, windowLength := 5, staleLimit := 1000 } ∧
      (s.coldStart.channel c).zero = 0 ∧ (s.coldStart.channel c).calZero = none)

/-- Every restart gives the volatile items the start values of Table 11-2: the pool is emptied and the job id and age stamp counters
stand at 1. After a warm restart the pool holds only the QUEUED jobs the service has made as R137 gives, in owed order, numbered
from 1: with fewer than 12 jobs every owed receipt has one, and a receipt that has one leaves no older one without. The timebase
from which a status timer starts is the model's (log 2). -/
def Obligations.RestartStartsVolatileState : Prop :=
  ∀ s : State,
    (∀ p, (s.restart.port p).receiver = .hunting ∧ (s.restart.port p).out = [] ∧ (s.restart.port p).busy = none ∧
      (s.restart.port p).attention = [] ∧ (s.restart.port p).overflow = false ∧ (s.restart.port p).subscription = 0#5 ∧
      (s.restart.port p).release = false) ∧
    (∀ c, (s.restart.channel c).window = [] ∧ (s.restart.channel c).stale = none ∧ (s.restart.channel c).slot = none ∧
      (s.restart.channel c).zeroRequired = true ∧
      (s.restart.channel c).state = if (s.restart.channel c).config.enabled then .noData else .off) ∧
    (∀ r, (s.restart.printer r).status = .unknown ∧ (s.restart.printer r).awaited = none ∧
      (s.restart.printer r).closeOwed = false ∧ (s.restart.printer r).lock = .none ∧
      (s.restart.printer r).statusTimer = some (s.timebase + 5000)) ∧
    s.restart.edit = none ∧ (∀ j ∈ s.restart.jobs, j.state = .queued ∧ j.printed = 0 ∧ j.frozen = none) ∧
    (s.storeValid = false → s.restart.jobs = []) ∧ s.restart.jobs.length ≤ 12 ∧
    s.restart.nextJob = s.restart.jobs.length + 1 ∧ s.restart.nextAge = s.restart.jobs.length + 1 ∧
    s.restart.jobs.map Job.id = List.range' 1 s.restart.jobs.length ∧
    s.restart.jobs.map Job.age = List.range' 1 s.restart.jobs.length ∧
    (∃ items : List OwedItem, s.restart.jobs.map Job.source = items.map OwedItem.source ∧
      (∀ x ∈ items, x ∈ s.restart.owedItems) ∧ items.Pairwise fun x y => x.stamp ≤ y.stamp) ∧
    (∀ j ∈ s.restart.jobs, ∃ x ∈ s.restart.owedItems, s.restart.madeFor j x) ∧
    ((s.tickets.map Ticket.number).Nodup →
      (s.restart.jobs.length < 12 → ∀ x ∈ s.restart.owedItems, s.restart.served x = true) ∧
      (∀ y ∈ s.restart.owedItems, s.restart.served y = true →
        ∀ x ∈ s.restart.owedItems, x.stamp < y.stamp → s.restart.served x = true)) ∧
    (∀ t ∈ s.restart.tickets, ∀ ln ∈ t.lines, ln.mark = none)

/-! ### Scale channels -/

/-- The rounded weight is the multiple of the division nearest to raw − Z, an exact half going to the higher one (R2). -/
def Obligations.RoundedWeightIsNearest : Prop :=
  ∀ (d : Nat) (zero raw : Int), 0 < d →
    (d : Int) ∣ roundWeight d zero raw ∧
    (∀ m : Int, (d : Int) ∣ m → |roundWeight d zero raw - (raw - zero)| ≤ |m - (raw - zero)|) ∧
    (∀ m : Int, (d : Int) ∣ m → |m - (raw - zero)| = |roundWeight d zero raw - (raw - zero)| →
      m ≤ roundWeight d zero raw)

/-- An arrival is classed by Table 1-3 from its rounded weight: OVER with the head status OVERRANGE whatever the weight, and otherwise
UNDER, NORMAL, MARGIN or OVER (R3). -/
def Obligations.ArrivalsAreClassed : Prop :=
  ∀ (ch : Channel) (now : Nat) (raw : Int), 1 ≤ ch.config.windowLength →
    let w := roundWeight ch.config.division ch.zero raw
    let m : Int := ch.config.capacity
    let d : Int := ch.config.division
    (((ch.join now raw true).window.getLast?.map Reading.readingClass) = some .over) ∧
    (w < -20 * d → (ch.join now raw false).window.getLast?.map Reading.readingClass = some .under) ∧
    (-20 * d ≤ w → w ≤ m → (ch.join now raw false).window.getLast?.map Reading.readingClass = some .normal) ∧
    (m < w → w ≤ m + 9 * d → (ch.join now raw false).window.getLast?.map Reading.readingClass = some .margin) ∧
    (m + 9 * d < w → (ch.join now raw false).window.getLast?.map Reading.readingClass = some .over)

/-- The window is steady when it holds exactly W entries and either every entry is OVER, or none is and any two weights differ by at
most d (R5). -/
def Obligations.SteadinessTest : Prop :=
  ∀ (cfg : ScaleConfig) (window : List Reading),
    steady cfg window = true ↔
      window.length = cfg.windowLength ∧
        ((∀ r ∈ window, r.readingClass = .over) ∨
          ((∀ r ∈ window, r.readingClass ≠ .over) ∧ ∀ a ∈ window, ∀ b ∈ window, a.weight - b.weight ≤ cfg.division))

/-- READING_FRAME: an OK or OVERRANGE arrival joins the window, sets the state by the steadiness test and restarts the stale timer; one
that takes the channel from MOTION to STABLE completes a waiting capture by the tests of its owner, and any other leaves it in its
slot; a FAULT arrival empties the window, sets ZERO_REQUIRED, stops the timer and ends a waiting capture; each raises one SCALE
event when it changes the state or ZERO_REQUIRED and no other event; every other frame is discarded (R1, R4, R6, R7, R10, R17, R19,
R20, R22, R44, R45, R46, R61). -/
def Obligations.ReadingFramesTaken : Prop :=
  ∀ (c : ChannelId) (raw : Int) (s : State), s.running = true → (s.channel c).state ≠ .off → 1 ≤ (s.channel c).config.windowLength →
    -2000000 ≤ raw → raw ≤ 2000000 →
    let ch := s.channel c
    (∀ high : Bool, ∃ t, exec (.readingFrame c raw (if high then .overrange else .ok) true) s = .next t ∧
      (t.channel c).window = ((ch.window ++ [Reading.mk raw (roundWeight ch.config.division ch.zero raw)
          (classify ch.config high (roundWeight ch.config.division ch.zero raw))]).drop
          (ch.window.length + 1 - ch.config.windowLength)) ∧
      (t.channel c).state = (if steady ch.config (t.channel c).window then .stable else .motion) ∧
      (t.channel c).stale = some (s.timebase + ch.config.staleLimit) ∧
      (t.channel c).config = ch.config ∧ (t.channel c).zero = ch.zero ∧ (t.channel c).calZero = ch.calZero ∧
      (t.channel c).zeroRequired = ch.zeroRequired ∧
      s.tells t (if ch.state = (t.channel c).state then [] else [.scale c (t.channel c).state ch.zeroRequired]) ∧
      (ch.slot = none → (t.channel c).slot = none ∧ t.tickets = s.tickets ∧ t.tares = s.tares ∧
        t.nextWeighing = s.nextWeighing) ∧
      (ch.state = .motion → (t.channel c).state = .stable → (t.channel c).slot = none) ∧
      (¬(ch.state = .motion ∧ (t.channel c).state = .stable) → (t.channel c).slot = ch.slot ∧ t.tickets = s.tickets ∧
        t.tares = s.tares ∧ t.nextWeighing = s.nextWeighing ∧ ∀ p, (t.port p).out = (s.port p).out ∧ (t.port p).busy = (s.port p).busy) ∧
      (∀ cap, ch.slot = some cap → ch.state = .motion → (t.channel c).state = .stable →
        let x := roundWeight ch.config.division ch.zero raw
        let cls := classify ch.config high x
        let w : Weighing :=
          { weight := x.toNat, margin := decide (cls = .margin), source := .scale c, number := s.nextWeighing, time := s.clock }
        let answered : Answer → Prop := fun a => (t.port cap.port).busy = none ∧
          (t.port cap.port).out = (s.port cap.port).out ++ [.reply { tag := cap.tag, answer := a }]
        let noted : List Byte → Answer := fun data => if cls = .margin then .noted [.marginWeight] data else .success data
        let used : Prop := t.nextWeighing = if 999999 ≤ s.nextWeighing then 1 else s.nextWeighing + 1
        (∀ n l role grade tk, cap.owner = .line n l role grade → s.ticket? n = some tk → (∃ ln, tk.line? l = some ln) →
          let failed : Reason → Prop := fun reason => answered (.stop reason 0) ∧ t.nextWeighing = s.nextWeighing ∧
            t.tares = s.tares ∧ t.ticket? n = some (tk.changeLine l fun ln => { ln with mark := none })
          (∀ m, m ≠ n → t.ticket? m = s.ticket? m) ∧
          (cls = .over ∨ cls = .under → failed .weightRange) ∧
          (cls = .normal ∨ cls = .margin →
            (role = .tare → x < 0 → failed .negativeTare) ∧
            (role ≠ .tare → x < 20 * ch.config.division → failed .belowMin) ∧
            (role = .chain → 20 * ch.config.division ≤ x → 8 ≤ tk.lines.length → failed .lineLimit) ∧
            (role = .gross → 20 * ch.config.division ≤ x → answered (noted (numBytes 4 s.nextWeighing)) ∧ used ∧
              t.ticket? n = some (tk.changeLine l fun ln => { ln with gross := some w, mark := none })) ∧
            (role = .tare → 0 ≤ x → answered (noted (numBytes 4 s.nextWeighing)) ∧ used ∧
              t.ticket? n = some (tk.changeLine l fun ln => { ln with tare := some w, mark := none })) ∧
            (role = .chain → 20 * ch.config.division ≤ x → tk.lines.length < 8 →
              answered (noted (numBytes 4 s.nextWeighing ++ numBytes 1 (tk.lines.length + 1))) ∧ used ∧
              t.ticket? n = some { tk with
                lines := (tk.changeLine l fun ln => { ln with tare := some w, mark := none }).lines ++
                  [{ grade := grade, gross := some w, tare := none, deduction := none, mark := none, pricing := none }] }))) ∧
        (∀ plate, cap.owner = .tare plate →
          let failed : Reason → Prop := fun reason =>
            answered (.stop reason 0) ∧ t.nextWeighing = s.nextWeighing ∧ t.tares = s.tares
          t.tickets = s.tickets ∧
          (cls ≠ .normal → failed .weightRange) ∧
          (cls = .normal → x < 20 * ch.config.division → failed .belowMin) ∧
          (cls = .normal → 20 * ch.config.division ≤ x → (∀ e ∈ s.tares, e.plate ≠ plate) → 64 ≤ s.tares.length →
            failed .tableFull) ∧
          (cls = .normal → 20 * ch.config.division ≤ x → ((∃ e ∈ s.tares, e.plate = plate) ∨ s.tares.length < 64) →
            answered (.success (numBytes 4 s.nextWeighing ++ yesNoBytes (s.tares.any fun e => decide (e.plate = plate)))) ∧
            used ∧ t.tares = s.tares.filter (fun e => decide (e.plate ≠ plate)) ++ [{ plate := plate, tare := w, channel := c }]))) ∧
      (∀ e, e ≠ c → t.channel e = s.channel e)) ∧
    (∃ t, exec (.readingFrame c raw .fault true) s = .next t ∧
      t.channel c = { ch with window := [], zeroRequired := true, state := .noData, stale := none, slot := none } ∧
      s.tells t (if ch.state = .noData ∧ ch.zeroRequired = true then [] else [.scale c .noData true]) ∧
      (∀ cap, ch.slot = some cap →
        (t.port cap.port).out =
          (s.port cap.port).out ++ [.reply { tag := cap.tag, answer := .stop .noData 0 }] ∧
        (t.port cap.port).busy = none) ∧
      t.nextWeighing = s.nextWeighing ∧ t.tares = s.tares ∧ (∀ e, e ≠ c → t.channel e = s.channel e)) ∧
    exec (.readingFrame c raw .other true) s = .next s ∧
    (∀ st, exec (.readingFrame c raw st false) s = .next s) ∧
    (∀ st checkHolds e far, (s.channel e).state = .off ∨ far < -2000000 ∨ 2000000 < far →
      exec (.readingFrame e far st checkHolds) s = .next s)

/-- CONFIGURE SCALE writes the configuration with W and the stale limit clamped, makes Zc absent, empties the window, sets
ZERO_REQUIRED, stops the stale timer and keeps Z; the channel is in NO_DATA when enabled and in OFF when not; one SCALE event is
raised when the state or ZERO_REQUIRED changed. A channel outside 0 to 3 is refused with RANGE, a channel whose slot holds a capture
with SCALE_BUSY, and a capacity or division that fails a test of R11 with RANGE (R10, R11, R12). That the enabled byte is tested
with the channel is the model's choice (log 12). -/
def Obligations.ConfigureScaleWrites : Prop :=
  (∀ (k : Packet) (s : State) (c : ChannelId) (enabled : Bool) (capacity division w stale : Nat), s.takes k →
    (s.port k.port).role = .supervisor → (s.channel c).slot = none →
    division ∈ [1, 2, 5, 10, 20, 50, 100, 200, 500] → 1000 ≤ capacity → capacity ≤ 1000000 → capacity % division = 0 →
    500 ≤ capacity / division → capacity / division ≤ 10000 → w < 256 → stale < 256 ^ 4 →
    k.params = numBytes 1 c.val ++ yesNoBytes enabled ++ numBytes 4 capacity ++ numBytes 4 division ++ numBytes 1 w
      ++ numBytes 4 stale →
    let new : Channel :=
      { s.channel c with
        config := { enabled := enabled, capacity := capacity, division := division,
                    windowLength := max 3 (min w 32), staleLimit := max 200 (min stale 5000) }
        calZero := none, window := [], zeroRequired := true, stale := none,
        state := if enabled then .noData else .off }
    let answer : Answer :=
      if 3 ≤ w ∧ w ≤ 32 ∧ 200 ≤ stale ∧ stale ≤ 5000 then .success [] else .noted [.clampedSetting] []
    exec (.configureScale k) s =
      if (s.channel c).state = new.state ∧ (s.channel c).zeroRequired = true then
        .next (((s.hunt k.port).setChannel c new).replied k answer)
      else .next ((((s.hunt k.port).setChannel c new).raise (.scale c new.state true)).replied k answer)) ∧
  ∀ (k : Packet) (s : State) (ch enabled capacity division w stale : Nat), s.takes k → (s.port k.port).role = .supervisor →
    ch < 256 → enabled < 256 → capacity < 256 ^ 4 → division < 256 ^ 4 → w < 256 → stale < 256 ^ 4 →
    k.params = numBytes 1 ch ++ numBytes 1 enabled ++ numBytes 4 capacity ++ numBytes 4 division ++ numBytes 1 w
      ++ numBytes 4 stale →
    let refused : Reason → Prop := fun reason => exec (.configureScale k) s = .next ((s.hunt k.port).replied k (.stop reason 0))
    (4 ≤ ch ∨ 2 ≤ enabled → refused .range) ∧
    (∀ c : ChannelId, ch = c.val → enabled ≤ 1 →
      ((s.channel c).slot ≠ none → refused .scaleBusy) ∧
      ((s.channel c).slot = none →
        division ∉ [1, 2, 5, 10, 20, 50, 100, 200, 500] ∨ capacity < 1000 ∨ 1000000 < capacity ∨ capacity % division ≠ 0 ∨
          capacity / division < 500 ∨ 10000 < capacity / division →
        refused .range))

/-- ZERO's checks in the order of R13, and its effect: Z becomes the newest raw value, Zc too if it was absent, ZERO_REQUIRED is
cleared, the window emptied and the channel in MOTION with its stale timer running on, with one SCALE event (R13, R14). -/
def Obligations.ZeroSetsTheOffset : Prop :=
  ∀ (k : Packet) (s : State) (n : Nat), s.takes k → n < 256 → k.params = numBytes 1 n →
    ((s.port k.port).role ∉ [Role.supervisor, .scalehouse] →
      exec (.zero k) s = .next ((s.hunt k.port).replied k (.stop .role 0))) ∧
    ((s.port k.port).role ∈ [Role.supervisor, .scalehouse] → 4 ≤ n →
      exec (.zero k) s = .next ((s.hunt k.port).replied k (.stop .range 0))) ∧
    (∀ (c : ChannelId) (newest : Reading), (s.port k.port).role ∈ [Role.supervisor, .scalehouse] → n = c.val →
      ((s.channel c).state = .stable → (s.channel c).window.getLast? = some newest) →
      let ch := s.channel c
      exec (.zero k) s =
        if ch.state = .off then .next ((s.hunt k.port).replied k (.stop .scaleOff 0))
        else if ch.slot ≠ none then .next ((s.hunt k.port).replied k (.stop .scaleBusy 0))
        else if ch.state ≠ .stable then .next ((s.hunt k.port).replied k (.stop .unstable 0))
        else if ∀ x ∈ ch.window, x.readingClass = .over then .next ((s.hunt k.port).replied k (.stop .zeroRange 0))
        else if ∃ zc ∈ ch.calZero, ((ch.config.capacity / 25 : Nat) : Int) < |newest.raw - zc| then
          .next ((s.hunt k.port).replied k (.stop .zeroRange 0))
        else .next ((((s.hunt k.port).setChannel c
          { ch with
            zero := newest.raw, calZero := some (ch.calZero.getD newest.raw), zeroRequired := false, window := [],
            state := .motion }).raise (.scale c .motion false)).replied k (.success [])))

/-- STALE_EXPIRY puts a channel whose timer runs into NO_DATA with an empty window and one SCALE event, ZERO_REQUIRED kept, and ends a
waiting capture with RETRY NO_DATA; CAPTURE_TIMEOUT frees the slot and answers RETRY UNSTABLE, the channel's state and window kept;
both clear the line's mark and use no weighing number (R8, R10, R21, R22, R47). The timebase at an expiry is the model's choice (log
2). -/
def Obligations.ScaleTimersEndCaptures : Prop :=
  ∀ (c : ChannelId) (s : State), s.running = true →
    (∀ time, (s.channel c).stale = some time → ∃ t, exec (.staleExpiry c) s = .next t ∧
      t.channel c = { s.channel c with window := [], state := .noData, stale := none, slot := none } ∧
      s.tells t (if (s.channel c).state = .noData then [] else [.scale c .noData (s.channel c).zeroRequired]) ∧
      (∀ cap, (s.channel c).slot = some cap →
        (t.port cap.port).out = (s.port cap.port).out ++ [.reply { tag := cap.tag, answer := .stop .noData 0 }] ∧
        (t.port cap.port).busy = none ∧
        ∀ n k role grade tk, cap.owner = .line n k role grade → s.ticket? n = some tk →
          t.ticket? n = some (tk.changeLine k fun ln => { ln with mark := none })) ∧
      ((s.channel c).slot = none → t.tickets = s.tickets) ∧
      t.timebase = max s.timebase time ∧ t.nextWeighing = s.nextWeighing ∧ t.tares = s.tares ∧
      (∀ e, e ≠ c → t.channel e = s.channel e)) ∧
    (∀ cap, (s.channel c).slot = some cap → ∃ t, exec (.captureTimeout c) s = .next t ∧
      t.channel c = { s.channel c with slot := none } ∧
      t.port cap.port = { s.port cap.port with
        busy := none, out := (s.port cap.port).out ++ [.reply { tag := cap.tag, answer := .stop .unstable 0 }] } ∧
      (∀ n k role grade tk, cap.owner = .line n k role grade → s.ticket? n = some tk →
        t.ticket? n = some (tk.changeLine k fun ln => { ln with mark := none })) ∧
      t.timebase = max s.timebase cap.expiry ∧ t.nextWeighing = s.nextWeighing ∧ t.tares = s.tares ∧
      (∀ e, e ≠ c → t.channel e = s.channel e) ∧ ∀ q, q ≠ cap.port → t.port q = s.port q) ∧
    ((s.channel c).stale = none → exec (.staleExpiry c) s = .next s) ∧
    ((s.channel c).slot = none → exec (.captureTimeout c) s = .next s)

/-- A CAPTURE or STORE TARE taken on a channel in MOTION waits: its record stands in the slot with the timeout's expiry, its port has a
command in progress, the line of a CAPTURE carries its mark, and no reply is sent. A CAPTURE that fails a check of R41 is refused at
its request with RANGE, STATE, INCOMPLETE_LINE or LINE_LIMIT (R17, R41, R42, R180). -/
def Obligations.CapturesWait : Prop :=
  (∀ (k : Packet) (s : State) (c : ChannelId), s.takes k → (s.port k.port).role ∈ permitted 16 →
    (s.channel c).state = .motion → (s.channel c).zeroRequired = false → (s.channel c).slot = none →
    (∀ n l role grade t ln, 1 ≤ n → n ≤ 999999 → 1 ≤ l → l ≤ 8 → grade ≤ 999999 → s.ticket? n = some t → t.state = .opened →
      t.line? l = some ln → ln.mark = none →
      (role = .gross → ln.gross = none) → (role = .tare → ln.tare = none) →
      (role = .chain → ln.tare = none ∧ ln.gross ≠ none ∧ t.lines.length < 8) →
      k.params = numBytes 4 n ++ numBytes 1 l ++ numBytes 1 (match role with
        | .gross => 0
        | .tare => 1
        | .chain => 2) ++ numBytes 1 c.val ++ numBytes 4 grade →
      exec (.capture k) s = .next
        ((((s.hunt k.port).putTicket (t.changeLine l fun ln => { ln with mark := some role.side })).setChannel c
            { s.channel c with
              slot := some (Capture.mk (.line n l role grade) k.port k.tag
                (s.timebase + 1000 * s.settings.captureTimeout)) }).setPort k.port
            { s.port k.port with receiver := .hunting, busy := some { kind := .capture, tag := k.tag } })) ∧
    (∀ plate, plate ≠ [] → plateOk plate = true →
      (s.tares.length < 64 ∨ ∃ e ∈ s.tares, e.plate = upperCase plate) →
      k.params = textBytes plate ++ numBytes 1 c.val →
      exec (.storeTare k) s = .next
        (((s.hunt k.port).setChannel c
            { s.channel c with
              slot := some (Capture.mk (.tare (upperCase plate)) k.port k.tag
                (s.timebase + 1000 * s.settings.captureTimeout)) }).setPort k.port
            { s.port k.port with receiver := .hunting, busy := some { kind := .storeTare, tag := k.tag } }))) ∧
  ∀ (k : Packet) (s : State) (n l role channel grade : Nat), s.takes k → (s.port k.port).role ∈ permitted 16 →
    1 ≤ n → n ≤ 999999 → 1 ≤ l → l ≤ 8 → role < 256 → channel ≤ 3 → grade < 256 ^ 4 →
    k.params = numBytes 4 n ++ numBytes 1 l ++ numBytes 1 role ++ numBytes 1 channel ++ numBytes 4 grade →
    let refused : Reason → Prop := fun reason => exec (.capture k) s = .next ((s.hunt k.port).replied k (.stop reason 0))
    (3 ≤ role ∨ (role = 2 ∧ 999999 < grade) → refused .range) ∧
    (∀ t ln, s.ticket? n = some t → t.state = .opened → t.line? l = some ln → role ≤ 2 → (role = 2 → grade ≤ 999999) →
      (ln.mark ≠ none ∨ (role = 0 ∧ ln.gross ≠ none) ∨ (role ≠ 0 ∧ ln.tare ≠ none) → refused .state) ∧
      (role = 2 → ln.mark = none → ln.tare = none →
        (ln.gross = none → refused .incompleteLine) ∧
        (ln.gross ≠ none → 8 ≤ t.lines.length → refused .lineLimit)))

/-- A capture request is checked by its channel in the order of R16, and a request that fails changes nothing; a CAPTURE or STORE TARE
naming a channel outside 0 to 3 is refused with RANGE by its owner (R16). -/
def Obligations.ChannelChecksCaptures : Prop :=
  (∀ (s : State) (c : ChannelId) (owner : CaptureOwner) (mark : Option Side) (k : Packet),
    ((s.channel c).state = .off → s.requestCapture c owner mark k = (s, some (.stop .scaleOff 0))) ∧
    ((s.channel c).state ≠ .off → (s.channel c).zeroRequired = true →
      s.requestCapture c owner mark k = (s, some (.stop .zeroRequired 0))) ∧
    ((s.channel c).state ≠ .off → (s.channel c).zeroRequired = false → (s.channel c).slot ≠ none →
      s.requestCapture c owner mark k = (s, some (.stop .scaleBusy 0))) ∧
    ((s.channel c).state = .noData → (s.channel c).zeroRequired = false → (s.channel c).slot = none →
      s.requestCapture c owner mark k = (s, some (.stop .noData 0)))) ∧
  (∀ (k : Packet) (s : State) (c : Nat), s.takes k → 4 ≤ c → c < 256 →
    (∀ n l role grade, (s.port k.port).role ∈ permitted 16 → n < 256 ^ 4 → l < 256 → role < 256 → grade < 256 ^ 4 →
      k.params = numBytes 4 n ++ numBytes 1 l ++ numBytes 1 role ++ numBytes 1 c ++ numBytes 4 grade →
      exec (.capture k) s = .next ((s.hunt k.port).replied k (.stop .range 0))) ∧
    (∀ plate : Text, (s.port k.port).role ∈ permitted 21 → plate.length < 256 →
      k.params = textBytes plate ++ numBytes 1 c →
      exec (.storeTare k) s = .next ((s.hunt k.port).replied k (.stop .range 0))))

/-- A CAPTURE on a STABLE channel completes at once with the newest window entry: an OVER or UNDER reading is WEIGHT_RANGE; a GROSS
below 20 × d is BELOW_MIN and a TARE below 0 NEGATIVE_TARE; otherwise the weighing record takes the next weighing number and becomes
the line's gross or tare (R20, R25, R44, R45). -/
def Obligations.CapturesRecordAtOnce : Prop :=
  ∀ (k : Packet) (s : State) (c : ChannelId) (n l grade : Nat) (side : Side) (t : Ticket) (ln : Line) (r : Reading),
    s.takes k → (s.port k.port).role ∈ permitted 16 →
    (s.channel c).state = .stable → (s.channel c).zeroRequired = false → (s.channel c).slot = none →
    (s.channel c).window.getLast? = some r →
    1 ≤ n → n ≤ 999999 → 1 ≤ l → l ≤ 8 → grade < 256 ^ 4 → s.ticket? n = some t → t.state = .opened → t.line? l = some ln →
    ln.mark = none → (side = .gross → ln.gross = none) → (side = .tare → ln.tare = none) →
    k.params = numBytes 4 n ++ numBytes 1 l ++ numBytes 1 (if side = .gross then 0 else 1) ++ numBytes 1 c.val ++ numBytes 4 grade →
    let w : Weighing :=
      { weight := r.weight.toNat, margin := decide (r.readingClass = .margin), source := .scale c,
        number := s.nextWeighing, time := s.clock }
    let clear := (s.hunt k.port).putTicket (t.changeLine l fun ln => { ln with mark := none })
    exec (.capture k) s =
      if r.readingClass = .over ∨ r.readingClass = .under then .next (clear.replied k (.stop .weightRange 0))
      else if side = .gross ∧ r.weight < 20 * (s.channel c).config.division then .next (clear.replied k (.stop .belowMin 0))
      else if side = .tare ∧ r.weight < 0 then .next (clear.replied k (.stop .negativeTare 0))
      else .next ((((s.hunt k.port).putTicket (t.changeLine l fun ln =>
          if side = .gross then { ln with gross := some w, mark := none } else { ln with tare := some w, mark := none })
        ).giveWeighing).replied k
          (if r.readingClass = .margin then .noted [.marginWeight] (numBytes 4 s.nextWeighing)
            else .success (numBytes 4 s.nextWeighing)))

/-- A CHAIN on a STABLE channel writes one weighing, with one number, as line k's tare and as the gross of a new last line with the
grade given (R46). -/
def Obligations.ChainRecordsBothLines : Prop :=
  ∀ (k : Packet) (s : State) (c : ChannelId) (n l grade : Nat) (t : Ticket) (ln : Line) (r : Reading),
    s.takes k → (s.port k.port).role ∈ permitted 16 →
    (s.channel c).state = .stable → (s.channel c).zeroRequired = false → (s.channel c).slot = none →
    (s.channel c).window.getLast? = some r → r.readingClass ≠ .over → r.readingClass ≠ .under →
    20 * (s.channel c).config.division ≤ r.weight →
    1 ≤ n → n ≤ 999999 → 1 ≤ l → l ≤ 8 → grade ≤ 999999 → s.ticket? n = some t → t.state = .opened → t.line? l = some ln →
    ln.mark = none → ln.tare = none → ln.gross ≠ none → t.lines.length < 8 →
    k.params = numBytes 4 n ++ numBytes 1 l ++ numBytes 1 2 ++ numBytes 1 c.val ++ numBytes 4 grade →
    let w : Weighing :=
      { weight := r.weight.toNat, margin := decide (r.readingClass = .margin), source := .scale c,
        number := s.nextWeighing, time := s.clock }
    let lines := t.lines.set (l - 1) { ln with tare := some w, mark := none } ++
      [{ grade := grade, gross := some w, tare := none, deduction := none, mark := none, pricing := none }]
    let data := numBytes 4 s.nextWeighing ++ numBytes 1 (t.lines.length + 1)
    exec (.capture k) s = .next ((((s.hunt k.port).putTicket { t with lines := lines }).giveWeighing).replied k
      (if r.readingClass = .margin then .noted [.marginWeight] data else .success data))

/-! ### Tickets -/

/-- OPEN TICKET refuses with RANGE a class, a customer id or a plate outside its form, then a full table and a plate that an OPEN ticket
carries, and otherwise appends an OPEN ticket without lines, numbered from the counter by the first number not in use, and raises
one TICKET event carrying OPEN (R31, R33, R34). -/
def Obligations.OpenTicketCreates : Prop :=
  (∀ (k : Packet) (s : State) (cls : CustomerClass) (customer plate : Text), s.takes k → (s.port k.port).role ∈ permitted 10 →
    customer.length ≤ 12 → printable customer = true → plateOk plate = true →
    k.params = numBytes 1 cls.code ++ textBytes customer ++ textBytes plate →
    (48 ≤ s.tickets.length → exec (.openTicket k) s = .next ((s.hunt k.port).replied k (.stop .tableFull 0))) ∧
    (s.tickets.length < 48 → plate ≠ [] → (∃ t ∈ s.tickets, t.state = .opened ∧ t.plate = some (upperCase plate)) →
      exec (.openTicket k) s = .next ((s.hunt k.port).replied k (.stop .plateOpen 0))) ∧
    (s.tickets.length < 48 → (plate = [] ∨ ∀ t ∈ s.tickets, t.state = .opened → t.plate ≠ some (upperCase plate)) →
      ∃ n : Nat, exec (.openTicket k) s =
        .next ((({ s.hunt k.port with
            tickets := s.tickets ++ [{
              number := n, state := .opened, customerClass := cls,
              customer := if customer = [] then none else some customer,
              plate := if plate = [] then none else some (upperCase plate),
              openedAt := s.clock, openedBy := k.port, lines := [], marginAccepted := false, settlement := none,
              payout := none, owed := none, settlementPrinted := false, voidReason := none, voidPort := none }],
            nextTicket := if 999999 ≤ n then 1 else n + 1 } : State).raise (.ticket n (some .opened))).replied k
          (.success (numBytes 4 n))) ∧
        ((∀ t ∈ s.tickets, t.number ≠ s.nextTicket) → n = s.nextTicket) ∧
        passesOver (fun m => if 999999 ≤ m then 1 else m + 1) (fun m => ∃ t ∈ s.tickets, t.number = m) s.nextTicket n ∧
        (1 ≤ s.nextTicket → s.nextTicket ≤ 999999 → (∀ t ∈ s.tickets, t.number ≠ n) ∧ 1 ≤ n ∧ n ≤ 999999))) ∧
  ∀ (k : Packet) (s : State) (cls : Nat) (customer plate : Text), s.takes k → (s.port k.port).role ∈ permitted 10 → cls < 256 →
    customer.length < 256 → plate.length < 256 → k.params = numBytes 1 cls ++ textBytes customer ++ textBytes plate →
    3 < cls ∨ 12 < customer.length ∨ (∃ c ∈ customer, c.toNat < 0x20 ∨ 0x7E < c.toNat) ∨ 10 < plate.length ∨
      (∃ c ∈ plate, ¬(0x41 ≤ c.toNat ∧ c.toNat ≤ 0x5A) ∧ ¬(0x61 ≤ c.toNat ∧ c.toNat ≤ 0x7A) ∧
        ¬(0x30 ≤ c.toNat ∧ c.toNat ≤ 0x39) ∧ c.toNat ≠ 0x2D) →
    exec (.openTicket k) s = .next ((s.hunt k.port).replied k (.stop .range 0))

/-- ADD LINE appends a line with its grade alone and answers its position; REMOVE LINE removes the line, moves the later ones up, keeps
the captures on the lines they hold, and cancels the removed line's own capture (R35, R36, R37). -/
def Obligations.LinesAddedAndRemoved : Prop :=
  ∀ (k : Packet) (s : State) (n : Nat) (t : Ticket), s.takes k → 1 ≤ n → n ≤ 999999 → s.ticket? n = some t → t.state = .opened →
    (∀ grade, (s.port k.port).role ∈ permitted 11 → grade ≤ 999999 → t.lines.length < 8 →
      k.params = numBytes 4 n ++ numBytes 4 grade →
      exec (.addLine k) s = .next (((s.hunt k.port).putTicket
        { t with lines := t.lines ++ [{
            grade := grade, gross := none, tare := none, deduction := none, mark := none, pricing := none }] }).replied k
        (.success (numBytes 1 (t.lines.length + 1))))) ∧
    (∀ grade, (s.port k.port).role ∈ permitted 11 → grade ≤ 999999 → 8 ≤ t.lines.length →
      k.params = numBytes 4 n ++ numBytes 4 grade →
      exec (.addLine k) s = .next ((s.hunt k.port).replied k (.stop .lineLimit 0))) ∧
    (∀ l ln, (s.port k.port).role ∈ permitted 12 → 1 ≤ l → l ≤ 8 → t.line? l = some ln → s.capturesStand → s.marksStand →
      k.params = numBytes 4 n ++ numBytes 1 l →
      ∃ u x, exec (.removeLine k) s = .next u ∧ u.ticket? n = some { t with lines := x } ∧
        (ln.mark = none → x = t.lines.eraseIdx (l - 1)) ∧
        x.map (fun ln => ({ ln with mark := none } : Line)) =
          (t.lines.eraseIdx (l - 1)).map (fun ln => ({ ln with mark := none } : Line)) ∧
        (∀ m, m ≠ n → u.ticket? m = s.ticket? m) ∧
        (∀ c cap, (s.channel c).slot = some cap → cap.forLine n l = true →
          (u.channel c).slot = none ∧ (u.port cap.port).busy = none ∧
          (u.port cap.port).out =
            (s.port cap.port).out ++ [.reply { tag := cap.tag, answer := .stop .cancelled 0 }]) ∧
        (∀ c cap, (s.channel c).slot = some cap → cap.forLine n l = false →
          (u.channel c).slot = some { cap with owner := cap.owner.renumber n l }) ∧
        u.nextWeighing = s.nextWeighing ∧ u.tares = s.tares ∧
        (u.port k.port).out = (s.port k.port).out ++ [.reply { tag := k.tag, answer := .success [] }])

/-- SET DEDUCTION sets or clears a deduction, KEY WEIGHT writes a keyed weighing with the next number into an empty slot, ACCEPT MARGIN
sets margin accepted, and USE STORED TARE copies an unexpired entry's record as the tare with the source STORED; each changes that
one item. KEY WEIGHT and USE STORED TARE are refused by their own checks in order, the ticket requests, USE STORED TARE and CLOSE
TICKET by the common checks RANGE, NO_TICKET, STATE and NO_LINE in order, and every request that names a ticket by RANGE for a
number outside 1 to 999,999 (R32, R38, R39, R40, R66, R85, R120, R155). That RANGE for a ticket number, where R85, R120 and R155 do
not state it, is the model's choice (log 14). -/
def Obligations.LineFieldsWritten : Prop :=
  (∀ (k : Packet) (s : State) (n : Nat) (t : Ticket), s.takes k → 1 ≤ n → n ≤ 999999 → s.ticket? n = some t → t.state = .opened →
    (∀ l ln v, (s.port k.port).role ∈ permitted 13 → 1 ≤ l → l ≤ 8 → t.line? l = some ln → v ≤ 500 ∨ v = 65535 →
      k.params = numBytes 4 n ++ numBytes 1 l ++ numBytes 2 v →
      exec (.setDeduction k) s = .next (((s.hunt k.port).putTicket
        (t.changeLine l fun ln => { ln with deduction := if v = 65535 then none else some v })).replied k (.success []))) ∧
    (∀ l ln side w, (s.port k.port).role = .supervisor → 1 ≤ l → l ≤ 8 → t.line? l = some ln → w ≤ 1000000 →
      ln.mark ≠ some side → (side = .gross → ln.gross = none) → (side = .tare → ln.tare = none) →
      k.params = numBytes 4 n ++ numBytes 1 l ++ numBytes 1 (markCode (some side)) ++ numBytes 4 w →
      let record : Weighing :=
        { weight := w, margin := false, source := .keyed, number := s.nextWeighing, time := s.clock }
      exec (.keyWeight k) s = .next ((((s.hunt k.port).putTicket (t.changeLine l fun ln =>
        if side = .gross then { ln with gross := some record } else { ln with tare := some record })).giveWeighing).replied k
        (.success (numBytes 4 s.nextWeighing)))) ∧
    ((s.port k.port).role = .supervisor → k.params = numBytes 4 n →
      exec (.acceptMargin k) s =
        .next (((s.hunt k.port).putTicket { t with marginAccepted := true }).replied k (.success []))) ∧
    (∀ l ln plate e, (s.port k.port).role ∈ permitted 24 → 1 ≤ l → l ≤ 8 → t.line? l = some ln → t.plate = some plate →
      s.tares.find? (fun x => decide (x.plate = plate)) = some e →
      s.clock.day ≤ e.tare.time.day + s.settings.tareExpiry → ln.mark ≠ some .tare → ln.tare = none →
      k.params = numBytes 4 n ++ numBytes 1 l →
      exec (.useStoredTare k) s = .next (((s.hunt k.port).putTicket (t.changeLine l fun ln =>
        { ln with tare := some { e.tare with source := .stored } })).replied k (.success (numBytes 4 e.tare.number)))) ∧
    (∀ l ln side w, (s.port k.port).role = .supervisor → 1 ≤ l → l ≤ 8 → t.line? l = some ln → w ≤ 1000000 →
      k.params = numBytes 4 n ++ numBytes 1 l ++ numBytes 1 (markCode (some side)) ++ numBytes 4 w →
      (ln.mark = some side → exec (.keyWeight k) s = .next ((s.hunt k.port).replied k (.stop .capturePending 0))) ∧
      (ln.mark ≠ some side → (side = .gross ∧ ln.gross ≠ none) ∨ (side = .tare ∧ ln.tare ≠ none) →
        exec (.keyWeight k) s = .next ((s.hunt k.port).replied k (.stop .state 0)))) ∧
    (∀ l ln, (s.port k.port).role ∈ permitted 24 → 1 ≤ l → l ≤ 8 → t.line? l = some ln →
      k.params = numBytes 4 n ++ numBytes 1 l →
      let refused : Reason → Prop := fun reason =>
        exec (.useStoredTare k) s = .next ((s.hunt k.port).replied k (.stop reason 0))
      (t.plate = none → refused .noPlate) ∧
      (∀ plate, t.plate = some plate → (∀ x ∈ s.tares, x.plate ≠ plate) → refused .tareUnknown) ∧
      (∀ plate e, t.plate = some plate → s.tares.find? (fun x => decide (x.plate = plate)) = some e →
        (e.tare.time.day + s.settings.tareExpiry < s.clock.day → refused .tareExpired) ∧
        (s.clock.day ≤ e.tare.time.day + s.settings.tareExpiry →
          (ln.mark = some .tare → refused .capturePending) ∧
          (ln.mark ≠ some .tare → ln.tare ≠ none → refused .state))))) ∧
  (∀ (k : Packet) (s : State) (n : Nat), s.takes k → 1 ≤ n → n ≤ 999999 →
    let refused : Instr → Reason → Prop := fun c reason =>
      ∀ code, c.command? = some (code, k) → (s.port k.port).role ∈ permitted code →
        exec c s = .next ((s.hunt k.port).replied k (.stop reason 0))
    let opened : Instr → Prop := fun c =>
      (s.ticket? n = none → refused c .noTicket) ∧ ∀ t, s.ticket? n = some t → t.state ≠ .opened → refused c .state
    let onLine : Nat → Instr → Prop := fun l c =>
      if l = 0 ∨ 8 < l then refused c .range
      else opened c ∧ ∀ t, s.ticket? n = some t → t.state = .opened → t.line? l = none → refused c .noLine
    (k.params = numBytes 4 n →
      opened (.acceptMargin k) ∧ (s.ticket? n = none → refused (.reopenTicket k) .noTicket) ∧
      ∀ t, s.ticket? n = some t → t.state ≠ .held → t.state ≠ .payable → refused (.reopenTicket k) .state) ∧
    (∀ grade, grade < 256 ^ 4 → k.params = numBytes 4 n ++ numBytes 4 grade →
      (grade ≤ 999999 → opened (.addLine k)) ∧ (999999 < grade → refused (.addLine k) .range)) ∧
    (∀ v, v < 256 → k.params = numBytes 4 n ++ numBytes 1 v →
      onLine v (.removeLine k) ∧ onLine v (.useStoredTare k) ∧
      (v ≤ 1 → opened (.closeTicket k)) ∧ (2 ≤ v → refused (.closeTicket k) .range) ∧
      (s.ticket? n = none → refused (.voidTicket k) .noTicket ∧ (v ≤ 8 → refused (.readTicket k) .noTicket)) ∧
      (8 < v → refused (.readTicket k) .range) ∧
      (∀ t, s.ticket? n = some t → t.state = .paid ∨ t.state = .voided → refused (.voidTicket k) .state) ∧
      (∀ t, s.ticket? n = some t → 1 ≤ v → v ≤ 8 → t.line? v = none → refused (.readTicket k) .noLine)) ∧
    (∀ l v, l < 256 → v < 65536 → k.params = numBytes 4 n ++ numBytes 1 l ++ numBytes 2 v →
      (v ≤ 500 ∨ v = 65535 → onLine l (.setDeduction k)) ∧ (500 < v → v ≠ 65535 → refused (.setDeduction k) .range)) ∧
    (∀ l side w, l < 256 → w < 256 ^ 4 → k.params = numBytes 4 n ++ numBytes 1 l ++ numBytes 1 side ++ numBytes 4 w → side < 256 →
      ((side = 1 ∨ side = 2) ∧ w ≤ 1000000 → onLine l (.keyWeight k)) ∧
      (side = 0 ∨ 2 < side ∨ 1000000 < w → refused (.keyWeight k) .range)) ∧
    (∀ l role channel grade, l < 256 → role ≤ 2 → channel ≤ 3 → grade ≤ 999999 →
      k.params = numBytes 4 n ++ numBytes 1 l ++ numBytes 1 role ++ numBytes 1 channel ++ numBytes 4 grade →
      onLine l (.capture k))) ∧
  ∀ (k : Packet) (s : State) (c : Instr) (code n : Nat) (rest : List Byte), s.takes k → c.command? = some (code, k) →
    code ∈ [11, 12, 13, 14, 15, 16, 17, 18, 19, 24, 29, 31, 35, 39] → (s.port k.port).role ∈ permitted code →
    fitsLayout c = true → n = 0 ∨ 999999 < n → n < 256 ^ 4 → k.params = numBytes 4 n ++ rest →
    exec c s = .next ((s.hunt k.port).replied k (.stop .range 0))

/-- VOID TICKET makes the ticket VOID with its reason and voiding port and its lines and settlement kept, or retires it as such; cancels
its captures, each answered REFUSED CANCELLED; counts one void; raises one TICKET event carrying VOID, and one carrying RETIRED when
the ticket is retired; and leaves every other ticket, the tare table, the prices and the clock as they were. An owed receipt whose
job is PRINTING is left; any other is withdrawn and its job cancelled, and then a VOID_NOTICE becomes owed when the settlement was
printed, with the renumbering of R135 after the last stamp, and the ticket is retired when nothing is owed and no other job refers
to it. A SCALEHOUSE port is refused with WEIGHED on a settled or weighed ticket (R30, R48, R49, R51, R54, R135, R139, R164). The
moment of the renumbering (log 10), the order of the events (log 9) and the list of frames sent (log 17) are the model's. -/
def Obligations.VoidTicketVoids : Prop :=
  (∀ (k : Packet) (s : State) (n reason : Nat) (t : Ticket), s.takes k → s.capturesStand → (s.tickets.map Ticket.number).Nodup →
    s.nextStamp < 4294967295 → 1 ≤ n → n ≤ 999999 → reason ≤ 255 → s.ticket? n = some t →
    t.state = .opened ∨ t.state = .held ∨ t.state = .payable →
    (s.port k.port).role = .supervisor ∨ ((s.port k.port).role = .scalehouse ∧ t.state = .opened ∧
      ∀ ln ∈ t.lines, ln.gross = none ∧ ln.tare = none) →
    k.params = numBytes 4 n ++ numBytes 1 reason →
    ∃ u, exec (.voidTicket k) s = .next u ∧
      (u.port k.port).out = (s.port k.port).out ++ [.reply { tag := k.tag, answer := .success [] }] ∧
      ((∃ x, u.ticket? n = some x ∧ x.state = .voided ∧ x.voidPort = some k.port ∧
          x.voidReason = (if reason = 0 then none else some reason) ∧ x.settlement = t.settlement ∧
          x.lines.map (fun ln => ({ ln with mark := none } : Line)) =
            t.lines.map (fun ln => ({ ln with mark := none } : Line))) ∨
        (u.ticket? n = none ∧ ∃ x, u.snapshots.getLast? = some x ∧ x.number = n ∧ x.state = .voided ∧ x.owed = none ∧
          x.voidPort = some k.port ∧ x.voidReason = (if reason = 0 then none else some reason) ∧
          x.settlement = t.settlement)) ∧
      u.totals.voidCount = min (s.totals.voidCount + 1) 999999 ∧ u.totals.paidCount = s.totals.paidCount ∧
      u.totals.slots = s.totals.slots ∧
      (∀ c cap, (u.channel c).slot = some cap → cap.forTicket n = false) ∧
      (∀ c cap, (s.channel c).slot = some cap → cap.forTicket n = true →
        (u.port cap.port).busy = none ∧
        (u.port cap.port).out = (s.port cap.port).out ++ [.reply { tag := cap.tag, answer := .stop .cancelled 0 }]) ∧
      (∀ m, m ≠ n → u.ticket? m = s.ticket? m) ∧
      u.tares = s.tares ∧ u.nextWeighing = s.nextWeighing ∧ u.active = s.active ∧ u.settings = s.settings ∧ u.clock = s.clock ∧
      (∃ rest, s.tells u (.ticket n (some .voided) :: rest) ∧
        (∀ e ∈ rest, e.kind = .job ∨ e.kind = .printer ∨ e = .ticket n none) ∧
        rest.count (.ticket n none) = if u.ticket? n = none then 1 else 0) ∧
      (s.poolStands →
        (∀ o j, t.owed = some o → s.servingJob? n o = some j → j.state = .printing →
          (∃ x, u.ticket? n = some x ∧ x.owed = some o) ∧ u.jobs = s.jobs ∧ u.printers = s.printers ∧
          u.nextStamp = s.nextStamp) ∧
        (∀ o j, t.owed = some o → s.servingJob? n o = some j → j.state ≠ .printing →
          (∀ x ∈ u.jobs, x.id ≠ j.id) ∧
          (s.snapshots.length < 8 → j.state = .taken →
            ((s.printer j.printer).awaited = none → (u.printer j.printer).sent = (s.printer j.printer).sent ++ [.fin]) ∧
            ((s.printer j.printer).awaited ≠ none → (u.printer j.printer).closeOwed = true))) ∧
        ((∀ o j, t.owed = some o → s.servingJob? n o = some j → j.state ≠ .printing) →
          (t.settlementPrinted = true → u.nextStamp = s.nextStamp + 1 ∧
            ∃ x, u.ticket? n = some x ∧ x.owed = some (Owed.mk .voidNotice (s.port k.port).defaultPrinter k.port s.nextStamp false)) ∧
          (t.settlementPrinted = false → u.nextStamp = s.nextStamp ∧
            ((∀ x ∈ s.jobs, x.refersTo n = true → ∃ o, t.owed = some o ∧ x.source = .owed n o.stamp) → u.ticket? n = none) ∧
            ((∃ x ∈ s.jobs, x.refersTo n = true ∧ ∀ o, t.owed = some o → x.source ≠ .owed n o.stamp) →
              ∃ x, u.ticket? n = some x ∧ x.owed = none))))) ∧
  (∀ (k : Packet) (s : State) (n reason : Nat) (t : Ticket), s.takes k → s.capturesStand → (s.tickets.map Ticket.number).Nodup →
    4294967295 ≤ s.nextStamp → 1 ≤ n → n ≤ 999999 → reason ≤ 255 → s.ticket? n = some t →
    t.state = .held ∨ t.state = .payable → t.settlementPrinted = true → (s.port k.port).role = .supervisor →
    (∀ o j, t.owed = some o → s.servingJob? n o = some j → j.state ≠ .printing) → k.params = numBytes 4 n ++ numBytes 1 reason →
    ∃ (before after : State) (x : Ticket), exec (.voidTicket k) s = .next (after.replied k (.success [])) ∧ before.ticket? n = some x ∧
      x.state = .voided ∧
      x.owed = some (Owed.mk .voidNotice (s.port k.port).defaultPrinter k.port s.nextStamp false) ∧
      (∀ m, m ≠ n → before.ticket? m = s.ticket? m) ∧ before.report = s.report ∧ before.renumbered after) ∧
  (∀ (k : Packet) (s : State) (n reason : Nat) (t : Ticket), s.takes k → (s.port k.port).role = .scalehouse →
    1 ≤ n → n ≤ 999999 → reason ≤ 255 → s.ticket? n = some t →
    t.state = .held ∨ t.state = .payable ∨ (t.state = .opened ∧ ∃ ln ∈ t.lines, ln.gross ≠ none ∨ ln.tare ≠ none) →
    k.params = numBytes 4 n ++ numBytes 1 reason →
    exec (.voidTicket k) s = .next ((s.hunt k.port).replied k (.stop .weighed 0)))

/-- REOPEN TICKET returns a HELD or PAYABLE ticket to OPEN without pricing, settlement, margin acceptance or owed receipt, with one
TICKET event carrying OPEN; a QUEUED or TAKEN job of the withdrawn receipt leaves the pool, a PRINTING one stays in it with a
snapshot of the ticket, its copies are cancelled, and every other job is kept; a plate that another OPEN ticket carries is refused
(R30, R52, R53, R139, R149, R156). The order of the events (log 9) and the list of frames sent (log 17) are the model's. -/
def Obligations.ReopenTicketReopens : Prop :=
  ∀ (k : Packet) (s : State) (n : Nat) (t : Ticket), s.takes k → s.poolStands → (s.tickets.map Ticket.number).Nodup →
    (s.port k.port).role = .supervisor → 1 ≤ n → n ≤ 999999 → s.ticket? n = some t → t.state = .held ∨ t.state = .payable →
    k.params = numBytes 4 n →
    ((∃ x ∈ s.tickets, x.number ≠ n ∧ x.state = .opened ∧ x.plate = t.plate ∧ t.plate ≠ none) →
      exec (.reopenTicket k) s = .next ((s.hunt k.port).replied k (.stop .plateOpen 0))) ∧
    ((t.plate = none ∨ ∀ x ∈ s.tickets, x.number ≠ n → x.state = .opened → x.plate ≠ t.plate) →
      ∃ u, exec (.reopenTicket k) s = .next u ∧
        u.ticket? n = some { t with
          state := .opened, lines := t.lines.map (fun ln => ({ ln with pricing := none } : Line)), settlement := none,
          marginAccepted := false, owed := none } ∧
        (∀ m, m ≠ n → u.ticket? m = s.ticket? m) ∧
        (∀ o, t.owed = some o → ∀ j ∈ u.jobs, j.source = .owed n o.stamp → j.state = .printing ∧ j.frozen = some t) ∧
        (∀ j ∈ u.jobs, j.source ≠ .copyTicket n) ∧
        ((∀ o, t.owed = some o → s.servingJob? n o = none) →
          u.jobs = s.jobs.filter fun x => decide (x.source ≠ .copyTicket n)) ∧
        (∀ o j, t.owed = some o → s.servingJob? n o = some j →
          (j.state = .printing →
            u.jobs = (s.jobs.map fun x => if x.id = j.id then { j with frozen := some t } else x).filter
              fun x => decide (x.source ≠ .copyTicket n)) ∧
          (j.state ≠ .printing → u.jobs = s.jobs.filter fun x => decide (x.id ≠ j.id ∧ x.source ≠ .copyTicket n)) ∧
          (j.state = .taken →
            ((s.printer j.printer).awaited = none → (u.printer j.printer).sent = (s.printer j.printer).sent ++ [.fin]) ∧
            ((s.printer j.printer).awaited ≠ none → (u.printer j.printer).closeOwed = true))) ∧
        (∃ earlier later, s.tells u (earlier ++ .ticket n (some .opened) :: later) ∧
          ∀ e ∈ earlier ++ later, e.kind = .job ∨ e.kind = .printer) ∧
        u.totals = s.totals ∧ u.nextStamp = s.nextStamp ∧ u.clock = s.clock ∧ u.tares = s.tares ∧ u.channels = s.channels ∧
        (u.port k.port).out = (s.port k.port).out ++ [.reply { tag := k.tag, answer := .success [] }])

/-- STORE TARE on a STABLE channel stores a NORMAL reading of at least 20 × d at the end of the table, in place of an entry of its
plate, with the next weighing number, and refuses a MARGIN reading with WEIGHT_RANGE; DROP TARE removes the entry of a plate (R58,
R61, R63). -/
def Obligations.TaresStoredAndDropped : Prop :=
  ∀ (k : Packet) (s : State) (plate : Text), s.takes k → plate ≠ [] → plateOk plate = true →
    (∀ (c : ChannelId) (r : Reading), (s.port k.port).role ∈ permitted 21 → (s.channel c).state = .stable →
      (s.channel c).zeroRequired = false → (s.channel c).slot = none → (s.channel c).window.getLast? = some r →
      (s.tares.length < 64 ∨ ∃ e ∈ s.tares, e.plate = upperCase plate) →
      k.params = textBytes plate ++ numBytes 1 c.val →
      (r.readingClass = .normal → 20 * (s.channel c).config.division ≤ r.weight →
        exec (.storeTare k) s = .next (((({ s.hunt k.port with
          tares := s.tares.filter (fun x => decide (x.plate ≠ upperCase plate)) ++
            [TareEntry.mk (upperCase plate) (Weighing.mk r.weight.toNat false (.scale c) s.nextWeighing s.clock) c] }
          : State)).giveWeighing).replied k
          (.success (numBytes 4 s.nextWeighing ++
            yesNoBytes (s.tares.any fun x => decide (x.plate = upperCase plate)))))) ∧
      (r.readingClass = .margin →
        exec (.storeTare k) s = .next ((s.hunt k.port).replied k (.stop .weightRange 0))) ∧
      (r.readingClass = .normal → r.weight < 20 * (s.channel c).config.division →
        exec (.storeTare k) s = .next ((s.hunt k.port).replied k (.stop .belowMin 0)))) ∧
    ((s.port k.port).role = .supervisor → k.params = textBytes plate →
      exec (.dropTare k) s =
        if ∃ e ∈ s.tares, e.plate = upperCase plate then
          .next (({ s.hunt k.port with
            tares := s.tares.filter (fun x => decide (x.plate ≠ upperCase plate)) } : State).replied k (.success []))
        else .next ((s.hunt k.port).replied k (.stop .notFound 0)))

/-! ### Prices and settlement -/

/-- EDIT RULE writes a rule into its slot of the PENDING bank, a copy of ACTIVE when no edit is open, with the fields of the other kind
held at 0; COMMIT PRICES makes PENDING the ACTIVE bank, advances the generation and raises one PRICES event; DISCARD PRICES drops
PENDING; with no edit open both are refused. An EDIT RULE with a field out of range is refused with RANGE and changes nothing (R69,
R75, R76, R77, R79, R80). The size of a grade pattern is the model's choice (log 25). -/
def Obligations.SchedulesEdited : Prop :=
  (∀ (k : Packet) (s : State), s.takes k → (s.port k.port).role = .supervisor →
    (∀ (i : Fin 32) (enabled accepts : Bool) (pattern m classes price ded hold : Nat) (label : Text) (adj : Int),
      pattern ≤ 999999 → m ≤ 6 → classes ≤ 15 → label.length ≤ 16 → printable label = true →
      ¬(enabled = true ∧ classes = 0) → price ≤ 99999 → ded ≤ 500 → hold ≤ 240 → -2147483648 ≤ adj → adj ≤ 2147483647 →
      k.params = numBytes 1 i.val ++ yesNoBytes enabled ++ numBytes 1 0 ++ numBytes 4 pattern ++ numBytes 2 m
        ++ numBytes 1 classes ++ textBytes label ++ numBytes 4 price ++ yesNoBytes accepts ++ numBytes 2 ded
        ++ numBytes 2 hold ++ intBytes 4 adj →
      exec (.editRule k) s = .next (({ s.hunt k.port with
        edit := some ((s.edit.getD s.active).set i
          (Rule.mk enabled .base pattern m (BitVec.ofNat 4 classes) label price accepts ded hold 0)) } : State).replied k
        (.success []))) ∧
    (∀ (i : Fin 32) (enabled : Bool) (pattern m classes price accepts ded hold : Nat) (label : Text) (adj : Int),
      pattern ≤ 999999 → m ≤ 6 → classes ≤ 15 → label.length ≤ 16 → printable label = true →
      ¬(enabled = true ∧ classes = 0) → price < 256 ^ 4 → accepts < 256 → ded < 65536 → hold < 65536 →
      -9999 ≤ adj → adj ≤ 9999 →
      k.params = numBytes 1 i.val ++ yesNoBytes enabled ++ numBytes 1 1 ++ numBytes 4 pattern ++ numBytes 2 m
        ++ numBytes 1 classes ++ textBytes label ++ numBytes 4 price ++ numBytes 1 accepts ++ numBytes 2 ded
        ++ numBytes 2 hold ++ intBytes 4 adj →
      exec (.editRule k) s = .next (({ s.hunt k.port with
        edit := some ((s.edit.getD s.active).set i
          (Rule.mk enabled .adjust pattern m (BitVec.ofNat 4 classes) label 0 false 0 0 adj)) } : State).replied k
        (.success []))) ∧
    (∀ b, s.edit = some b → k.params = [] →
      let g := if 65535 ≤ s.generation then 0 else s.generation + 1
      exec (.commitPrices k) s = .next ((({ s.hunt k.port with active := b, generation := g, edit := none } : State).raise
        (.prices g)).replied k (.success (numBytes 2 g))) ∧
      exec (.discardPrices k) s = .next (({ s.hunt k.port with edit := none } : State).replied k (.success []))) ∧
    (s.edit = none → k.params = [] →
      exec (.commitPrices k) s = .next ((s.hunt k.port).replied k (.stop .noPending 0)) ∧
      exec (.discardPrices k) s = .next ((s.hunt k.port).replied k (.stop .noPending 0)))) ∧
  ∀ (k : Packet) (s : State) (slot enabled kind pattern m classes price accepts ded hold : Nat) (label : Text) (adj : Int),
    s.takes k → (s.port k.port).role = .supervisor → slot < 256 → enabled < 256 → kind < 256 → pattern < 256 ^ 4 → m < 65536 →
    classes < 256 → label.length < 256 → price < 256 ^ 4 → accepts < 256 → ded < 65536 → hold < 65536 →
    -2147483648 ≤ adj → adj ≤ 2147483647 →
    k.params = numBytes 1 slot ++ numBytes 1 enabled ++ numBytes 1 kind ++ numBytes 4 pattern ++ numBytes 2 m
      ++ numBytes 1 classes ++ textBytes label ++ numBytes 4 price ++ numBytes 1 accepts ++ numBytes 2 ded
      ++ numBytes 2 hold ++ intBytes 4 adj →
    31 < slot ∨ 1 < enabled ∨ 1 < kind ∨ 999999 < pattern ∨ 6 < m ∨ 15 < classes ∨ 16 < label.length ∨ printable label = false ∨
      (kind = 0 ∧ (99999 < price ∨ 1 < accepts ∨ 500 < ded ∨ 240 < hold)) ∨ (kind = 1 ∧ (adj < -9999 ∨ 9999 < adj)) ∨
      (enabled = 1 ∧ classes = 0) →
    exec (.editRule k) s = .next ((s.hunt k.port).replied k (.stop .range 0))

/-- A lookup takes the highest-numbered slot whose enabled BASE rule agrees with the grade on its leading digits and holds the customer
class; it sums the adjustments of every matching ADJUST rule when that rule accepts them, and clamps B + A to 0 to 99,999 with the
clamped flag (R70, R71, R72, R73, R74). -/
def Obligations.LookupPicksTheHighestSlot : Prop :=
  ∀ (b : Bank) (grade : Nat) (cls : CustomerClass),
    let agrees : Fin 32 → Prop := fun i =>
      b[i].enabled = true ∧ grade / 10 ^ (6 - b[i].matchLength) = b[i].pattern / 10 ^ (6 - b[i].matchLength) ∧
        b[i].classes.getLsbD cls.code = true
    (b.lookup grade cls = none ↔ ∀ i : Fin 32, ¬(b[i].kind = .base ∧ agrees i)) ∧
    ∀ l, b.lookup grade cls = some l →
      (b[l.slot].kind = .base ∧ agrees l.slot) ∧ (∀ i : Fin 32, b[i].kind = .base ∧ agrees i → i ≤ l.slot) ∧
      l.base = b[l.slot].price ∧ l.label = b[l.slot].label ∧ l.defaultDeduction = b[l.slot].defaultDeduction ∧
      l.holdHours = b[l.slot].holdHours ∧
      (b[l.slot].acceptsAdjustments = false → l.adjust = 0) ∧
      (b[l.slot].acceptsAdjustments = true → ∀ matching : List (Fin 32), matching.Nodup →
        (∀ i, i ∈ matching ↔ b[i].kind = .adjust ∧ agrees i) → l.adjust = (matching.map fun i => b[i].adjustment).sum) ∧
      (l.effective : Int) = max 0 (min ((l.base : Int) + l.adjust) 99999) ∧
      (l.clamped = true ↔ (l.base : Int) + l.adjust < 0 ∨ 99999 < (l.base : Int) + l.adjust)

/-- CLOSE TICKET refuses by the checks of Table 5-3, each over every line before the next, with the first such line's position; a close
that passes them writes the settled ticket, raises one TICKET event with its new state, and with print-settlement yes makes a
SETTLEMENT receipt owed on the closing port's default printer with the next stamp, and after the last stamp every owed receipt is
renumbered. The reply is NOTED with PRICE_CLAMPED when a line was clamped and with HELD when the ticket entered HELD, and DONE
otherwise; it carries the total, the state, the generation and the release time (R30, R85, R86, R99, R100, R101, R135). The byte
form of the reply's release time (log 11) and the moment of the renumbering (log 10) are the model's. -/
def Obligations.CloseTicketCloses : Prop :=
  ∀ (k : Packet) (s : State) (n : Nat) (t : Ticket) (print : Bool), s.takes k → (s.port k.port).role ∈ permitted 29 →
    1 ≤ n → n ≤ 999999 → s.ticket? n = some t → t.state = .opened → k.params = numBytes 4 n ++ yesNoBytes print →
    let fails : List (Reason × (Line → Bool)) :=
      [(.capturePending, fun ln => ln.mark.isSome), (.incompleteLine, fun ln => ln.gross.isNone || ln.tare.isNone),
        (.invalidNet, fun ln => match ln.gross, ln.tare with
          | some g, some ta => decide (g.weight < ta.weight)
          | _, _ => false),
        (.marginUnaccepted, fun ln => (ln.gross.any Weighing.margin || ln.tare.any Weighing.margin) && !t.marginAccepted),
        (.noPrice, fun ln => (s.active.lookup ln.grade t.customerClass).isNone)]
    (t.lines = [] → exec (.closeTicket k) s = .next ((s.hunt k.port).replied k (.stop .noLines 0))) ∧
    (∀ i reason fail l ln, fails[i]? = some (reason, fail) → (∀ x ∈ fails.take i, ∀ y ∈ t.lines, x.2 y = false) →
      t.lines[l]? = some ln → fail ln = true → (∀ y ∈ t.lines.take l, fail y = false) →
      exec (.closeTicket k) s = .next ((s.hunt k.port).replied k (.stop reason (l + 1)))) ∧
    (t.lines ≠ [] → (∀ x ∈ fails, ∀ y ∈ t.lines, x.2 y = false) → ∃ r : Settlement, (s.settled t).settlement = some r ∧
      let answer : Answer := answerWith
        (notesOf [((s.settled t).lines.any fun ln => ln.pricing.any fun p => p.clamped, .priceClamped),
          (decide ((s.settled t).state = .held), .held)])
        (numBytes 5 r.total ++ numBytes 1 (if (s.settled t).state = .held then 1 else 2) ++ numBytes 2 r.generation ++
          match r.release with
          | none => List.replicate 6 0#8
          | some time => 1#8 :: (numBytes 2 time.day ++ numBytes 3 time.second))
      (print = false → exec (.closeTicket k) s =
        .next (((s.hunt k.port).moveTicket (s.settled t)).replied k answer)) ∧
      (print = true → s.nextStamp < 4294967295 → exec (.closeTicket k) s =
        .next ((({ ((s.hunt k.port).moveTicket (s.settled t)).putTicket
            { s.settled t with owed := some {
                kind := .settlement, printer := (s.port k.port).defaultPrinter, port := k.port, stamp := s.nextStamp,
                started := false } } with nextStamp := s.nextStamp + 1 } : State)).replied k answer)) ∧
      (print = true → 4294967295 ≤ s.nextStamp → ∃ after : State, (((s.hunt k.port).moveTicket (s.settled t)).putTicket
          { s.settled t with owed := some {
              kind := .settlement, printer := (s.port k.port).defaultPrinter, port := k.port, stamp := s.nextStamp,
              started := false } }).renumbered after ∧
        exec (.closeTicket k) s = .next (after.replied k answer)))

/-- The settled ticket of a close that passes its checks: each line priced by its lookup with N = gross − tare, p its deduction or the
rule's default, D = (N × p + 500) div 1000, W = N − D and L from W × E by the rounding mode; T the sum of the L; HELD with a release
time when the largest hold hours exceed 0 and PAYABLE without one when they are 0; everything else of the ticket kept (R89, R90,
R92, R93, R95 to R99). -/
def Obligations.SettledTicketsArePriced : Prop :=
  ∀ (s : State) (t : Ticket), closeCheck s.active t = none →
    let mode : Nat → Nat := fun q => if s.settings.roundingMode = .nearest then (q + 50) / 100 else q / 100
    (∀ (i : Nat) (ln : Line), t.lines[i]? = some ln → ∃ (g ta : Weighing) (l : Lookup),
      ln.gross = some g ∧ ln.tare = some ta ∧ ta.weight ≤ g.weight ∧
      s.active.lookup ln.grade t.customerClass = some l ∧
      let net := g.weight - ta.weight
      let p := ln.deduction.getD l.defaultDeduction
      let d := (net * p + 500) / 1000
      (s.settled t).lines[i]? = some { ln with
        pricing := some (Pricing.mk l.slot l.base l.adjust l.effective l.clamped l.label p net d (net - d)
          (mode ((net - d) * l.effective))
          (LineMarks.mk (decide (g.source = .keyed) || decide (ta.source = .keyed)) (g.margin || ta.margin)
            (decide (ta.source = .stored)) l.clamped)) }) ∧
    (s.settled t).lines.length = t.lines.length ∧
    ∃ r hours, (s.settled t).settlement = some r ∧ r.closed = s.clock ∧ r.generation = s.generation ∧
      r.total = ((s.settled t).lines.map Line.amount).sum ∧
      (∀ ln ∈ t.lines, ∀ l, s.active.lookup ln.grade t.customerClass = some l → l.holdHours ≤ hours) ∧
      (hours = 0 ∨ ∃ ln ∈ t.lines, ∃ l, s.active.lookup ln.grade t.customerClass = some l ∧ l.holdHours = hours) ∧
      (hours = 0 → r.release = none ∧ (s.settled t).state = .payable) ∧
      (0 < hours → (s.settled t).state = .held ∧ r.release = some
        (if 65535 < s.clock.day + (s.clock.second + hours * 3600) / 86400 then { day := 65535, second := 86399 }
          else { day := s.clock.day + (s.clock.second + hours * 3600) / 86400,
                 second := (s.clock.second + hours * 3600) % 86400 })) ∧
      s.settled t = { t with
        lines := (s.settled t).lines, settlement := (s.settled t).settlement, state := (s.settled t).state }

/-- With p at most 500, D is at most (N + 1) div 2 and W lies in N div 2 to N; p of 0 gives W = N, and p of 500 on a net of 1 gives D =
1 and W = 0 (R91). -/
def Obligations.PayableWeightBounds : Prop :=
  ∀ n p : Nat, p ≤ 500 →
    deductionWeight n p ≤ (n * 500 + 500) / 1000 ∧ (n * 500 + 500) / 1000 = (n + 1) / 2 ∧ deductionWeight n p ≤ n ∧
    n / 2 ≤ n - deductionWeight n p ∧ n - deductionWeight n p ≤ n ∧ n - deductionWeight n 0 = n ∧
    deductionWeight 1 500 = 1 ∧ 1 - deductionWeight 1 500 = 0

/-! ### Payout -/

/-- SET CLOCK sets the clock and releases every HELD ticket whose release time is not later than the new time, with their TICKET events
in table order; RELEASE HOLD releases a HELD ticket at once; CLOCK_ADVANCE moves the clock by one second, stops it at its last
value, and releases in the same way while the part takes events; HOLD_EXPIRY releases its ticket when its hold is over and does
nothing otherwise (R107, R108, R110, R111, R112). The timebase at an advance (log 2), the moment of the next advance (log 21), the
tickets released before the one named (log 20) and the size of the number of tickets released (log 25) are the model's. -/
def Obligations.ClockAndHolds : Prop :=
  (∀ (k : Packet) (s : State) (day second : Nat), s.takes k → (s.tickets.map Ticket.number).Nodup → s.tickets.length ≤ 48 →
    (s.port k.port).role = .supervisor → 1 ≤ day → day ≤ 65535 → second ≤ 86399 →
    k.params = numBytes 2 day ++ numBytes 3 second →
    ∃ u, exec (.setClock k) s = .next u ∧ u.clock = { day := day, second := second } ∧
      u.tickets = s.tickets.map (fun t => if t.due { day := day, second := second } then { t with state := .payable } else t) ∧
      (u.port k.port).out = (s.port k.port).out ++ [.reply (Reply.mk k.tag (.success
        (numBytes 1 (s.tickets.filter fun t => t.due { day := day, second := second }).length)))] ∧
      u.timebase = s.timebase ∧ u.clockDue = s.clockDue ∧ u.dayNumber = s.dayNumber ∧ u.tares = s.tares ∧ u.totals = s.totals ∧
      u.channels = s.channels ∧ u.printers = s.printers ∧ u.jobs = s.jobs ∧
      u.ports = ((({ s.hunt k.port with clock := { day := day, second := second } } : State).tellReleased).replied k (.success
        (numBytes 1 (s.tickets.filter fun t => t.due { day := day, second := second }).length))).ports) ∧
  (∀ (k : Packet) (s : State) (n : Nat), s.takes k → (s.port k.port).role = .supervisor → 1 ≤ n → n ≤ 999999 →
    k.params = numBytes 4 n →
    (s.ticket? n = none → exec (.releaseHold k) s = .next ((s.hunt k.port).replied k (.stop .noTicket 0))) ∧
    ∀ t, s.ticket? n = some t →
      (t.state = .held → exec (.releaseHold k) s =
        .next ((((s.hunt k.port).putTicket { t with state := .payable }).raise (.ticket n (some .payable))).replied k
          (.success []))) ∧
      (t.state ≠ .held → exec (.releaseHold k) s = .next ((s.hunt k.port).replied k (.stop .state 0)))) ∧
  (∀ s : State,
    let now : ClockTime := if s.clock.second < 86399 then { s.clock with second := s.clock.second + 1 }
      else if s.clock.day < 65535 then { day := s.clock.day + 1, second := 0 } else s.clock
    let moved : State := { s with
      timebase := max s.timebase s.clockDue, clockDue := s.clockDue + 1000, clock := now }
    (s.running = false → exec .clockAdvance s = .next moved) ∧
    (s.running = true → (s.tickets.map Ticket.number).Nodup → exec .clockAdvance s = .next { moved with
      tickets := s.tickets.map fun t => if t.due now then { t with state := .payable } else t
      ports := moved.tellReleased.ports })) ∧
  (∀ (s : State) (n : Nat) (t : Ticket) (r : Settlement) (time : ClockTime), s.running = true →
    (s.tickets.map Ticket.number).Nodup → s.ticket? n = some t → t.state = .held → t.settlement = some r →
    r.release = some time →
    (time.notLater s.clock = true → ∃ u, exec (.holdExpiry n) s = .next u ∧
      u.ticket? n = some { t with state := .payable } ∧
      (∀ m x, s.ticket? m = some x → x.due s.clock = false → u.ticket? m = some x) ∧ u.clock = s.clock ∧
      u.jobs = s.jobs ∧ u.totals = s.totals) ∧
    (time.notLater s.clock = false → exec (.holdExpiry n) s = .next s)) ∧
  (∀ (s : State) (n : Nat) (t : Ticket), s.ticket? n = some t → t.state ≠ .held → exec (.holdExpiry n) s = .next s)

/-- FLOAT and LIFT with every check in its order: FLOAT adds an amount to a drawer's balance and LIFT takes one from it, paid today
unchanged; a float that would pass the largest balance and a lift above the balance are refused whole (R116, R117). -/
def Obligations.FloatsAndLifts : Prop :=
  ∀ (k : Packet) (s : State) (port amount : Nat), s.takes k → port < 256 → amount < 256 ^ 5 →
    k.params = numBytes 1 port ++ numBytes 5 amount →
    let role := (s.port k.port).role
    let refused : Reason → Host.Outcome State Fault Refusal := fun reason =>
      .next ((s.hunt k.port).replied k (.stop reason 0))
    (role ≠ .supervisor → role ≠ .payout → exec (.float k) s = refused .role) ∧
    (role ≠ .supervisor → exec (.lift k) s = refused .role) ∧
    (role = .supervisor ∨ role = .payout → 4 ≤ port ∨ amount = 0 ∨ 9999999999 < amount →
      exec (.float k) s = refused .range) ∧
    (role = .supervisor → 4 ≤ port ∨ amount = 0 ∨ 9999999999 < amount → exec (.lift k) s = refused .range) ∧
    (∀ p : PortId, port = p.val → 1 ≤ amount → amount ≤ 9999999999 →
      (role = .payout → p ≠ k.port → exec (.float k) s = refused .role) ∧
      (role = .supervisor ∨ (role = .payout ∧ p = k.port) →
        ((s.port p).drawer = none → exec (.float k) s = refused .noDrawer) ∧
        ∀ d, (s.port p).drawer = some d →
          exec (.float k) s =
            if d.balance + amount ≤ 9999999999 then
              .next (((s.hunt k.port).setPort p
                { (s.hunt k.port).port p with drawer := some { d with balance := d.balance + amount } }).replied k
                (.success (numBytes 5 (d.balance + amount))))
            else refused .drawerLimit) ∧
      (role = .supervisor →
        ((s.port p).drawer = none → exec (.lift k) s = refused .noDrawer) ∧
        ∀ d, (s.port p).drawer = some d →
          exec (.lift k) s =
            if amount ≤ d.balance then
              .next (((s.hunt k.port).setPort p
                { (s.hunt k.port).port p with drawer := some { d with balance := d.balance - amount } }).replied k
                (.success (numBytes 5 (d.balance - amount))))
            else refused .drawerShort))

/-- The cash amount is the multiple of the cash unit nearest to T, the lower one when T lies halfway, and the rounding lies in −(u div
2) to (u − 1) div 2 (R121). -/
def Obligations.CashAmountIsNearest : Prop :=
  ∀ u t : Nat, 0 < u →
    u ∣ cashAmount u t ∧ cashRounding u t = (cashAmount u t : Int) - t ∧
    (∀ m : Nat, u ∣ m → |(cashAmount u t : Int) - t| ≤ |(m : Int) - t|) ∧
    (∀ m : Nat, u ∣ m → |(m : Int) - t| = |(cashAmount u t : Int) - t| → cashAmount u t ≤ m) ∧
    -((u / 2 : Nat) : Int) ≤ cashRounding u t ∧ cashRounding u t ≤ (((u - 1) / 2 : Nat) : Int)

/-- PAY makes a PAYABLE ticket PAID with its payout record and an owed PAYOUT receipt of the next stamp in place of any other, feeds the
day totals, and for CASH lowers the drawer by C and raises its paid today; one TICKET event carrying PAID is raised, and no other
ticket and no price changes; after the last stamp every owed receipt is renumbered. The job that served a replaced SETTLEMENT
receipt is converted to the PAYOUT receipt while it is QUEUED or TAKEN, a TAKEN one of another printer returning to QUEUED with its
receipt closed, and runs on unchanged when PRINTING (R30, R120 to R126, R135, R138). The byte form of the reply's balance (log 11),
the moment of the renumbering (log 10) and the list of frames sent (log 17) are the model's. -/
def Obligations.PayPaysTheTicket : Prop :=
  (∀ (k : Packet) (s : State) (n : Nat) (t : Ticket) (r : Settlement), s.takes k → s.nextStamp < 4294967295 →
    (s.port k.port).role ∈ permitted 35 → 1 ≤ n → n ≤ 999999 → s.ticket? n = some t → t.state = .payable →
    t.settlement = some r →
    let owed : Owed :=
      { kind := .payout, printer := (s.port k.port).defaultPrinter, port := k.port, stamp := s.nextStamp, started := false }
    let converted : State → Ticket → Prop := fun u t' =>
      let put : Job → List Job := fun y => s.jobs.map fun x => if x.id = y.id then y else x
      let counted := (List.finRange 4).filter fun i => !blankText s.headers[i]
      let marks := receiptMarks t' s.storeLost false false
      ((∀ o, t.owed = some o → s.servingJob? n o = none) → u.jobs = s.jobs ∧ u.printers = s.printers) ∧
      (∀ o j, t.owed = some o → s.servingJob? n o = some j →
        let y : Job := { j with
          kind := .ticket .payout, source := .owed n s.nextStamp, printer := owed.printer, port := k.port,
          rank := (s.port k.port).role.rank, counted := counted, marks := marks, markLine := [],
          total := counted.length + 4 * t.lines.length + marks.length + 10 }
        (j.state = .queued → u.jobs = put y ∧ u.printers = s.printers) ∧
        (j.state = .taken → j.printer = owed.printer → u.jobs = put y ∧ u.printers = s.printers) ∧
        (j.state = .taken → j.printer ≠ owed.printer → u.jobs = put { y with state := .queued } ∧
          (∀ v, v ≠ j.printer → u.printer v = s.printer v) ∧
          u.printer j.printer =
            if (s.printer j.printer).awaited = none then
              { s.printer j.printer with sent := (s.printer j.printer).sent ++ [.fin], closeOwed := false }
            else { s.printer j.printer with closeOwed := true }) ∧
        (j.state = .printing → u.jobs = s.jobs ∧ u.printers = s.printers))
    (∀ d, let c := cashAmount s.settings.cashUnit r.total
      let rounding := cashRounding s.settings.cashUnit r.total
      (s.port k.port).drawer = some d → r.total ≤ s.settings.cashLimit → c ≤ d.balance →
      k.params = numBytes 4 n ++ numBytes 1 0 →
      ∃ u, exec (.pay k) s = .next u ∧
        (u.port k.port).drawer = some { balance := d.balance - c, paidToday := min (d.paidToday + c) 99999999999 } ∧
        u.ticket? n = some { t with
          state := .paid, owed := some owed,
          payout := some (Payout.mk .cash c rounding k.port s.clock) } ∧
        u.totals = (s.totals.feed t.lines .cash c rounding).orSaturated (decide (99999999999 < d.paidToday + c)) ∧
        (∀ t', u.ticket? n = some t' → converted u t') ∧ s.tells u [.ticket n (some .paid)] ∧
        u.nextStamp = s.nextStamp + 1 ∧ (∀ m, m ≠ n → u.ticket? m = s.ticket? m) ∧ u.active = s.active ∧
        u.channels = s.channels ∧ (∀ q, q ≠ k.port → (u.port q).drawer = (s.port q).drawer) ∧
        (u.port k.port).out = (s.port k.port).out ++ [.reply (Reply.mk k.tag (answerWith
          (notesOf [(decide (rounding ≠ 0), .cashRounded),
            (s.paySaturates t .cash c rounding (decide (99999999999 < d.paidToday + c)), .totalsSaturated)])
          (numBytes 1 0 ++ numBytes 5 c ++ intBytes 5 rounding ++ (1#8 :: numBytes 5 (d.balance - c)))))]) ∧
    (k.params = numBytes 4 n ++ numBytes 1 1 →
      ∃ u, exec (.pay k) s = .next u ∧
        u.ticket? n = some { t with
          state := .paid, owed := some owed,
          payout := some (Payout.mk .voucher r.total 0 k.port s.clock) } ∧
        u.totals = s.totals.feed t.lines .voucher r.total 0 ∧
        (∀ t', u.ticket? n = some t' → converted u t') ∧ s.tells u [.ticket n (some .paid)] ∧
        u.nextStamp = s.nextStamp + 1 ∧ (∀ m, m ≠ n → u.ticket? m = s.ticket? m) ∧ u.active = s.active ∧
        u.channels = s.channels ∧ (∀ q, (u.port q).drawer = (s.port q).drawer) ∧
        (u.port k.port).out = (s.port k.port).out ++ [.reply (Reply.mk k.tag (answerWith
          (notesOf [(s.paySaturates t .voucher r.total 0 false, .totalsSaturated)])
          (numBytes 1 1 ++ numBytes 5 r.total ++ intBytes 5 0 ++ List.replicate 6 0#8)))])) ∧
  ∀ (k : Packet) (s : State) (n method : Nat) (t : Ticket) (r : Settlement), s.takes k → 4294967295 ≤ s.nextStamp →
    (s.port k.port).role ∈ permitted 35 → 1 ≤ n → n ≤ 999999 → s.ticket? n = some t → t.state = .payable →
    t.settlement = some r → k.params = numBytes 4 n ++ numBytes 1 method →
    method = 1 ∨ (method = 0 ∧ ∃ d, (s.port k.port).drawer = some d ∧ r.total ≤ s.settings.cashLimit ∧
      cashAmount s.settings.cashUnit r.total ≤ d.balance) →
    ∃ (before after : State) (answer : Answer) (payout : Payout), exec (.pay k) s = .next (after.replied k answer) ∧
      before.ticket? n = some { t with
        state := .paid, payout := some payout,
        owed := some (Owed.mk .payout (s.port k.port).defaultPrinter k.port s.nextStamp false) } ∧
      (∀ m, m ≠ n → before.ticket? m = s.ticket? m) ∧ before.report = s.report ∧ before.renumbered after

/-- A payment's refusals in the order of R120 and R121: ROLE, RANGE for a ticket number or a method byte outside its range, NO_TICKET,
ON_HOLD, STATE, and for CASH NO_DRAWER, CASH_LIMIT and DRAWER_SHORT; a refused payment changes nothing. -/
def Obligations.PayRefusals : Prop :=
  (∀ (k : Packet) (s : State) (n method : Nat), s.takes k → n < 256 ^ 4 → method < 256 →
    k.params = numBytes 4 n ++ numBytes 1 method →
    ((s.port k.port).role ∉ permitted 35 → exec (.pay k) s = .next ((s.hunt k.port).replied k (.stop .role 0))) ∧
    ((s.port k.port).role ∈ permitted 35 → n = 0 ∨ 999999 < n ∨ 1 < method →
      exec (.pay k) s = .next ((s.hunt k.port).replied k (.stop .range 0)))) ∧
  ∀ (k : Packet) (s : State) (n method : Nat), s.takes k → (s.port k.port).role ∈ permitted 35 → 1 ≤ n → n ≤ 999999 → method ≤ 1 →
    k.params = numBytes 4 n ++ numBytes 1 method →
    (s.ticket? n = none → exec (.pay k) s = .next ((s.hunt k.port).replied k (.stop .noTicket 0))) ∧
    ∀ t, s.ticket? n = some t →
      (t.state = .held → exec (.pay k) s = .next ((s.hunt k.port).replied k (.stop .onHold 0))) ∧
      (t.state ≠ .held → t.state ≠ .payable → exec (.pay k) s = .next ((s.hunt k.port).replied k (.stop .state 0))) ∧
      (t.state = .payable → method = 0 → (s.port k.port).drawer = none →
        exec (.pay k) s = .next ((s.hunt k.port).replied k (.stop .noDrawer 0))) ∧
      (∀ d r, t.state = .payable → method = 0 → (s.port k.port).drawer = some d → t.settlement = some r →
        (s.settings.cashLimit < r.total → exec (.pay k) s = .next ((s.hunt k.port).replied k (.stop .cashLimit 0))) ∧
        (r.total ≤ s.settings.cashLimit → d.balance < cashAmount s.settings.cashUnit r.total →
          exec (.pay k) s = .next ((s.hunt k.port).replied k (.stop .drawerShort 0))))

/-- A payment's lines, amount, rounding and count are added to the day totals, each held at its limit, and the saturated flag is set
when an addition would pass a limit and never cleared (R162, R163). -/
def Obligations.PaymentsFeedTheTotals : Prop :=
  ∀ (x : Totals),
    (∀ (p : Pricing) (i : Fin 32), (x.addLine p).slots[i] =
      if i = p.slot then
        { weight := min (x.slots[i].weight + p.payable) 99999999999, amount := min (x.slots[i].amount + p.amount) 99999999999 }
      else x.slots[i]) ∧
    (∀ p : Pricing, (x.addLine p).saturated =
      (x.saturated || decide (99999999999 < x.slots[p.slot].weight + p.payable)
        || decide (99999999999 < x.slots[p.slot].amount + p.amount))) ∧
    (∀ (lines : List Line) (method : PayMethod) (amount : Nat) (rounding : Int),
      (x.feed lines method amount rounding).cash = (if method = .cash then min (x.cash + amount) 99999999999 else x.cash) ∧
      (x.feed lines method amount rounding).voucher =
        (if method = .voucher then min (x.voucher + amount) 99999999999 else x.voucher) ∧
      (x.feed lines method amount rounding).rounding = max (-9999999999) (min (x.rounding + rounding) 9999999999) ∧
      (x.feed lines method amount rounding).paidCount = min (x.paidCount + 1) 999999 ∧
      (x.feed lines method amount rounding).voidCount = x.voidCount ∧
      (x.feed lines method amount rounding).slots = (x.addLines lines).slots ∧
      (x.saturated = true → (x.feed lines method amount rounding).saturated = true) ∧
      ((x.feed lines method amount rounding).saturated = true ↔
        (x.addLines lines).saturated = true ∨ (method = .cash ∧ 99999999999 < x.cash + amount) ∨
          (method = .voucher ∧ 99999999999 < x.voucher + amount) ∨ x.rounding + rounding < -9999999999 ∨
          9999999999 < x.rounding + rounding ∨ 999999 < x.paidCount + 1)) ∧
    x.addLines [] = x ∧
    (∀ (ln : Line) (lines : List Line), x.addLines (ln :: lines) =
      match ln.pricing with
      | none => x.addLines lines
      | some p => (x.addLine p).addLines lines)

/-! ### Printing -/

/-- LOCK PRINTER by the state of the printer and its lock, and UNLOCK PRINTER, each with its reply and its PRINTER event (R151, R152).
The list of frames sent is the model's own record (log 17). -/
def Obligations.LocksTakenAndCleared : Prop :=
  ∀ (k : Packet) (s : State) (r : PrinterId), s.takes k → (s.port k.port).role = .supervisor → k.params = numBytes 1 r.val →
    (∀ p, (s.printer r).lock = .locked p → exec (.lockPrinter k) s = .next ((s.hunt k.port).replied k (.success []))) ∧
    (∀ p, (s.printer r).lock = .pending p →
      exec (.lockPrinter k) s = .next ((s.hunt k.port).replied k (.noted [.lockPending] []))) ∧
    ((s.printer r).lock = .none → (∀ j, s.activeJob? r = some j → j.port = k.port) →
      exec (.lockPrinter k) s = .next ((((s.hunt k.port).setPrinter r { s.printer r with lock := .locked k.port }).raise
        (.printer r (s.printer r).status (.locked k.port))).replied k (.success []))) ∧
    (∀ j, (s.printer r).lock = .none → s.activeJob? r = some j → j.port ≠ k.port → j.state = .printing →
      exec (.lockPrinter k) s = .next ((((s.hunt k.port).setPrinter r { s.printer r with lock := .pending k.port }).raise
        (.printer r (s.printer r).status (.pending k.port))).replied k (.noted [.lockPending] []))) ∧
    (∀ j, (s.printer r).lock = .none → s.activeJob? r = some j → j.port ≠ k.port → j.state = .taken →
      ∃ u, exec (.lockPrinter k) s = .next u ∧ (u.printer r).lock = .locked k.port ∧
        u.jobs = s.jobs.map (fun x => if x.id = j.id then { j with state := .queued, printed := 0 } else x) ∧
        ((s.printer r).awaited = none → (u.printer r).sent = (s.printer r).sent ++ [.fin] ∧ (u.printer r).closeOwed = false) ∧
        ((s.printer r).awaited ≠ none → (u.printer r).sent = (s.printer r).sent ∧ (u.printer r).closeOwed = true) ∧
        u.tickets = s.tickets ∧
        u.ports = (((s.hunt k.port).raise (.printer r (s.printer r).status (.locked k.port))).replied k (.success [])).ports ∧
        (u.port k.port).out = (s.port k.port).out ++ [.reply { tag := k.tag, answer := .success [] }]) ∧
    ((s.printer r).lock ≠ .none → exec (.unlockPrinter k) s =
      .next ((((s.hunt k.port).setPrinter r { s.printer r with lock := .none }).raise
        (.printer r (s.printer r).status .none)).replied k (.success []))) ∧
    ((s.printer r).lock = .none → exec (.unlockPrinter k) s = .next ((s.hunt k.port).replied k (.stop .notLocked 0)))

/-- PRINT COPY makes a COPY job of a settled ticket, or of the newest snapshot of its number, with the pool's next free id and next age,
and is refused with NOT_FOUND or POOL_FULL; CANCEL JOB takes a QUEUED or TAKEN COPY job out of the pool with one JOB event, closing
the receipt that a TAKEN one began, and refuses as R154 lists (R133, R149, R154, R155). The list of frames sent is the model's own
record (log 17). -/
def Obligations.CopiesMadeAndCancelled : Prop :=
  ∀ (k : Packet) (s : State), s.takes k → (s.port k.port).role ∈ permitted 39 →
    (∀ (n : Nat) (r : PrinterId), 1 ≤ n → n ≤ 999999 → k.params = numBytes 4 n ++ numBytes 1 r.val →
      ((∀ t, s.ticket? n = some t → t.state = .opened) → (∀ x ∈ s.snapshots, x.number ≠ n) →
        exec (.printCopy k) s = .next ((s.hunt k.port).replied k (.stop .notFound 0))) ∧
      let sourced : JobSource → Ticket → Prop := fun source t =>
        (source = .copyTicket n ∧ s.ticket? n = some t) ∨
        ((∀ x, s.ticket? n = some x → x.state = .opened) ∧ t.number = n ∧ ∃ i, source = .copySnapshot i ∧
          s.snapshots[i]? = some t ∧ ∀ i' x, i < i' → s.snapshots[i']? = some x → x.number ≠ n)
      (∀ source t kind, sourced source t → t.copyKind? = some kind → 12 ≤ s.jobs.length →
        exec (.printCopy k) s = .next ((s.hunt k.port).replied k (.stop .poolFull 0))) ∧
      (∀ source t kind, sourced source t → t.copyKind? = some kind → s.jobs.length < 12 →
        ∃ (u : State) (j : Job), exec (.printCopy k) s = .next u ∧ u.jobs = s.jobs ++ [j] ∧ j.kind = .copy kind ∧ j.printer = r ∧
          j.source = source ∧ j.port = k.port ∧ j.rank = (s.port k.port).role.rank ∧ j.age = s.nextAge ∧
          j.state = .queued ∧ j.printed = 0 ∧ j.marks = receiptMarks t s.storeLost false true ∧
          j.total = receiptLength kind s.countedHeaders.length t.lines.length j.marks.length ∧
          j.id = s.newJobId ∧ u.nextJob = (if 255 ≤ j.id then 1 else j.id + 1) ∧
          (1 ≤ s.nextJob → s.nextJob ≤ 255 → (∀ x ∈ s.jobs, x.id ≠ j.id) ∧
            passesOver (fun m => if 255 ≤ m then 1 else m + 1) (fun m => ∃ x ∈ s.jobs, x.id = m) s.nextJob j.id) ∧
          u.nextAge = s.nextAge + 1 ∧ u.tickets = s.tickets ∧ u.printers = s.printers ∧ u.totals = s.totals ∧
          (u.port k.port).out = (s.port k.port).out ++ [.reply (Reply.mk k.tag (.success
            (numBytes 1 j.id ++ numBytes 1 j.total)))])) ∧
    (∀ j : Job, j ∈ s.jobs → (s.jobs.map Job.id).Nodup → 1 ≤ j.id → j.id ≤ 255 → k.params = numBytes 1 j.id →
      ((j.port ≠ k.port ∧ (s.port k.port).role ≠ .supervisor) →
        exec (.cancelJob k) s = .next ((s.hunt k.port).replied k (.stop .role 0))) ∧
      (j.port = k.port ∨ (s.port k.port).role = .supervisor →
        (j.kind.copied? = none → exec (.cancelJob k) s = .next ((s.hunt k.port).replied k (.stop .owedJob 0))) ∧
        (j.kind.copied? ≠ none → j.state = .printing →
          exec (.cancelJob k) s = .next ((s.hunt k.port).replied k (.stop .jobStarted 0))) ∧
        (j.kind.copied? ≠ none →
          ((∀ p, (s.printer j.printer).lock ≠ .pending p) ∨ ∃ x ∈ s.jobs, x.printer = j.printer ∧ x.state = .printing) →
          let gone := ({ s.hunt k.port with jobs := s.jobs.filter fun x => decide (x.id ≠ j.id) } : State).raise
            (.job j.id .cancelled (j.total - j.printed))
          let line := s.printer j.printer
          (j.state = .queued → exec (.cancelJob k) s = .next (gone.replied k (.success []))) ∧
          (j.state = .taken → exec (.cancelJob k) s = .next ((gone.setPrinter j.printer
            (if line.awaited = none then { line with sent := line.sent ++ [.fin], closeOwed := false }
              else { line with closeOwed := true })).replied k (.success [])))))) ∧
    (∀ id, 1 ≤ id → id ≤ 255 → (∀ j ∈ s.jobs, j.id ≠ id) → k.params = numBytes 1 id →
      exec (.cancelJob k) s = .next ((s.hunt k.port).replied k (.stop .noJob 0)))

/-- A status frame restarts the timer and sets the status, with one PRINTER event when the status changes; a fault returns a TAKEN job
to QUEUED and aborts a PRINTING one with its owed receipt kept; the expiry of either timer makes the printer OFFLINE in the same way
(R130, R131, R132, R147, R148, R149, R152). The order of the events of one fault (log 9), the timebase at an expiry (log 2) and the
list of frames sent (log 17) are the model's. -/
def Obligations.PrinterStatusFollowed : Prop :=
  ∀ (r : PrinterId) (s : State), s.running = true →
    (∀ v, exec (.printerStatusFrame r v false) s = .next s) ∧
    (∀ v, ∃ u, exec (.printerStatusFrame r v true) s = .next u ∧ (u.printer r).status = PrinterStatus.ofReport v ∧
      (u.printer r).statusTimer = some (s.timebase + 5000) ∧
      (s.setPrinter r { s.printer r with statusTimer := some (s.timebase + 5000) }).statusBecomes r (PrinterStatus.ofReport v) u) ∧
    (∀ w, (s.printer r).awaited = some w → ∃ u, exec (.answerTimerExpiry r) s = .next u ∧
      (u.printer r).status = .offline ∧ (u.printer r).statusTimer = (s.printer r).statusTimer ∧
      u.timebase = max s.timebase w.expiry ∧ (u.printer r).awaited = none ∧
      (({ s with timebase := max s.timebase w.expiry } : State).setPrinter r { s.printer r with
        awaited := none, closeOwed := false,
        sent := (s.printer r).sent ++ (if (s.printer r).closeOwed then [.fin] else []) }).statusBecomes r .offline u) ∧
    (∀ time, (s.printer r).statusTimer = some time → ∃ u, exec (.statusTimerExpiry r) s = .next u ∧
      (u.printer r).status = .offline ∧ (u.printer r).statusTimer = none ∧ u.timebase = max s.timebase time ∧
      (({ s with timebase := max s.timebase time } : State).setPrinter r
        { s.printer r with statusTimer := none }).statusBecomes r .offline u) ∧
    ((s.printer r).awaited = none → exec (.answerTimerExpiry r) s = .next s) ∧
    ((s.printer r).statusTimer = none → exec (.statusTimerExpiry r) s = .next s)

/-- ACCEPTED to the BEGIN of a TAKEN job makes it PRINTING, sets the started flag of the receipt it serves, a ticket's or the day
report's, and sends its first line; ACCEPTED to a line counts it and sends the next; ACCEPTED to the last line sends the END and
takes the job out of the pool with a JOB event DONE, acts on its source by the four steps of R146 and makes a PENDING lock LOCKED;
an ACCEPTED that meets a close owed counts nothing and sends the END; one that nothing awaits changes nothing. A status value in an
answer is a status report; READY or PAPER_LOW to a LINE sends the same LINE again, and to a BEGIN does what ACCEPTED does (R130,
R143 to R147, R149, R152, R170, and R135 after the last stamp). The order of the events of one job's end (log 9), the moment of the
renumbering (log 10), the content sent again (log 15), what is left of a printed day report's owed mark (log 27) and the list of
frames sent (log 17) are the model's. -/
def Obligations.AnswersMoveTheJob : Prop :=
  ∀ (r : PrinterId) (s : State), s.running = true →
    (∀ a, exec (.printerAnswer r a false) s = .next s) ∧
    ((s.printer r).awaited = none → exec (.printerAnswer r .accepted true) s = .next s) ∧
    (∀ w, (s.printer r).awaited = some w → (s.printer r).closeOwed = true →
      exec (.printerAnswer r .accepted true) s = .next (s.setPrinter r
        { s.printer r with awaited := none, closeOwed := false, sent := (s.printer r).sent ++ [.fin] })) ∧
    (∀ w j, (s.printer r).awaited = some w → (s.printer r).closeOwed = false → s.activeJob? r = some j → j.state = .taken →
      ∃ u content, exec (.printerAnswer r .accepted true) s = .next u ∧
        u.jobs = s.jobs.map (fun x => if x.id = j.id then { j with state := .printing } else x) ∧
        u.printer r = { s.printer r with
          sent := (s.printer r).sent ++ [.line content],
          awaited := some { frame := .line content, job := j.id, expiry := s.timebase + 2000 } } ∧
        content = s.nextLine j ∧
        (∀ n stamp t o, j.source = .owed n stamp → s.ticket? n = some t → t.owed = some o → o.stamp = stamp →
          u.ticket? n = some { t with owed := some { o with started := true } }) ∧
        (∀ n stamp, j.source = .owed n stamp → (∀ m, m ≠ n → u.ticket? m = s.ticket? m) ∧ u.report = s.report) ∧
        (∀ stamp rep o, j.source = .report stamp → s.report = some rep → rep.owed = some o → o.stamp = stamp →
          u.report = some { rep with owed := some { o with started := true } }) ∧
        (∀ stamp, j.source = .report stamp → u.tickets = s.tickets) ∧
        ((∀ n stamp, j.source ≠ .owed n stamp) → (∀ stamp, j.source ≠ .report stamp) →
          u.tickets = s.tickets ∧ u.report = s.report) ∧
        u.snapshots = s.snapshots ∧ u.ports = s.ports) ∧
    (∀ w j, (s.printer r).awaited = some w → (s.printer r).closeOwed = false → s.activeJob? r = some j → j.state = .printing →
      j.printed + 1 < j.total →
      exec (.printerAnswer r .accepted true) s = .next (({ s with
          jobs := s.jobs.map fun x => if x.id = j.id then { j with printed := j.printed + 1 } else x } : State).setPrinter r
        { s.printer r with
          sent := (s.printer r).sent ++ [.line (s.nextLine { j with printed := j.printed + 1 })],
          awaited := some (Awaited.mk (.line (s.nextLine { j with printed := j.printed + 1 })) j.id (s.timebase + 2000)) })) ∧
    (∀ w j, (s.printer r).awaited = some w → (s.printer r).closeOwed = false → s.activeJob? r = some j → j.state = .printing →
      j.total ≤ j.printed + 1 → s.poolStands →
      let told := s.raise (.job j.id .printed 0)
      let settled : State → Vector Port 4 := fun x =>
        (match (s.printer r).lock with
          | .pending p => x.raise (.printer r (s.printer r).status (.locked p))
          | .locked _ => x
          | .none => x).ports
      ∃ u, exec (.printerAnswer r .accepted true) s = .next u ∧ (∀ x ∈ u.jobs, x.id ≠ j.id) ∧
        (u.printer r).awaited = none ∧ (u.printer r).closeOwed = false ∧
        (u.printer r).sent = (s.printer r).sent ++ [.fin] ∧
        (∀ t o n stamp kind, j.source = .owed n stamp → j.kind = .ticket kind → s.ticket? n = some t → t.owed = some o →
          o.stamp = stamp → o.kind = kind → t.state = .held ∨ t.state = .payable →
          u.ticket? n = some { t with owed := none, settlementPrinted := t.settlementPrinted || decide (kind = .settlement) }) ∧
        (∀ stamp rep o, j.source = .report stamp → j.kind = .dayReport → s.report = some rep → rep.owed = some o →
          o.stamp = stamp → u.report = some { rep with owed := none }) ∧
        (∀ n, j.source = .copyTicket n → u.tickets = s.tickets ∧ u.report = s.report) ∧
        ((∀ n stamp, j.source ≠ .owed n stamp) → u.tickets = s.tickets ∧ u.snapshots = s.snapshots ∧ u.ports = settled told) ∧
        (∀ p, (s.printer r).lock = .pending p → (u.printer r).lock = .locked p) ∧
        (∀ n stamp kind t, j.source = .owed n stamp → j.kind = .ticket kind → s.ticket? n = some t →
          let t' : Ticket := { t with
            settlementPrinted := t.settlementPrinted || decide (kind = .settlement)
            owed := t.owed.filter fun o => !decide (o.kind = kind ∧ o.stamp = stamp) }
          (s.nextStamp < 4294967295 → (∀ m, m ≠ n → u.ticket? m = s.ticket? m) ∧ u.report = s.report) ∧
          ((t.state ≠ .paid ∧ t.state ≠ .voided) ∨ t'.owed ≠ none →
            u.ticket? n = some t' ∧ u.nextStamp = s.nextStamp ∧ u.snapshots = s.snapshots ∧ u.ports = settled told) ∧
          (∀ p, t.state = .voided → kind = .settlement → t'.owed = none → t.voidPort = some p → s.nextStamp < 4294967295 →
            u.ticket? n = some { t' with owed := some (Owed.mk .voidNotice (s.port p).defaultPrinter p s.nextStamp false) } ∧
            u.nextStamp = s.nextStamp + 1 ∧ u.snapshots = s.snapshots ∧ u.ports = settled told) ∧
          (∀ p, t.state = .voided → kind = .settlement → t'.owed = none → t.voidPort = some p → 4294967295 ≤ s.nextStamp →
            ∃ before : State, before.ticket? n
                = some { t' with owed := some (Owed.mk .voidNotice (s.port p).defaultPrinter p s.nextStamp false) } ∧
              (∀ m, m ≠ n → before.ticket? m = s.ticket? m) ∧ before.report = s.report ∧
              before.renumbered { u with ports := before.ports, printers := before.printers }) ∧
          (t.state = .paid ∨ (t.state = .voided ∧ kind ≠ .settlement) → t'.owed = none →
            u.ticket? n = none ∧
            (s.snapshots.length ≤ 8 → u.snapshots = (s.snapshots ++ [t']).drop (s.snapshots.length - 7)) ∧
            (s.snapshots.length < 8 → u.ports = settled (told.raise (.ticket n none)))))) ∧
    (∀ v, (s.printer r).awaited = none → exec (.printerAnswer r (.report v) true) s = exec (.printerStatusFrame r v true) s) ∧
    (∀ v w, (s.printer r).awaited = some w → (s.printer r).closeOwed = true →
      exec (.printerAnswer r (.report v) true) s = exec (.printerStatusFrame r v true) (s.setPrinter r
        { s.printer r with awaited := none, closeOwed := false, sent := (s.printer r).sent ++ [.fin] })) ∧
    (∀ v w, (s.printer r).awaited = some w → (s.printer r).closeOwed = false →
      let cleared := s.setPrinter r { s.printer r with awaited := none }
      ((PrinterStatus.ofReport v).usable = false →
        exec (.printerAnswer r (.report v) true) s = exec (.printerStatusFrame r v true) cleared) ∧
      (∀ j after, (PrinterStatus.ofReport v).usable = true → s.activeJob? r = some j → j.state = .taken →
        exec (.printerStatusFrame r v true) s = .next after →
        exec (.printerAnswer r (.report v) true) s = exec (.printerAnswer r .accepted true) after) ∧
      (∀ j after, (PrinterStatus.ofReport v).usable = true → s.activeJob? r = some j → j.state = .printing →
        exec (.printerStatusFrame r v true) cleared = .next after →
        exec (.printerAnswer r (.report v) true) s = .next (after.setPrinter r { after.printer r with
          sent := (after.printer r).sent ++ [w.frame], awaited := some (Awaited.mk w.frame j.id (s.timebase + 2000)) })))

/-- The arbiter of a usable, free printer takes the QUEUED job of highest rank, the oldest among equals, with the lock NONE; the oldest
of the holding port with the lock LOCKED; and none otherwise. The job becomes TAKEN and its BEGIN is sent; nothing else changes
(R141, R142). The list of frames sent is the model's own record (log 17). -/
def Obligations.ArbiterTakesTheRightJob : Prop :=
  ∀ (r : PrinterId) (s : State), s.running = true →
    (∀ j, (s.printer r).status.usable = true → s.printerFree r = true → j ∈ s.jobs → j.printer = r → j.state = .queued →
      ((s.printer r).lock = .none ∧ (∀ x ∈ s.jobs, x.printer = r → x.state = .queued → x ≠ j →
          x.rank < j.rank ∨ (x.rank = j.rank ∧ j.age < x.age))) ∨
        ((s.printer r).lock = .locked j.port ∧ (∀ x ∈ s.jobs, x.printer = r → x.state = .queued → x.port = j.port → x ≠ j →
          j.age < x.age)) →
      exec (.arbiterTake r) s = .next (({ s with
          jobs := s.jobs.map fun x => if x.id = j.id then { j with state := .taken } else x } : State).setPrinter r
        { s.printer r with
          sent := (s.printer r).sent ++ [.begin],
          awaited := some (Awaited.mk .begin j.id (s.timebase + 2000)) })) ∧
    ((s.printer r).status.usable = false ∨ s.printerFree r = false ∨ (∃ p, (s.printer r).lock = .pending p) ∨
        (∃ p, (s.printer r).lock = .locked p ∧ ∀ x ∈ s.jobs, x.printer = r → x.state = .queued → x.port ≠ p) ∨
        (∀ x ∈ s.jobs, x.printer = r → x.state ≠ .queued) →
      exec (.arbiterTake r) s = .next s)

/-- One run of the owed-receipt service changes the pool and its counters alone: it takes the owed receipts oldest first and adds QUEUED
jobs with nothing printed, made as R137 gives, never beyond 12; a receipt that gets a job leaves no older one that is neither served
nor blocked, and when room is left every owed receipt is served or blocked (R135, R136, R137). -/
def Obligations.ServiceServesOwedReceipts : Prop :=
  ∀ s : State, s.running = true →
    ∃ u added, exec .owedReceiptService s = .next u ∧
      u = { s with jobs := s.jobs ++ added, nextJob := u.nextJob, nextAge := s.nextAge + added.length } ∧
      (∀ j ∈ added, ∃ x ∈ s.owedItems, s.madeFor j x) ∧
      (∃ items : List OwedItem, added.map Job.source = items.map OwedItem.source ∧ (∀ x ∈ items, x ∈ s.owedItems) ∧
        items.Pairwise (fun x y => x.stamp ≤ y.stamp) ∧
        ∀ y ∈ items, ∀ x ∈ s.owedItems, x.stamp < y.stamp → u.served x = true ∨ u.blocked x = true) ∧
      added.map Job.age = List.range' s.nextAge added.length ∧
      (12 ≤ s.jobs.length → added = []) ∧ (s.jobs.length ≤ 12 → u.jobs.length ≤ 12) ∧
      (u.jobs.length < 12 → ∀ x ∈ s.owedItems, u.served x = true ∨ u.blocked x = true) ∧
      (∀ t o, t ∈ s.tickets → t.owed = some o → s.owedItems = [.ofTicket t o] → s.jobs = [] →
        ∃ j, added = [j] ∧ j.kind = .ticket o.kind ∧ j.printer = o.printer ∧ j.source = .owed t.number o.stamp ∧
          j.port = o.port ∧ j.rank = (s.port o.port).role.rank ∧ j.id = s.nextJob ∧ j.age = s.nextAge ∧
          j.marks = receiptMarks t s.storeLost o.started false ∧
          j.total = receiptLength o.kind s.countedHeaders.length t.lines.length j.marks.length)

/-- A job prints as many lines as its total: the receipt formed from a job's source has the length of Table 7-4 (R134). -/
def Obligations.ReceiptsHaveTheirLength : Prop :=
  (∀ (s : State) (t : Ticket) (kind : JobKind) (receipt : TicketReceipt) (r : PrinterId) (source : JobSource) (p : PortId)
      (reprint copy : Bool),
    (kind = .ticket receipt ∨ kind = .copy receipt) →
    s.jobTicket? (s.ticketJob t kind receipt r source p reprint copy) = some t →
    (s.jobLines (s.ticketJob t kind receipt r source p reprint copy)).length =
        (s.ticketJob t kind receipt r source p reprint copy).total ∧
      (s.ticketJob t kind receipt r source p reprint copy).total =
        (s.countedHeaders.length + (receiptMarks t s.storeLost reprint copy).length +
          match receipt with
          | .settlement => 4 * t.lines.length + 8
          | .payout => 4 * t.lines.length + 10
          | .voidNotice => 8)) ∧
  (∀ (s : State) (rep : DayReport) (o : ReportOwed), s.report = some rep →
    (s.jobLines (s.reportJob rep o)).length = (s.reportJob rep o).total ∧
      (s.reportJob rep o).total = s.countedHeaders.length + rep.totals.usedSlots.length + 12)

/-! ### Day totals and attention -/

/-- END DAY writes the day report record with every figure, label and the time, makes it owed on the printer named with the next stamp,
sets the totals and every paid today to 0 with the balances kept, and advances the day number; it is refused while a report is owed,
and after the last stamp every owed receipt is renumbered (R135, R167, R168, R169, R171). The size of a day number (log 11), and the
moment of the renumbering with the stamp in the reply (log 10), are the model's. -/
def Obligations.EndDayClosesTheDay : Prop :=
  ∀ (k : Packet) (s : State) (r : PrinterId), s.takes k → (s.port k.port).role = .supervisor → k.params = numBytes 1 r.val →
    (∀ rep o, s.report = some rep → rep.owed = some o →
      exec (.endDay k) s = .next ((s.hunt k.port).replied k (.stop .reportOwed 0))) ∧
    ((∀ rep, s.report = some rep → rep.owed = none) → s.nextStamp < 4294967295 →
      ∃ u rep, exec (.endDay k) s = .next u ∧ u.report = some rep ∧ rep.day = s.dayNumber ∧ rep.totals = s.totals ∧
        (∀ i : Fin 32, rep.labels[i] = s.active[i].label) ∧ rep.time = s.clock ∧
        rep.owed = some { printer := r, port := k.port, stamp := s.nextStamp, started := false } ∧
        (∀ i : Fin 32, u.totals.slots[i] = { weight := 0, amount := 0 }) ∧ u.totals.paidCount = 0 ∧ u.totals.voidCount = 0 ∧
        u.totals.cash = 0 ∧ u.totals.voucher = 0 ∧ u.totals.rounding = 0 ∧ u.totals.saturated = false ∧
        (∀ p, (u.port p).drawer = (s.port p).drawer.map fun d => { d with paidToday := 0 }) ∧
        u.dayNumber = (if 9999 ≤ s.dayNumber then 1 else s.dayNumber + 1) ∧ u.nextStamp = s.nextStamp + 1 ∧
        u.tickets = s.tickets ∧ u.jobs = s.jobs ∧ u.clock = s.clock ∧ u.nextTicket = s.nextTicket ∧
        u.nextWeighing = s.nextWeighing ∧ (∀ p, (u.port p).attention = (s.port p).attention) ∧
        (u.port k.port).out = (s.port k.port).out ++ [.reply (Reply.mk k.tag (.success
          (numBytes 2 s.dayNumber ++ numBytes 2 u.dayNumber ++ numBytes 4 s.nextStamp)))]) ∧
    ((∀ rep, s.report = some rep → rep.owed = none) → 4294967295 ≤ s.nextStamp →
      ∃ (before after : State) (rep : DayReport) (o : ReportOwed), exec (.endDay k) s = .next (after.replied k (.success
          (numBytes 2 s.dayNumber ++ numBytes 2 after.dayNumber ++ numBytes 4 o.stamp))) ∧
        before.report = some { rep with owed := some { printer := r, port := k.port, stamp := s.nextStamp, started := false } } ∧
        rep.day = s.dayNumber ∧ rep.totals = s.totals ∧ (∀ i : Fin 32, rep.labels[i] = s.active[i].label) ∧
        rep.time = s.clock ∧ before.totals = Totals.zero ∧
        (∀ p, (before.port p).drawer = (s.port p).drawer.map fun d => { d with paidToday := 0 }) ∧
        before.dayNumber = (if 9999 ≤ s.dayNumber then 1 else s.dayNumber + 1) ∧
        after.report = some { rep with owed := some o } ∧ before.tickets = s.tickets ∧ before.renumbered after)

/-- SUBSCRIBE replaces the port's subscription set, RELEASE ATTENTION sets its release, READ ATTENTION removes and returns up to four of
its oldest entries, and CLEAR OVERFLOW clears its overflow flag; each changes that one item of the port (R189, R192, R193, R194). -/
def Obligations.AttentionCommands : Prop :=
  ∀ (k : Packet) (s : State), s.takes k →
    (∀ set, set ≤ 31 → k.params = numBytes 1 set →
      exec (.subscribe k) s = .next (((s.hunt k.port).setPort k.port
        { (s.hunt k.port).port k.port with subscription := BitVec.ofNat 5 set }).replied k (.success (numBytes 1 set)))) ∧
    (∀ set, 32 ≤ set → set ≤ 255 → k.params = numBytes 1 set →
      exec (.subscribe k) s = .next ((s.hunt k.port).replied k (.stop .range 0))) ∧
    (∀ on, k.params = yesNoBytes on →
      exec (.releaseAttention k) s = .next (((s.hunt k.port).setPort k.port
        { (s.hunt k.port).port k.port with release := on }).replied k (.success []))) ∧
    (k.params = [] →
      exec (.readAttention k) s = .next (((s.hunt k.port).setPort k.port
        { (s.hunt k.port).port k.port with attention := (s.port k.port).attention.drop 4 }).replied k
        (.success (numBytes 1 (min 4 (s.port k.port).attention.length) ++
          ((s.port k.port).attention.take 4).flatMap entryBytes ++ yesNoBytes (s.port k.port).overflow ++
          numBytes 1 ((s.port k.port).attention.length - 4))))) ∧
    (k.params = [] →
      exec (.clearOverflow k) s = .next (((s.hunt k.port).setPort k.port
        { (s.hunt k.port).port k.port with overflow := false }).replied k (.success [])))

/-- An event raised is offered to each port whose subscription set holds its kind: a SCALE entry of a channel already queued is brought
up to date in its place, another entry is appended while the queue holds fewer than 16, and is discarded with the overflow flag set
at 16; a port not subscribed is untouched (R188, R190). -/
def Obligations.EventsAreOffered : Prop :=
  ∀ (s : State) (e : Event) (p : PortId),
    let entry : Entry := { event := e, time := s.clock }
    let q := s.port p
    (q.subscription.getLsbD e.kind.code = false → (s.raise e).port p = q) ∧
    (q.subscription.getLsbD e.kind.code = true →
      (∀ c st z, e = .scale c st z → (∃ x ∈ q.attention, ∃ st' z', x.event = .scale c st' z') →
        (s.raise e).port p = { q with attention := q.attention.map fun x =>
          match x.event with
          | .scale d _ _ => if d = c then entry else x
          | _ => x }) ∧
      ((∀ c st z, e = .scale c st z → ∀ x ∈ q.attention, ∀ st' z', x.event ≠ .scale c st' z') →
        (q.attention.length < 16 → (s.raise e).port p = { q with attention := q.attention ++ [entry] }) ∧
        (16 ≤ q.attention.length → (s.raise e).port p = { q with overflow := true }))) ∧
    (s.raise e).tickets = s.tickets ∧ (s.raise e).clock = s.clock ∧ (s.raise e).jobs = s.jobs ∧
    (s.raise e).channels = s.channels ∧ (s.raise e).printers = s.printers

/-! ### Invariants of every step -/

/-- Every step keeps the limits of the tables and queues (R29, R58, R133, R157, R190), the tickets' numbers and the tare entries' plates
different (R29, R31, R58). -/
def Obligations.TablesKept : Prop :=
  (∀ s t : State, s.withinLimits → step s = .next t → t.withinLimits) ∧
  (∀ s t : State, s.distinctNames → step s = .next t → t.distinctNames)

/-- Every step keeps one SUPERVISOR port and a drawer at exactly the PAYOUT ports (R114, R183). -/
def Obligations.RolesKept : Prop :=
  ∀ s t : State, s.rolesStand → step s = .next t → t.rolesStand

/-- Every step keeps the counters, the clock, the settings and the figures in their ranges, and the owed order counter in 1 to
4,294,967,295 with every stamp owed different and older than it (R25, R31, R107, R114, R135, R161, R171, Table 9-14). -/
def Obligations.RangesKept : Prop :=
  (∀ s t : State, s.inRange → step s = .next t → t.inRange) ∧
  (∀ s t : State, s.stampsStand → step s = .next t → t.stampsStand)

/-- Every step keeps the pool's rules (R133). -/
def Obligations.PoolKept : Prop :=
  ∀ s t : State, s.poolStands → step s = .next t → t.poolStands

/-- Every step keeps each waiting capture tied to its port, and each output queue within its limit (R17, R176, R180). -/
def Obligations.CapturesKept : Prop :=
  ∀ s t : State, s.capturesStand → step s = .next t → t.capturesStand

/-- Every step keeps a line marked exactly while a capture for it waits, on an OPEN ticket, and each ticket's records fitting its state
(R42, R47, R97, R99, R124). -/
def Obligations.TicketRecordsKept : Prop :=
  ∀ s t : State, s.ticketsStand → step s = .next t → t.ticketsStand

/-- The part right after reset meets every invariant. That reset is the first power-up of a new part is the model's choice (log 8). -/
def Obligations.ResetMeetsTheInvariants : Prop :=
  State.reset.withinLimits ∧ State.reset.distinctNames ∧ State.reset.rolesStand ∧ State.reset.inRange ∧
    State.reset.poolStands ∧ State.reset.capturesStand ∧ State.reset.ticketsStand ∧ State.reset.stampsStand
end

