-- ==== Sys2Proof/Laws/Bytes.lean ====
section
/-! SUPPORT. Numbers and texts written as bytes are read back (Table 9-4). -/

namespace Sys2Proof.Machine

/-- A number in k bytes has k bytes. -/
@[simp] theorem numBytes_length (k n : Nat) : (numBytes k n).length = k := by
  induction k generalizing n with
  | zero => rfl
  | succ k ih => simp [numBytes, ih]

/-- A number that fits k bytes is read back. -/
theorem bytesNum_numBytes (k n : Nat) (h : n < 256 ^ k) : bytesNum (numBytes k n) = n := by
  induction k generalizing n with
  | zero => simp [numBytes, bytesNum]; simp at h; omega
  | succ k ih =>
    have h' : n / 256 < 256 ^ k := by
      rw [Nat.div_lt_iff_lt_mul (by decide)]
      simpa [pow_succ] using h
    simp only [numBytes, bytesNum, ih _ h', BitVec.toNat_ofNat]
    omega

/-- A number of k bytes at the head of the parameters. -/
theorem takeNum_numBytes (k n : Nat) (bs : List Byte) (h : n < 256 ^ k) :
    takeNum k (numBytes k n ++ bs) = some (n, bs) := by
  simp [takeNum, bytesNum_numBytes k n h]

/-- A signed number that fits k bytes is read back. -/
theorem bytesInt_intBytes (k : Nat) (i : Int) (h1 : -(256 ^ k : Nat) ≤ 2 * i) (h2 : 2 * i < (256 ^ k : Nat)) :
    bytesInt (intBytes k i) = i := by
  have hpos : 0 < 256 ^ k := Nat.pos_of_ne_zero (by positivity)
  have hlt : (i % (256 ^ k : Nat)).toNat < 256 ^ k := by
    have := Int.emod_lt_of_pos i (b := (256 ^ k : Nat)) (by exact_mod_cast hpos)
    have h0 := Int.emod_nonneg i (b := (256 ^ k : Nat)) (by exact_mod_cast hpos.ne')
    omega
  unfold bytesInt intBytes
  rw [numBytes_length, bytesNum_numBytes _ _ hlt]
  generalize 256 ^ k = m at *
  rcases lt_or_ge i 0 with hi | hi
  · have : i % (m : Int) = i + m := by
      rw [← Int.add_emod_right]; exact Int.emod_eq_of_lt (by omega) (by omega)
    rw [this]; split_ifs <;> omega
  · have : i % (m : Int) = i := Int.emod_eq_of_lt hi (by omega)
    rw [this]; split_ifs <;> omega

/-- A signed number of k bytes at the head of the parameters. -/
theorem takeInt_intBytes (k : Nat) (i : Int) (bs : List Byte) (h1 : -(256 ^ k : Nat) ≤ 2 * i)
    (h2 : 2 * i < (256 ^ k : Nat)) : takeInt k (intBytes k i ++ bs) = some (i, bs) := by
  have hl : (intBytes k i).length = k := by simp [intBytes]
  simp only [takeInt, List.take_left' hl, List.drop_left' hl, bytesInt_intBytes k i h1 h2, List.length_append, hl]
  rw [if_neg (by omega)]

/-- A text of at most 255 characters at the head of the parameters. -/
theorem takeText_textBytes (t : Text) (bs : List Byte) (h : t.length ≤ 255) :
    takeText (textBytes t ++ bs) = some (t, bs) := by
  have hn : (BitVec.ofNat 8 t.length).toNat = t.length := by simp; omega
  simp [takeText, textBytes, hn]

/-- A number below its bound is its own index. -/
theorem indexOf?_val {n : Nat} (i : Fin n) : indexOf? n i.val = some i := by simp [indexOf?]

end Sys2Proof.Machine
end

