-- ==== Sys2Proof/Laws/State.lean ====
section
/-! SUPPORT. One lemma for each field and each of the operations that change one field of the state, and what a port, a
channel or a printer reads after it. -/

namespace Sys2Proof.Machine

/-! ### Items of a mapped vector -/

/-- An item of a mapped vector is the item changed. -/
@[simp] theorem mapItems_getElem {α β : Type} {n : Nat} (f : α → β) (v : Vector α n) (i : Nat) (h : i < n) :
    (mapItems f v)[i] = f v[i] := by
  simp [mapItems]

/-- An item of a tabulated vector is the function's value. -/
@[simp] theorem tabulate_getElem {α : Type} {n : Nat} (f : Fin n → α) (i : Nat) (h : i < n) :
    (tabulate f)[i] = f ⟨i, h⟩ := by
  simp [tabulate]

/-! ### setPort -/

@[simp] theorem State.setPort_pending (s : State) (p : PortId) (x : Port) : (s.setPort p x).pending = s.pending := rfl
@[simp] theorem State.setPort_mainSupply (s : State) (p : PortId) (x : Port) :
    (s.setPort p x).mainSupply = s.mainSupply := rfl
@[simp] theorem State.setPort_resetHigh (s : State) (p : PortId) (x : Port) :
    (s.setPort p x).resetHigh = s.resetHigh := rfl
@[simp] theorem State.setPort_timebase (s : State) (p : PortId) (x : Port) :
    (s.setPort p x).timebase = s.timebase := rfl
@[simp] theorem State.setPort_clockDue (s : State) (p : PortId) (x : Port) :
    (s.setPort p x).clockDue = s.clockDue := rfl
@[simp] theorem State.setPort_signatureHolds (s : State) (p : PortId) (x : Port) :
    (s.setPort p x).signatureHolds = s.signatureHolds := rfl
@[simp] theorem State.setPort_sumError (s : State) (p : PortId) (x : Port) :
    (s.setPort p x).sumError = s.sumError := rfl
@[simp] theorem State.setPort_storeLost (s : State) (p : PortId) (x : Port) :
    (s.setPort p x).storeLost = s.storeLost := rfl
@[simp] theorem State.setPort_clock (s : State) (p : PortId) (x : Port) : (s.setPort p x).clock = s.clock := rfl
@[simp] theorem State.setPort_ports (s : State) (p : PortId) (x : Port) :
    (s.setPort p x).ports = s.ports.set p x := rfl
@[simp] theorem State.setPort_channels (s : State) (p : PortId) (x : Port) :
    (s.setPort p x).channels = s.channels := rfl
@[simp] theorem State.setPort_printers (s : State) (p : PortId) (x : Port) :
    (s.setPort p x).printers = s.printers := rfl
@[simp] theorem State.setPort_tickets (s : State) (p : PortId) (x : Port) : (s.setPort p x).tickets = s.tickets := rfl
@[simp] theorem State.setPort_tares (s : State) (p : PortId) (x : Port) : (s.setPort p x).tares = s.tares := rfl
@[simp] theorem State.setPort_active (s : State) (p : PortId) (x : Port) : (s.setPort p x).active = s.active := rfl
@[simp] theorem State.setPort_generation (s : State) (p : PortId) (x : Port) :
    (s.setPort p x).generation = s.generation := rfl
@[simp] theorem State.setPort_edit (s : State) (p : PortId) (x : Port) : (s.setPort p x).edit = s.edit := rfl
@[simp] theorem State.setPort_settings (s : State) (p : PortId) (x : Port) :
    (s.setPort p x).settings = s.settings := rfl
@[simp] theorem State.setPort_totals (s : State) (p : PortId) (x : Port) : (s.setPort p x).totals = s.totals := rfl
@[simp] theorem State.setPort_dayNumber (s : State) (p : PortId) (x : Port) :
    (s.setPort p x).dayNumber = s.dayNumber := rfl
@[simp] theorem State.setPort_report (s : State) (p : PortId) (x : Port) : (s.setPort p x).report = s.report := rfl
@[simp] theorem State.setPort_nextTicket (s : State) (p : PortId) (x : Port) :
    (s.setPort p x).nextTicket = s.nextTicket := rfl
@[simp] theorem State.setPort_nextWeighing (s : State) (p : PortId) (x : Port) :
    (s.setPort p x).nextWeighing = s.nextWeighing := rfl
@[simp] theorem State.setPort_nextStamp (s : State) (p : PortId) (x : Port) :
    (s.setPort p x).nextStamp = s.nextStamp := rfl
@[simp] theorem State.setPort_snapshots (s : State) (p : PortId) (x : Port) :
    (s.setPort p x).snapshots = s.snapshots := rfl
@[simp] theorem State.setPort_headers (s : State) (p : PortId) (x : Port) : (s.setPort p x).headers = s.headers := rfl
@[simp] theorem State.setPort_jobs (s : State) (p : PortId) (x : Port) : (s.setPort p x).jobs = s.jobs := rfl
@[simp] theorem State.setPort_nextJob (s : State) (p : PortId) (x : Port) : (s.setPort p x).nextJob = s.nextJob := rfl
@[simp] theorem State.setPort_nextAge (s : State) (p : PortId) (x : Port) : (s.setPort p x).nextAge = s.nextAge := rfl

/-! ### setChannel -/

@[simp] theorem State.setChannel_pending (s : State) (c : ChannelId) (x : Channel) :
    (s.setChannel c x).pending = s.pending := rfl
@[simp] theorem State.setChannel_mainSupply (s : State) (c : ChannelId) (x : Channel) :
    (s.setChannel c x).mainSupply = s.mainSupply := rfl
@[simp] theorem State.setChannel_resetHigh (s : State) (c : ChannelId) (x : Channel) :
    (s.setChannel c x).resetHigh = s.resetHigh := rfl
@[simp] theorem State.setChannel_timebase (s : State) (c : ChannelId) (x : Channel) :
    (s.setChannel c x).timebase = s.timebase := rfl
@[simp] theorem State.setChannel_clockDue (s : State) (c : ChannelId) (x : Channel) :
    (s.setChannel c x).clockDue = s.clockDue := rfl
@[simp] theorem State.setChannel_signatureHolds (s : State) (c : ChannelId) (x : Channel) :
    (s.setChannel c x).signatureHolds = s.signatureHolds := rfl
@[simp] theorem State.setChannel_sumError (s : State) (c : ChannelId) (x : Channel) :
    (s.setChannel c x).sumError = s.sumError := rfl
@[simp] theorem State.setChannel_storeLost (s : State) (c : ChannelId) (x : Channel) :
    (s.setChannel c x).storeLost = s.storeLost := rfl
@[simp] theorem State.setChannel_clock (s : State) (c : ChannelId) (x : Channel) :
    (s.setChannel c x).clock = s.clock := rfl
@[simp] theorem State.setChannel_ports (s : State) (c : ChannelId) (x : Channel) :
    (s.setChannel c x).ports = s.ports := rfl
@[simp] theorem State.setChannel_channels (s : State) (c : ChannelId) (x : Channel) :
    (s.setChannel c x).channels = s.channels.set c x := rfl
@[simp] theorem State.setChannel_printers (s : State) (c : ChannelId) (x : Channel) :
    (s.setChannel c x).printers = s.printers := rfl
@[simp] theorem State.setChannel_tickets (s : State) (c : ChannelId) (x : Channel) :
    (s.setChannel c x).tickets = s.tickets := rfl
@[simp] theorem State.setChannel_tares (s : State) (c : ChannelId) (x : Channel) :
    (s.setChannel c x).tares = s.tares := rfl
@[simp] theorem State.setChannel_active (s : State) (c : ChannelId) (x : Channel) :
    (s.setChannel c x).active = s.active := rfl
@[simp] theorem State.setChannel_generation (s : State) (c : ChannelId) (x : Channel) :
    (s.setChannel c x).generation = s.generation := rfl
@[simp] theorem State.setChannel_edit (s : State) (c : ChannelId) (x : Channel) :
    (s.setChannel c x).edit = s.edit := rfl
@[simp] theorem State.setChannel_settings (s : State) (c : ChannelId) (x : Channel) :
    (s.setChannel c x).settings = s.settings := rfl
@[simp] theorem State.setChannel_totals (s : State) (c : ChannelId) (x : Channel) :
    (s.setChannel c x).totals = s.totals := rfl
@[simp] theorem State.setChannel_dayNumber (s : State) (c : ChannelId) (x : Channel) :
    (s.setChannel c x).dayNumber = s.dayNumber := rfl
@[simp] theorem State.setChannel_report (s : State) (c : ChannelId) (x : Channel) :
    (s.setChannel c x).report = s.report := rfl
@[simp] theorem State.setChannel_nextTicket (s : State) (c : ChannelId) (x : Channel) :
    (s.setChannel c x).nextTicket = s.nextTicket := rfl
@[simp] theorem State.setChannel_nextWeighing (s : State) (c : ChannelId) (x : Channel) :
    (s.setChannel c x).nextWeighing = s.nextWeighing := rfl
@[simp] theorem State.setChannel_nextStamp (s : State) (c : ChannelId) (x : Channel) :
    (s.setChannel c x).nextStamp = s.nextStamp := rfl
@[simp] theorem State.setChannel_snapshots (s : State) (c : ChannelId) (x : Channel) :
    (s.setChannel c x).snapshots = s.snapshots := rfl
@[simp] theorem State.setChannel_headers (s : State) (c : ChannelId) (x : Channel) :
    (s.setChannel c x).headers = s.headers := rfl
@[simp] theorem State.setChannel_jobs (s : State) (c : ChannelId) (x : Channel) :
    (s.setChannel c x).jobs = s.jobs := rfl
@[simp] theorem State.setChannel_nextJob (s : State) (c : ChannelId) (x : Channel) :
    (s.setChannel c x).nextJob = s.nextJob := rfl
@[simp] theorem State.setChannel_nextAge (s : State) (c : ChannelId) (x : Channel) :
    (s.setChannel c x).nextAge = s.nextAge := rfl

/-! ### setPrinter -/

@[simp] theorem State.setPrinter_pending (s : State) (r : PrinterId) (x : Printer) :
    (s.setPrinter r x).pending = s.pending := rfl
@[simp] theorem State.setPrinter_mainSupply (s : State) (r : PrinterId) (x : Printer) :
    (s.setPrinter r x).mainSupply = s.mainSupply := rfl
@[simp] theorem State.setPrinter_resetHigh (s : State) (r : PrinterId) (x : Printer) :
    (s.setPrinter r x).resetHigh = s.resetHigh := rfl
@[simp] theorem State.setPrinter_timebase (s : State) (r : PrinterId) (x : Printer) :
    (s.setPrinter r x).timebase = s.timebase := rfl
@[simp] theorem State.setPrinter_clockDue (s : State) (r : PrinterId) (x : Printer) :
    (s.setPrinter r x).clockDue = s.clockDue := rfl
@[simp] theorem State.setPrinter_signatureHolds (s : State) (r : PrinterId) (x : Printer) :
    (s.setPrinter r x).signatureHolds = s.signatureHolds := rfl
@[simp] theorem State.setPrinter_sumError (s : State) (r : PrinterId) (x : Printer) :
    (s.setPrinter r x).sumError = s.sumError := rfl
@[simp] theorem State.setPrinter_storeLost (s : State) (r : PrinterId) (x : Printer) :
    (s.setPrinter r x).storeLost = s.storeLost := rfl
@[simp] theorem State.setPrinter_clock (s : State) (r : PrinterId) (x : Printer) :
    (s.setPrinter r x).clock = s.clock := rfl
@[simp] theorem State.setPrinter_ports (s : State) (r : PrinterId) (x : Printer) :
    (s.setPrinter r x).ports = s.ports := rfl
@[simp] theorem State.setPrinter_channels (s : State) (r : PrinterId) (x : Printer) :
    (s.setPrinter r x).channels = s.channels := rfl
@[simp] theorem State.setPrinter_printers (s : State) (r : PrinterId) (x : Printer) :
    (s.setPrinter r x).printers = s.printers.set r x := rfl
@[simp] theorem State.setPrinter_tickets (s : State) (r : PrinterId) (x : Printer) :
    (s.setPrinter r x).tickets = s.tickets := rfl
@[simp] theorem State.setPrinter_tares (s : State) (r : PrinterId) (x : Printer) :
    (s.setPrinter r x).tares = s.tares := rfl
@[simp] theorem State.setPrinter_active (s : State) (r : PrinterId) (x : Printer) :
    (s.setPrinter r x).active = s.active := rfl
@[simp] theorem State.setPrinter_generation (s : State) (r : PrinterId) (x : Printer) :
    (s.setPrinter r x).generation = s.generation := rfl
@[simp] theorem State.setPrinter_edit (s : State) (r : PrinterId) (x : Printer) :
    (s.setPrinter r x).edit = s.edit := rfl
@[simp] theorem State.setPrinter_settings (s : State) (r : PrinterId) (x : Printer) :
    (s.setPrinter r x).settings = s.settings := rfl
@[simp] theorem State.setPrinter_totals (s : State) (r : PrinterId) (x : Printer) :
    (s.setPrinter r x).totals = s.totals := rfl
@[simp] theorem State.setPrinter_dayNumber (s : State) (r : PrinterId) (x : Printer) :
    (s.setPrinter r x).dayNumber = s.dayNumber := rfl
@[simp] theorem State.setPrinter_report (s : State) (r : PrinterId) (x : Printer) :
    (s.setPrinter r x).report = s.report := rfl
@[simp] theorem State.setPrinter_nextTicket (s : State) (r : PrinterId) (x : Printer) :
    (s.setPrinter r x).nextTicket = s.nextTicket := rfl
@[simp] theorem State.setPrinter_nextWeighing (s : State) (r : PrinterId) (x : Printer) :
    (s.setPrinter r x).nextWeighing = s.nextWeighing := rfl
@[simp] theorem State.setPrinter_nextStamp (s : State) (r : PrinterId) (x : Printer) :
    (s.setPrinter r x).nextStamp = s.nextStamp := rfl
@[simp] theorem State.setPrinter_snapshots (s : State) (r : PrinterId) (x : Printer) :
    (s.setPrinter r x).snapshots = s.snapshots := rfl
@[simp] theorem State.setPrinter_headers (s : State) (r : PrinterId) (x : Printer) :
    (s.setPrinter r x).headers = s.headers := rfl
@[simp] theorem State.setPrinter_jobs (s : State) (r : PrinterId) (x : Printer) :
    (s.setPrinter r x).jobs = s.jobs := rfl
@[simp] theorem State.setPrinter_nextJob (s : State) (r : PrinterId) (x : Printer) :
    (s.setPrinter r x).nextJob = s.nextJob := rfl
@[simp] theorem State.setPrinter_nextAge (s : State) (r : PrinterId) (x : Printer) :
    (s.setPrinter r x).nextAge = s.nextAge := rfl

/-! ### putTicket -/

@[simp] theorem State.putTicket_pending (s : State) (t : Ticket) : (s.putTicket t).pending = s.pending := rfl
@[simp] theorem State.putTicket_mainSupply (s : State) (t : Ticket) : (s.putTicket t).mainSupply = s.mainSupply := rfl
@[simp] theorem State.putTicket_resetHigh (s : State) (t : Ticket) : (s.putTicket t).resetHigh = s.resetHigh := rfl
@[simp] theorem State.putTicket_timebase (s : State) (t : Ticket) : (s.putTicket t).timebase = s.timebase := rfl
@[simp] theorem State.putTicket_clockDue (s : State) (t : Ticket) : (s.putTicket t).clockDue = s.clockDue := rfl
@[simp] theorem State.putTicket_signatureHolds (s : State) (t : Ticket) :
    (s.putTicket t).signatureHolds = s.signatureHolds := rfl
@[simp] theorem State.putTicket_sumError (s : State) (t : Ticket) : (s.putTicket t).sumError = s.sumError := rfl
@[simp] theorem State.putTicket_storeLost (s : State) (t : Ticket) : (s.putTicket t).storeLost = s.storeLost := rfl
@[simp] theorem State.putTicket_clock (s : State) (t : Ticket) : (s.putTicket t).clock = s.clock := rfl
@[simp] theorem State.putTicket_ports (s : State) (t : Ticket) : (s.putTicket t).ports = s.ports := rfl
@[simp] theorem State.putTicket_channels (s : State) (t : Ticket) : (s.putTicket t).channels = s.channels := rfl
@[simp] theorem State.putTicket_printers (s : State) (t : Ticket) : (s.putTicket t).printers = s.printers := rfl
@[simp] theorem State.putTicket_tickets (s : State) (t : Ticket) :
    (s.putTicket t).tickets = s.tickets.map fun x => if x.number = t.number then t else x := rfl
@[simp] theorem State.putTicket_tares (s : State) (t : Ticket) : (s.putTicket t).tares = s.tares := rfl
@[simp] theorem State.putTicket_active (s : State) (t : Ticket) : (s.putTicket t).active = s.active := rfl
@[simp] theorem State.putTicket_generation (s : State) (t : Ticket) : (s.putTicket t).generation = s.generation := rfl
@[simp] theorem State.putTicket_edit (s : State) (t : Ticket) : (s.putTicket t).edit = s.edit := rfl
@[simp] theorem State.putTicket_settings (s : State) (t : Ticket) : (s.putTicket t).settings = s.settings := rfl
@[simp] theorem State.putTicket_totals (s : State) (t : Ticket) : (s.putTicket t).totals = s.totals := rfl
@[simp] theorem State.putTicket_dayNumber (s : State) (t : Ticket) : (s.putTicket t).dayNumber = s.dayNumber := rfl
@[simp] theorem State.putTicket_report (s : State) (t : Ticket) : (s.putTicket t).report = s.report := rfl
@[simp] theorem State.putTicket_nextTicket (s : State) (t : Ticket) : (s.putTicket t).nextTicket = s.nextTicket := rfl
@[simp] theorem State.putTicket_nextWeighing (s : State) (t : Ticket) :
    (s.putTicket t).nextWeighing = s.nextWeighing := rfl
@[simp] theorem State.putTicket_nextStamp (s : State) (t : Ticket) : (s.putTicket t).nextStamp = s.nextStamp := rfl
@[simp] theorem State.putTicket_snapshots (s : State) (t : Ticket) : (s.putTicket t).snapshots = s.snapshots := rfl
@[simp] theorem State.putTicket_headers (s : State) (t : Ticket) : (s.putTicket t).headers = s.headers := rfl
@[simp] theorem State.putTicket_jobs (s : State) (t : Ticket) : (s.putTicket t).jobs = s.jobs := rfl
@[simp] theorem State.putTicket_nextJob (s : State) (t : Ticket) : (s.putTicket t).nextJob = s.nextJob := rfl
@[simp] theorem State.putTicket_nextAge (s : State) (t : Ticket) : (s.putTicket t).nextAge = s.nextAge := rfl

/-! ### putJob -/

@[simp] theorem State.putJob_pending (s : State) (j : Job) : (s.putJob j).pending = s.pending := rfl
@[simp] theorem State.putJob_mainSupply (s : State) (j : Job) : (s.putJob j).mainSupply = s.mainSupply := rfl
@[simp] theorem State.putJob_resetHigh (s : State) (j : Job) : (s.putJob j).resetHigh = s.resetHigh := rfl
@[simp] theorem State.putJob_timebase (s : State) (j : Job) : (s.putJob j).timebase = s.timebase := rfl
@[simp] theorem State.putJob_clockDue (s : State) (j : Job) : (s.putJob j).clockDue = s.clockDue := rfl
@[simp] theorem State.putJob_signatureHolds (s : State) (j : Job) :
    (s.putJob j).signatureHolds = s.signatureHolds := rfl
@[simp] theorem State.putJob_sumError (s : State) (j : Job) : (s.putJob j).sumError = s.sumError := rfl
@[simp] theorem State.putJob_storeLost (s : State) (j : Job) : (s.putJob j).storeLost = s.storeLost := rfl
@[simp] theorem State.putJob_clock (s : State) (j : Job) : (s.putJob j).clock = s.clock := rfl
@[simp] theorem State.putJob_ports (s : State) (j : Job) : (s.putJob j).ports = s.ports := rfl
@[simp] theorem State.putJob_channels (s : State) (j : Job) : (s.putJob j).channels = s.channels := rfl
@[simp] theorem State.putJob_printers (s : State) (j : Job) : (s.putJob j).printers = s.printers := rfl
@[simp] theorem State.putJob_tickets (s : State) (j : Job) : (s.putJob j).tickets = s.tickets := rfl
@[simp] theorem State.putJob_tares (s : State) (j : Job) : (s.putJob j).tares = s.tares := rfl
@[simp] theorem State.putJob_active (s : State) (j : Job) : (s.putJob j).active = s.active := rfl
@[simp] theorem State.putJob_generation (s : State) (j : Job) : (s.putJob j).generation = s.generation := rfl
@[simp] theorem State.putJob_edit (s : State) (j : Job) : (s.putJob j).edit = s.edit := rfl
@[simp] theorem State.putJob_settings (s : State) (j : Job) : (s.putJob j).settings = s.settings := rfl
@[simp] theorem State.putJob_totals (s : State) (j : Job) : (s.putJob j).totals = s.totals := rfl
@[simp] theorem State.putJob_dayNumber (s : State) (j : Job) : (s.putJob j).dayNumber = s.dayNumber := rfl
@[simp] theorem State.putJob_report (s : State) (j : Job) : (s.putJob j).report = s.report := rfl
@[simp] theorem State.putJob_nextTicket (s : State) (j : Job) : (s.putJob j).nextTicket = s.nextTicket := rfl
@[simp] theorem State.putJob_nextWeighing (s : State) (j : Job) : (s.putJob j).nextWeighing = s.nextWeighing := rfl
@[simp] theorem State.putJob_nextStamp (s : State) (j : Job) : (s.putJob j).nextStamp = s.nextStamp := rfl
@[simp] theorem State.putJob_snapshots (s : State) (j : Job) : (s.putJob j).snapshots = s.snapshots := rfl
@[simp] theorem State.putJob_headers (s : State) (j : Job) : (s.putJob j).headers = s.headers := rfl
@[simp] theorem State.putJob_jobs (s : State) (j : Job) :
    (s.putJob j).jobs = s.jobs.map fun x => if x.id = j.id then j else x := rfl
@[simp] theorem State.putJob_nextJob (s : State) (j : Job) : (s.putJob j).nextJob = s.nextJob := rfl
@[simp] theorem State.putJob_nextAge (s : State) (j : Job) : (s.putJob j).nextAge = s.nextAge := rfl

/-! ### raise -/

@[simp] theorem State.raise_pending (s : State) (e : Event) : (s.raise e).pending = s.pending := rfl
@[simp] theorem State.raise_mainSupply (s : State) (e : Event) : (s.raise e).mainSupply = s.mainSupply := rfl
@[simp] theorem State.raise_resetHigh (s : State) (e : Event) : (s.raise e).resetHigh = s.resetHigh := rfl
@[simp] theorem State.raise_timebase (s : State) (e : Event) : (s.raise e).timebase = s.timebase := rfl
@[simp] theorem State.raise_clockDue (s : State) (e : Event) : (s.raise e).clockDue = s.clockDue := rfl
@[simp] theorem State.raise_signatureHolds (s : State) (e : Event) :
    (s.raise e).signatureHolds = s.signatureHolds := rfl
@[simp] theorem State.raise_sumError (s : State) (e : Event) : (s.raise e).sumError = s.sumError := rfl
@[simp] theorem State.raise_storeLost (s : State) (e : Event) : (s.raise e).storeLost = s.storeLost := rfl
@[simp] theorem State.raise_clock (s : State) (e : Event) : (s.raise e).clock = s.clock := rfl
@[simp] theorem State.raise_ports (s : State) (e : Event) :
    (s.raise e).ports = mapItems (fun q => q.offer { event := e, time := s.clock }) s.ports := rfl
@[simp] theorem State.raise_channels (s : State) (e : Event) : (s.raise e).channels = s.channels := rfl
@[simp] theorem State.raise_printers (s : State) (e : Event) : (s.raise e).printers = s.printers := rfl
@[simp] theorem State.raise_tickets (s : State) (e : Event) : (s.raise e).tickets = s.tickets := rfl
@[simp] theorem State.raise_tares (s : State) (e : Event) : (s.raise e).tares = s.tares := rfl
@[simp] theorem State.raise_active (s : State) (e : Event) : (s.raise e).active = s.active := rfl
@[simp] theorem State.raise_generation (s : State) (e : Event) : (s.raise e).generation = s.generation := rfl
@[simp] theorem State.raise_edit (s : State) (e : Event) : (s.raise e).edit = s.edit := rfl
@[simp] theorem State.raise_settings (s : State) (e : Event) : (s.raise e).settings = s.settings := rfl
@[simp] theorem State.raise_totals (s : State) (e : Event) : (s.raise e).totals = s.totals := rfl
@[simp] theorem State.raise_dayNumber (s : State) (e : Event) : (s.raise e).dayNumber = s.dayNumber := rfl
@[simp] theorem State.raise_report (s : State) (e : Event) : (s.raise e).report = s.report := rfl
@[simp] theorem State.raise_nextTicket (s : State) (e : Event) : (s.raise e).nextTicket = s.nextTicket := rfl
@[simp] theorem State.raise_nextWeighing (s : State) (e : Event) : (s.raise e).nextWeighing = s.nextWeighing := rfl
@[simp] theorem State.raise_nextStamp (s : State) (e : Event) : (s.raise e).nextStamp = s.nextStamp := rfl
@[simp] theorem State.raise_snapshots (s : State) (e : Event) : (s.raise e).snapshots = s.snapshots := rfl
@[simp] theorem State.raise_headers (s : State) (e : Event) : (s.raise e).headers = s.headers := rfl
@[simp] theorem State.raise_jobs (s : State) (e : Event) : (s.raise e).jobs = s.jobs := rfl
@[simp] theorem State.raise_nextJob (s : State) (e : Event) : (s.raise e).nextJob = s.nextJob := rfl
@[simp] theorem State.raise_nextAge (s : State) (e : Event) : (s.raise e).nextAge = s.nextAge := rfl

/-! ### reach -/

@[simp] theorem State.reach_pending (s : State) (time : Nat) : (s.reach time).pending = s.pending := rfl
@[simp] theorem State.reach_mainSupply (s : State) (time : Nat) : (s.reach time).mainSupply = s.mainSupply := rfl
@[simp] theorem State.reach_resetHigh (s : State) (time : Nat) : (s.reach time).resetHigh = s.resetHigh := rfl
@[simp] theorem State.reach_timebase (s : State) (time : Nat) : (s.reach time).timebase = max s.timebase time := rfl
@[simp] theorem State.reach_clockDue (s : State) (time : Nat) : (s.reach time).clockDue = s.clockDue := rfl
@[simp] theorem State.reach_signatureHolds (s : State) (time : Nat) :
    (s.reach time).signatureHolds = s.signatureHolds := rfl
@[simp] theorem State.reach_sumError (s : State) (time : Nat) : (s.reach time).sumError = s.sumError := rfl
@[simp] theorem State.reach_storeLost (s : State) (time : Nat) : (s.reach time).storeLost = s.storeLost := rfl
@[simp] theorem State.reach_clock (s : State) (time : Nat) : (s.reach time).clock = s.clock := rfl
@[simp] theorem State.reach_ports (s : State) (time : Nat) : (s.reach time).ports = s.ports := rfl
@[simp] theorem State.reach_channels (s : State) (time : Nat) : (s.reach time).channels = s.channels := rfl
@[simp] theorem State.reach_printers (s : State) (time : Nat) : (s.reach time).printers = s.printers := rfl
@[simp] theorem State.reach_tickets (s : State) (time : Nat) : (s.reach time).tickets = s.tickets := rfl
@[simp] theorem State.reach_tares (s : State) (time : Nat) : (s.reach time).tares = s.tares := rfl
@[simp] theorem State.reach_active (s : State) (time : Nat) : (s.reach time).active = s.active := rfl
@[simp] theorem State.reach_generation (s : State) (time : Nat) : (s.reach time).generation = s.generation := rfl
@[simp] theorem State.reach_edit (s : State) (time : Nat) : (s.reach time).edit = s.edit := rfl
@[simp] theorem State.reach_settings (s : State) (time : Nat) : (s.reach time).settings = s.settings := rfl
@[simp] theorem State.reach_totals (s : State) (time : Nat) : (s.reach time).totals = s.totals := rfl
@[simp] theorem State.reach_dayNumber (s : State) (time : Nat) : (s.reach time).dayNumber = s.dayNumber := rfl
@[simp] theorem State.reach_report (s : State) (time : Nat) : (s.reach time).report = s.report := rfl
@[simp] theorem State.reach_nextTicket (s : State) (time : Nat) : (s.reach time).nextTicket = s.nextTicket := rfl
@[simp] theorem State.reach_nextWeighing (s : State) (time : Nat) :
    (s.reach time).nextWeighing = s.nextWeighing := rfl
@[simp] theorem State.reach_nextStamp (s : State) (time : Nat) : (s.reach time).nextStamp = s.nextStamp := rfl
@[simp] theorem State.reach_snapshots (s : State) (time : Nat) : (s.reach time).snapshots = s.snapshots := rfl
@[simp] theorem State.reach_headers (s : State) (time : Nat) : (s.reach time).headers = s.headers := rfl
@[simp] theorem State.reach_jobs (s : State) (time : Nat) : (s.reach time).jobs = s.jobs := rfl
@[simp] theorem State.reach_nextJob (s : State) (time : Nat) : (s.reach time).nextJob = s.nextJob := rfl
@[simp] theorem State.reach_nextAge (s : State) (time : Nat) : (s.reach time).nextAge = s.nextAge := rfl

/-! ### giveWeighing -/

@[simp] theorem State.giveWeighing_pending (s : State) : (s.giveWeighing).pending = s.pending := rfl
@[simp] theorem State.giveWeighing_mainSupply (s : State) : (s.giveWeighing).mainSupply = s.mainSupply := rfl
@[simp] theorem State.giveWeighing_resetHigh (s : State) : (s.giveWeighing).resetHigh = s.resetHigh := rfl
@[simp] theorem State.giveWeighing_timebase (s : State) : (s.giveWeighing).timebase = s.timebase := rfl
@[simp] theorem State.giveWeighing_clockDue (s : State) : (s.giveWeighing).clockDue = s.clockDue := rfl
@[simp] theorem State.giveWeighing_signatureHolds (s : State) :
    (s.giveWeighing).signatureHolds = s.signatureHolds := rfl
@[simp] theorem State.giveWeighing_sumError (s : State) : (s.giveWeighing).sumError = s.sumError := rfl
@[simp] theorem State.giveWeighing_storeLost (s : State) : (s.giveWeighing).storeLost = s.storeLost := rfl
@[simp] theorem State.giveWeighing_clock (s : State) : (s.giveWeighing).clock = s.clock := rfl
@[simp] theorem State.giveWeighing_ports (s : State) : (s.giveWeighing).ports = s.ports := rfl
@[simp] theorem State.giveWeighing_channels (s : State) : (s.giveWeighing).channels = s.channels := rfl
@[simp] theorem State.giveWeighing_printers (s : State) : (s.giveWeighing).printers = s.printers := rfl
@[simp] theorem State.giveWeighing_tickets (s : State) : (s.giveWeighing).tickets = s.tickets := rfl
@[simp] theorem State.giveWeighing_tares (s : State) : (s.giveWeighing).tares = s.tares := rfl
@[simp] theorem State.giveWeighing_active (s : State) : (s.giveWeighing).active = s.active := rfl
@[simp] theorem State.giveWeighing_generation (s : State) : (s.giveWeighing).generation = s.generation := rfl
@[simp] theorem State.giveWeighing_edit (s : State) : (s.giveWeighing).edit = s.edit := rfl
@[simp] theorem State.giveWeighing_settings (s : State) : (s.giveWeighing).settings = s.settings := rfl
@[simp] theorem State.giveWeighing_totals (s : State) : (s.giveWeighing).totals = s.totals := rfl
@[simp] theorem State.giveWeighing_dayNumber (s : State) : (s.giveWeighing).dayNumber = s.dayNumber := rfl
@[simp] theorem State.giveWeighing_report (s : State) : (s.giveWeighing).report = s.report := rfl
@[simp] theorem State.giveWeighing_nextTicket (s : State) : (s.giveWeighing).nextTicket = s.nextTicket := rfl
@[simp] theorem State.giveWeighing_nextWeighing (s : State) :
    (s.giveWeighing).nextWeighing = advanceNumber s.nextWeighing := rfl
@[simp] theorem State.giveWeighing_nextStamp (s : State) : (s.giveWeighing).nextStamp = s.nextStamp := rfl
@[simp] theorem State.giveWeighing_snapshots (s : State) : (s.giveWeighing).snapshots = s.snapshots := rfl
@[simp] theorem State.giveWeighing_headers (s : State) : (s.giveWeighing).headers = s.headers := rfl
@[simp] theorem State.giveWeighing_jobs (s : State) : (s.giveWeighing).jobs = s.jobs := rfl
@[simp] theorem State.giveWeighing_nextJob (s : State) : (s.giveWeighing).nextJob = s.nextJob := rfl
@[simp] theorem State.giveWeighing_nextAge (s : State) : (s.giveWeighing).nextAge = s.nextAge := rfl

/-! ### hunt -/

@[simp] theorem State.hunt_pending (s : State) (p : PortId) : (s.hunt p).pending = s.pending := rfl
@[simp] theorem State.hunt_mainSupply (s : State) (p : PortId) : (s.hunt p).mainSupply = s.mainSupply := rfl
@[simp] theorem State.hunt_resetHigh (s : State) (p : PortId) : (s.hunt p).resetHigh = s.resetHigh := rfl
@[simp] theorem State.hunt_timebase (s : State) (p : PortId) : (s.hunt p).timebase = s.timebase := rfl
@[simp] theorem State.hunt_clockDue (s : State) (p : PortId) : (s.hunt p).clockDue = s.clockDue := rfl
@[simp] theorem State.hunt_signatureHolds (s : State) (p : PortId) :
    (s.hunt p).signatureHolds = s.signatureHolds := rfl
@[simp] theorem State.hunt_sumError (s : State) (p : PortId) : (s.hunt p).sumError = s.sumError := rfl
@[simp] theorem State.hunt_storeLost (s : State) (p : PortId) : (s.hunt p).storeLost = s.storeLost := rfl
@[simp] theorem State.hunt_clock (s : State) (p : PortId) : (s.hunt p).clock = s.clock := rfl
@[simp] theorem State.hunt_ports (s : State) (p : PortId) :
    (s.hunt p).ports = s.ports.set p { s.port p with receiver := .hunting } := rfl
@[simp] theorem State.hunt_channels (s : State) (p : PortId) : (s.hunt p).channels = s.channels := rfl
@[simp] theorem State.hunt_printers (s : State) (p : PortId) : (s.hunt p).printers = s.printers := rfl
@[simp] theorem State.hunt_tickets (s : State) (p : PortId) : (s.hunt p).tickets = s.tickets := rfl
@[simp] theorem State.hunt_tares (s : State) (p : PortId) : (s.hunt p).tares = s.tares := rfl
@[simp] theorem State.hunt_active (s : State) (p : PortId) : (s.hunt p).active = s.active := rfl
@[simp] theorem State.hunt_generation (s : State) (p : PortId) : (s.hunt p).generation = s.generation := rfl
@[simp] theorem State.hunt_edit (s : State) (p : PortId) : (s.hunt p).edit = s.edit := rfl
@[simp] theorem State.hunt_settings (s : State) (p : PortId) : (s.hunt p).settings = s.settings := rfl
@[simp] theorem State.hunt_totals (s : State) (p : PortId) : (s.hunt p).totals = s.totals := rfl
@[simp] theorem State.hunt_dayNumber (s : State) (p : PortId) : (s.hunt p).dayNumber = s.dayNumber := rfl
@[simp] theorem State.hunt_report (s : State) (p : PortId) : (s.hunt p).report = s.report := rfl
@[simp] theorem State.hunt_nextTicket (s : State) (p : PortId) : (s.hunt p).nextTicket = s.nextTicket := rfl
@[simp] theorem State.hunt_nextWeighing (s : State) (p : PortId) : (s.hunt p).nextWeighing = s.nextWeighing := rfl
@[simp] theorem State.hunt_nextStamp (s : State) (p : PortId) : (s.hunt p).nextStamp = s.nextStamp := rfl
@[simp] theorem State.hunt_snapshots (s : State) (p : PortId) : (s.hunt p).snapshots = s.snapshots := rfl
@[simp] theorem State.hunt_headers (s : State) (p : PortId) : (s.hunt p).headers = s.headers := rfl
@[simp] theorem State.hunt_jobs (s : State) (p : PortId) : (s.hunt p).jobs = s.jobs := rfl
@[simp] theorem State.hunt_nextJob (s : State) (p : PortId) : (s.hunt p).nextJob = s.nextJob := rfl
@[simp] theorem State.hunt_nextAge (s : State) (p : PortId) : (s.hunt p).nextAge = s.nextAge := rfl

/-! ### reply -/

@[simp] theorem State.reply_pending (s : State) (p : PortId) (tag : Byte) (a : Answer) :
    (s.reply p tag a).pending = s.pending := rfl
@[simp] theorem State.reply_mainSupply (s : State) (p : PortId) (tag : Byte) (a : Answer) :
    (s.reply p tag a).mainSupply = s.mainSupply := rfl
@[simp] theorem State.reply_resetHigh (s : State) (p : PortId) (tag : Byte) (a : Answer) :
    (s.reply p tag a).resetHigh = s.resetHigh := rfl
@[simp] theorem State.reply_timebase (s : State) (p : PortId) (tag : Byte) (a : Answer) :
    (s.reply p tag a).timebase = s.timebase := rfl
@[simp] theorem State.reply_clockDue (s : State) (p : PortId) (tag : Byte) (a : Answer) :
    (s.reply p tag a).clockDue = s.clockDue := rfl
@[simp] theorem State.reply_signatureHolds (s : State) (p : PortId) (tag : Byte) (a : Answer) :
    (s.reply p tag a).signatureHolds = s.signatureHolds := rfl
@[simp] theorem State.reply_sumError (s : State) (p : PortId) (tag : Byte) (a : Answer) :
    (s.reply p tag a).sumError = s.sumError := rfl
@[simp] theorem State.reply_storeLost (s : State) (p : PortId) (tag : Byte) (a : Answer) :
    (s.reply p tag a).storeLost = s.storeLost := rfl
@[simp] theorem State.reply_clock (s : State) (p : PortId) (tag : Byte) (a : Answer) :
    (s.reply p tag a).clock = s.clock := rfl
@[simp] theorem State.reply_ports (s : State) (p : PortId) (tag : Byte) (a : Answer) :
    (s.reply p tag a).ports = s.ports.set p { s.port p with out := (s.port p).out ++ [.reply { tag := tag, answer := a }] } := rfl
@[simp] theorem State.reply_channels (s : State) (p : PortId) (tag : Byte) (a : Answer) :
    (s.reply p tag a).channels = s.channels := rfl
@[simp] theorem State.reply_printers (s : State) (p : PortId) (tag : Byte) (a : Answer) :
    (s.reply p tag a).printers = s.printers := rfl
@[simp] theorem State.reply_tickets (s : State) (p : PortId) (tag : Byte) (a : Answer) :
    (s.reply p tag a).tickets = s.tickets := rfl
@[simp] theorem State.reply_tares (s : State) (p : PortId) (tag : Byte) (a : Answer) :
    (s.reply p tag a).tares = s.tares := rfl
@[simp] theorem State.reply_active (s : State) (p : PortId) (tag : Byte) (a : Answer) :
    (s.reply p tag a).active = s.active := rfl
@[simp] theorem State.reply_generation (s : State) (p : PortId) (tag : Byte) (a : Answer) :
    (s.reply p tag a).generation = s.generation := rfl
@[simp] theorem State.reply_edit (s : State) (p : PortId) (tag : Byte) (a : Answer) :
    (s.reply p tag a).edit = s.edit := rfl
@[simp] theorem State.reply_settings (s : State) (p : PortId) (tag : Byte) (a : Answer) :
    (s.reply p tag a).settings = s.settings := rfl
@[simp] theorem State.reply_totals (s : State) (p : PortId) (tag : Byte) (a : Answer) :
    (s.reply p tag a).totals = s.totals := rfl
@[simp] theorem State.reply_dayNumber (s : State) (p : PortId) (tag : Byte) (a : Answer) :
    (s.reply p tag a).dayNumber = s.dayNumber := rfl
@[simp] theorem State.reply_report (s : State) (p : PortId) (tag : Byte) (a : Answer) :
    (s.reply p tag a).report = s.report := rfl
@[simp] theorem State.reply_nextTicket (s : State) (p : PortId) (tag : Byte) (a : Answer) :
    (s.reply p tag a).nextTicket = s.nextTicket := rfl
@[simp] theorem State.reply_nextWeighing (s : State) (p : PortId) (tag : Byte) (a : Answer) :
    (s.reply p tag a).nextWeighing = s.nextWeighing := rfl
@[simp] theorem State.reply_nextStamp (s : State) (p : PortId) (tag : Byte) (a : Answer) :
    (s.reply p tag a).nextStamp = s.nextStamp := rfl
@[simp] theorem State.reply_snapshots (s : State) (p : PortId) (tag : Byte) (a : Answer) :
    (s.reply p tag a).snapshots = s.snapshots := rfl
@[simp] theorem State.reply_headers (s : State) (p : PortId) (tag : Byte) (a : Answer) :
    (s.reply p tag a).headers = s.headers := rfl
@[simp] theorem State.reply_jobs (s : State) (p : PortId) (tag : Byte) (a : Answer) :
    (s.reply p tag a).jobs = s.jobs := rfl
@[simp] theorem State.reply_nextJob (s : State) (p : PortId) (tag : Byte) (a : Answer) :
    (s.reply p tag a).nextJob = s.nextJob := rfl
@[simp] theorem State.reply_nextAge (s : State) (p : PortId) (tag : Byte) (a : Answer) :
    (s.reply p tag a).nextAge = s.nextAge := rfl

/-! ### Reading an item back -/

/-- The item just written, and every other item as it was. -/
@[simp] theorem State.port_setPort (s : State) (p q : PortId) (x : Port) :
    (s.setPort p x).port q = if p = q then x else s.port q := by
  simp [State.port, State.setPort, Vector.getElem_set, Fin.ext_iff]

@[simp] theorem State.channel_setChannel (s : State) (c d : ChannelId) (x : Channel) :
    (s.setChannel c x).channel d = if c = d then x else s.channel d := by
  simp [State.channel, State.setChannel, Vector.getElem_set, Fin.ext_iff]

@[simp] theorem State.printer_setPrinter (s : State) (r q : PrinterId) (x : Printer) :
    (s.setPrinter r x).printer q = if r = q then x else s.printer q := by
  simp [State.printer, State.setPrinter, Vector.getElem_set, Fin.ext_iff]

/-- A port after an event has been raised. -/
@[simp] theorem State.port_raise (s : State) (e : Event) (p : PortId) :
    (s.raise e).port p = (s.port p).offer { event := e, time := s.clock } := by
  simp [State.port, State.raise]

/-- A port after its receiver returned to HUNTING. -/
@[simp] theorem State.port_hunt (s : State) (p q : PortId) :
    (s.hunt p).port q = if p = q then { s.port p with receiver := .hunting } else s.port q := by
  simp [State.hunt]

/-- A port after a reply joined an output queue. -/
@[simp] theorem State.port_reply (s : State) (p q : PortId) (tag : Byte) (a : Answer) :
    (s.reply p tag a).port q =
      if p = q then { s.port p with out := (s.port p).out ++ [.reply { tag := tag, answer := a }] }
      else s.port q := by
  simp [State.reply, State.enqueue]

/-! ### A port that an operation leaves -/

@[simp] theorem State.port_setChannel (s : State) (c : ChannelId) (x : Channel) (q : PortId) :
    (s.setChannel c x).port q = s.port q := rfl
@[simp] theorem State.port_setPrinter (s : State) (r : PrinterId) (x : Printer) (q : PortId) :
    (s.setPrinter r x).port q = s.port q := rfl
@[simp] theorem State.port_putTicket (s : State) (t : Ticket) (q : PortId) :
    (s.putTicket t).port q = s.port q := rfl
@[simp] theorem State.port_putJob (s : State) (j : Job) (q : PortId) :
    (s.putJob j).port q = s.port q := rfl
@[simp] theorem State.port_reach (s : State) (time : Nat) (q : PortId) :
    (s.reach time).port q = s.port q := rfl
@[simp] theorem State.port_giveWeighing (s : State) (q : PortId) : s.giveWeighing.port q = s.port q := rfl

/-! ### A channel that an operation leaves -/

@[simp] theorem State.channel_setPort (s : State) (p : PortId) (x : Port) (d : ChannelId) :
    (s.setPort p x).channel d = s.channel d := rfl
@[simp] theorem State.channel_setPrinter (s : State) (r : PrinterId) (x : Printer) (d : ChannelId) :
    (s.setPrinter r x).channel d = s.channel d := rfl
@[simp] theorem State.channel_putTicket (s : State) (t : Ticket) (d : ChannelId) :
    (s.putTicket t).channel d = s.channel d := rfl
@[simp] theorem State.channel_putJob (s : State) (j : Job) (d : ChannelId) :
    (s.putJob j).channel d = s.channel d := rfl
@[simp] theorem State.channel_raise (s : State) (e : Event) (d : ChannelId) :
    (s.raise e).channel d = s.channel d := rfl
@[simp] theorem State.channel_reach (s : State) (time : Nat) (d : ChannelId) :
    (s.reach time).channel d = s.channel d := rfl
@[simp] theorem State.channel_giveWeighing (s : State) (d : ChannelId) : s.giveWeighing.channel d = s.channel d := rfl
@[simp] theorem State.channel_hunt (s : State) (p : PortId) (d : ChannelId) :
    (s.hunt p).channel d = s.channel d := rfl
@[simp] theorem State.channel_reply (s : State) (p : PortId) (tag : Byte) (a : Answer) (d : ChannelId) :
    (s.reply p tag a).channel d = s.channel d := rfl

/-! ### A printer that an operation leaves -/

@[simp] theorem State.printer_setPort (s : State) (p : PortId) (x : Port) (v : PrinterId) :
    (s.setPort p x).printer v = s.printer v := rfl
@[simp] theorem State.printer_setChannel (s : State) (c : ChannelId) (x : Channel) (v : PrinterId) :
    (s.setChannel c x).printer v = s.printer v := rfl
@[simp] theorem State.printer_putTicket (s : State) (t : Ticket) (v : PrinterId) :
    (s.putTicket t).printer v = s.printer v := rfl
@[simp] theorem State.printer_putJob (s : State) (j : Job) (v : PrinterId) :
    (s.putJob j).printer v = s.printer v := rfl
@[simp] theorem State.printer_raise (s : State) (e : Event) (v : PrinterId) :
    (s.raise e).printer v = s.printer v := rfl
@[simp] theorem State.printer_reach (s : State) (time : Nat) (v : PrinterId) :
    (s.reach time).printer v = s.printer v := rfl
@[simp] theorem State.printer_giveWeighing (s : State) (v : PrinterId) : s.giveWeighing.printer v = s.printer v := rfl
@[simp] theorem State.printer_hunt (s : State) (p : PortId) (v : PrinterId) :
    (s.hunt p).printer v = s.printer v := rfl
@[simp] theorem State.printer_reply (s : State) (p : PortId) (tag : Byte) (a : Answer) (v : PrinterId) :
    (s.reply p tag a).printer v = s.printer v := rfl

/-! ### What an offered entry changes of a port -/

@[simp] theorem Port.offer_role (q : Port) (e : Entry) : (q.offer e).role = q.role := by
  unfold Port.offer Port.enqueueAttention; split_ifs <;> rfl
@[simp] theorem Port.offer_defaultPrinter (q : Port) (e : Entry) : (q.offer e).defaultPrinter = q.defaultPrinter := by
  unfold Port.offer Port.enqueueAttention; split_ifs <;> rfl
@[simp] theorem Port.offer_receiver (q : Port) (e : Entry) : (q.offer e).receiver = q.receiver := by
  unfold Port.offer Port.enqueueAttention; split_ifs <;> rfl
@[simp] theorem Port.offer_out (q : Port) (e : Entry) : (q.offer e).out = q.out := by
  unfold Port.offer Port.enqueueAttention; split_ifs <;> rfl
@[simp] theorem Port.offer_busy (q : Port) (e : Entry) : (q.offer e).busy = q.busy := by
  unfold Port.offer Port.enqueueAttention; split_ifs <;> rfl
@[simp] theorem Port.offer_subscription (q : Port) (e : Entry) : (q.offer e).subscription = q.subscription := by
  unfold Port.offer Port.enqueueAttention; split_ifs <;> rfl
@[simp] theorem Port.offer_release (q : Port) (e : Entry) : (q.offer e).release = q.release := by
  unfold Port.offer Port.enqueueAttention; split_ifs <;> rfl
@[simp] theorem Port.offer_drawer (q : Port) (e : Entry) : (q.offer e).drawer = q.drawer := by
  unfold Port.offer Port.enqueueAttention; split_ifs <;> rfl

/-- An offered entry never lets a queue pass its limit (R190). -/
theorem Port.offer_attention_length (q : Port) (e : Entry) (h : q.attention.length ≤ Config.maxAttention) :
    (q.offer e).attention.length ≤ Config.maxAttention := by
  unfold Port.offer Port.enqueueAttention
  split_ifs with h1 h2 h3
  · simpa using h
  · simp only [List.length_append, List.length_cons, List.length_nil]; omega
  · exact h
  · exact h

end Sys2Proof.Machine
end

