-- ==== Sys2Proof/Laws/Tickets.lean ====
section
/-! SUPPORT. The ticket table: the ticket of a number, a record replaced in its place, the capture marks, and the holds. -/

namespace Sys2Proof.Machine

/-! ### The ticket of a number -/

/-- The ticket found under a number carries it. -/
theorem State.ticket?_number {s : State} {n : Nat} {t : Ticket} (h : s.ticket? n = some t) : t.number = n := by
  simpa using List.find?_some h

/-- The ticket found under a number is in the table. -/
theorem State.ticket?_mem {s : State} {n : Nat} {t : Ticket} (h : s.ticket? n = some t) : t ∈ s.tickets :=
  List.mem_of_find?_eq_some h

/-- A ticket of a table without two tickets of one number is found under its number. -/
theorem State.ticket?_of_mem {s : State} {t : Ticket} (hn : (s.tickets.map Ticket.number).Nodup) (h : t ∈ s.tickets) :
    s.ticket? t.number = some t := by
  unfold State.ticket?
  generalize s.tickets = l at hn h
  induction l with
  | nil => simp at h
  | cons x xs ih =>
    rw [List.map_cons, List.nodup_cons] at hn
    rcases List.mem_cons.1 h with rfl | h
    · simp
    · have : x.number ≠ t.number := fun e => hn.1 (e ▸ List.mem_map_of_mem h)
      simpa [this] using ih hn.2 h

/-- No ticket is found under a number exactly when no ticket carries it. -/
theorem State.ticket?_eq_none {s : State} {n : Nat} : s.ticket? n = none ↔ ∀ t ∈ s.tickets, t.number ≠ n := by
  simp [State.ticket?]

/-- Two states with one ticket table find the same tickets. -/
theorem State.ticket?_congr {s t : State} (h : t.tickets = s.tickets) (n : Nat) : t.ticket? n = s.ticket? n := by
  unfold State.ticket?; rw [h]

@[simp] theorem State.ticket?_setPort (s : State) (p : PortId) (x : Port) (n : Nat) :
    (s.setPort p x).ticket? n = s.ticket? n := rfl
@[simp] theorem State.ticket?_setChannel (s : State) (c : ChannelId) (x : Channel) (n : Nat) :
    (s.setChannel c x).ticket? n = s.ticket? n := rfl
@[simp] theorem State.ticket?_setPrinter (s : State) (r : PrinterId) (x : Printer) (n : Nat) :
    (s.setPrinter r x).ticket? n = s.ticket? n := rfl
@[simp] theorem State.ticket?_putJob (s : State) (j : Job) (n : Nat) : (s.putJob j).ticket? n = s.ticket? n := rfl
@[simp] theorem State.ticket?_raise (s : State) (e : Event) (n : Nat) : (s.raise e).ticket? n = s.ticket? n := rfl
@[simp] theorem State.ticket?_reach (s : State) (time n : Nat) : (s.reach time).ticket? n = s.ticket? n := rfl
@[simp] theorem State.ticket?_giveWeighing (s : State) (n : Nat) : s.giveWeighing.ticket? n = s.ticket? n := rfl
@[simp] theorem State.ticket?_hunt (s : State) (p : PortId) (n : Nat) : (s.hunt p).ticket? n = s.ticket? n := rfl
@[simp] theorem State.ticket?_reply (s : State) (p : PortId) (tag : Byte) (a : Answer) (n : Nat) :
    (s.reply p tag a).ticket? n = s.ticket? n := rfl

/-! ### A record replaced in its place (R29) -/

/-- The ticket under a number after a record has been replaced. -/
theorem State.ticket?_putTicket (s : State) (t : Ticket) (n : Nat) :
    (s.putTicket t).ticket? n = if n = t.number then (s.ticket? n).map fun _ => t else s.ticket? n := by
  unfold State.ticket? State.putTicket
  dsimp only
  induction s.tickets with
  | nil => simp
  | cons x xs ih =>
    rw [List.map_cons, List.find?_cons, List.find?_cons]
    by_cases hx : x.number = t.number
    · by_cases hn : n = t.number
      · subst hn; simp [hx]
      · have h1 : t.number ≠ n := fun e => hn e.symm
        rw [if_neg hn] at ih ⊢
        simpa [hx, h1] using ih
    · by_cases hn : n = t.number
      · subst hn
        rw [if_pos rfl] at ih ⊢
        simpa [hx] using ih
      · rw [if_neg hn] at ih ⊢
        by_cases h2 : x.number = n
        · simp [hn, h2]
        · simpa [hx, h2] using ih

/-- The replaced record is found. -/
theorem State.ticket?_putTicket_self {s : State} {t u : Ticket} {n : Nat} (h : s.ticket? n = some u) (hn : t.number = n) :
    (s.putTicket t).ticket? n = some t := by
  rw [State.ticket?_putTicket, if_pos hn.symm, h]; rfl

/-- Other tickets stay. -/
theorem State.ticket?_putTicket_other (s : State) {t : Ticket} {n : Nat} (h : n ≠ t.number) :
    (s.putTicket t).ticket? n = s.ticket? n := by
  rw [State.ticket?_putTicket, if_neg h]

/-- Replacing a record keeps the numbers of the table in their order. -/
theorem State.putTicket_numbers (s : State) (t : Ticket) :
    (s.putTicket t).tickets.map Ticket.number = s.tickets.map Ticket.number := by
  simp only [State.putTicket_tickets, List.map_map]
  apply List.map_congr_left
  intro x _
  simp only [Function.comp_apply]
  split_ifs with h
  · exact h.symm
  · rfl

/-- A ticket of the table after a record has been replaced is that record or was there before. -/
theorem State.mem_putTicket {s : State} {t x : Ticket} (h : x ∈ (s.putTicket t).tickets) :
    x = t ∨ (x ∈ s.tickets ∧ x.number ≠ t.number) := by
  simp only [State.putTicket_tickets, List.mem_map] at h
  obtain ⟨y, hy, h⟩ := h
  split_ifs at h with hn
  · exact .inl h.symm
  · exact .inr ⟨h ▸ hy, h ▸ hn⟩

/-! ### Lines and marks (R42, R47) -/

@[simp] theorem Ticket.changeLine_number (t : Ticket) (k : Nat) (f : Line → Line) :
    (t.changeLine k f).number = t.number := by unfold Ticket.changeLine; split_ifs <;> rfl
@[simp] theorem Ticket.changeLine_state (t : Ticket) (k : Nat) (f : Line → Line) :
    (t.changeLine k f).state = t.state := by unfold Ticket.changeLine; split_ifs <;> rfl
@[simp] theorem Ticket.changeLine_settlement (t : Ticket) (k : Nat) (f : Line → Line) :
    (t.changeLine k f).settlement = t.settlement := by unfold Ticket.changeLine; split_ifs <;> rfl
@[simp] theorem Ticket.changeLine_owed (t : Ticket) (k : Nat) (f : Line → Line) :
    (t.changeLine k f).owed = t.owed := by unfold Ticket.changeLine; split_ifs <;> rfl

/-- The line of a ticket after a line has been changed. -/
theorem Ticket.line?_changeLine (t : Ticket) (k j : Nat) (f : Line → Line) :
    (t.changeLine k f).line? j = if j = k then (t.line? j).map f else t.line? j := by
  unfold Ticket.changeLine Ticket.line?
  by_cases hk : k = 0
  · subst hk
    by_cases hj : j = 0
    · simp [hj]
    · simp [hj]
  · by_cases hj : j = 0
    · simp [hj]
    · by_cases h : j = k
      · simp [h, hk]
      · have h1 : k - 1 ≠ j - 1 := by omega
        simp [h, hk, hj, h1]

/-- Changing a line keeps the number of lines. -/
@[simp] theorem Ticket.changeLine_length (t : Ticket) (k : Nat) (f : Line → Line) :
    (t.changeLine k f).lines.length = t.lines.length := by
  unfold Ticket.changeLine; split_ifs <;> simp

/-- A mark set or cleared changes the ticket table alone. -/
theorem State.setMark_eq (s : State) (owner : CaptureOwner) (m : Option Side) :
    s.setMark owner m = { s with tickets := (s.setMark owner m).tickets } := by
  unfold State.setMark
  cases owner with
  | tare p => rfl
  | line n k role grade =>
    dsimp only
    cases s.ticket? n <;> rfl

/-- A mark set or cleared on the line of a ticket. -/
theorem State.setMark_line {s : State} {n k : Nat} {role : CaptureRole} {grade : Nat} {m : Option Side} {t : Ticket}
    (h : s.ticket? n = some t) :
    s.setMark (.line n k role grade) m = s.putTicket (t.changeLine k fun ln => { ln with mark := m }) := by
  simp [State.setMark, h]

/-- A tare capture has no mark. -/
@[simp] theorem State.setMark_tare (s : State) (p : Text) (m : Option Side) : s.setMark (.tare p) m = s := rfl

/-! ### Holds (R110) -/

/-- A list of tickets released in order changes the ticket table and the ports' attention alone. -/
theorem State.releaseDue_eq (s : State) (ts : List Ticket) :
    s.releaseDue ts = { s with tickets := (s.releaseDue ts).tickets, ports := (s.releaseDue ts).ports } := by
  unfold State.releaseDue
  induction ts generalizing s with
  | nil => rfl
  | cons t ts ih =>
    rw [List.foldl_cons]
    split_ifs
    · rw [ih]; rfl
    · rw [ih]

/-- One property of a port that an offered entry keeps is kept by a list of releases. -/
theorem State.releaseDue_port {α : Type} (f : Port → α) (hf : ∀ q e, f (q.offer e) = f q) (s : State) (ts : List Ticket)
    (p : PortId) : f ((s.releaseDue ts).port p) = f (s.port p) := by
  unfold State.releaseDue
  induction ts generalizing s with
  | nil => rfl
  | cons t ts ih =>
    rw [List.foldl_cons]
    split_ifs
    · rw [ih]
      simp [State.releaseTicket, State.moveTicket, hf]
    · rw [ih]

/-- Two states of one clock whose ports are the same have the same ports after the same event. -/
theorem State.raise_ports_congr {s t : State} (hp : t.ports = s.ports) (hc : t.clock = s.clock) (e : Event) :
    (t.raise e).ports = (s.raise e).ports := by
  unfold State.raise; rw [hp, hc]

/-- The ports after a list of events depend on the ports and the clock before them alone. -/
theorem State.foldl_raise_ports_congr (es : Ticket → Event) (ts : List Ticket) {s t : State} (hp : t.ports = s.ports)
    (hc : t.clock = s.clock) :
    (ts.foldl (fun x k => x.raise (es k)) t).ports = (ts.foldl (fun x k => x.raise (es k)) s).ports := by
  induction ts generalizing s t with
  | nil => exact hp
  | cons k ks ih => exact ih (State.raise_ports_congr hp hc _) hc

/-- The TICKET events of a list of releases, in its order. -/
theorem State.releaseDue_ports (s : State) (ts : List Ticket) :
    (s.releaseDue ts).ports =
      ((ts.filter fun t => t.due s.clock).foldl (fun x t => x.raise (.ticket t.number (some .payable))) s).ports := by
  unfold State.releaseDue
  induction ts generalizing s with
  | nil => rfl
  | cons t ts ih =>
    rw [List.foldl_cons, List.filter_cons]
    split_ifs with h
    · rw [ih, List.foldl_cons]
      exact State.foldl_raise_ports_congr _ _ (State.raise_ports_congr rfl rfl _) rfl
    · exact ih s

/-- A list of different tickets released in order: each that is due is PAYABLE in the table afterwards. -/
theorem State.releaseDue_tickets_of (s : State) (ts : List Ticket) (hn : (ts.map Ticket.number).Nodup) :
    (s.releaseDue ts).tickets = s.tickets.map fun x =>
      match ts.find? fun t => decide (t.number = x.number) && t.due s.clock with
      | some t => { t with state := .payable }
      | none => x := by
  unfold State.releaseDue
  induction ts generalizing s with
  | nil => simp
  | cons t ts ih =>
    rw [List.map_cons, List.nodup_cons] at hn
    rw [List.foldl_cons]
    split_ifs with h
    · rw [ih _ hn.2]
      simp only [State.releaseTicket, State.moveTicket, State.raise, State.putTicket, List.map_map]
      apply List.map_congr_left
      intro x _
      simp only [Function.comp_apply, List.find?_cons]
      by_cases e : x.number = t.number
      · have hx : ∀ k ∈ ts, k.number ≠ t.number := fun k hk hkt => hn.1 (hkt ▸ List.mem_map_of_mem hk)
        have : ts.find? (fun k => decide (k.number = t.number) && k.due s.clock) = none := by
          rw [List.find?_eq_none]; intro k hk; simp [hx k hk]
        simp [e, h, this]
      · simp [e, Ne.symm e]
    · rw [ih s hn.2]
      simp [h]

/-- Every ticket of a table of different numbers whose hold is over is PAYABLE after its release, and the others stay. -/
theorem State.releaseDue_tickets (s : State) (hn : (s.tickets.map Ticket.number).Nodup) :
    (s.releaseDue s.tickets).tickets =
      s.tickets.map fun t => if t.due s.clock then { t with state := .payable } else t := by
  rw [s.releaseDue_tickets_of _ hn]
  apply List.map_congr_left
  intro x hx
  split_ifs with h
  · cases hf : s.tickets.find? (fun t => decide (t.number = x.number) && t.due s.clock) with
    | none => exact absurd (List.find?_eq_none.1 hf x hx) (by simp [h])
    | some t =>
      have h1 := List.find?_some hf
      simp only [Bool.and_eq_true, decide_eq_true_eq] at h1
      rw [List.inj_on_of_nodup_map hn (List.mem_of_find?_eq_some hf) hx h1.1]
  · cases hf : s.tickets.find? (fun t => decide (t.number = x.number) && t.due s.clock) with
    | none => rfl
    | some t =>
      have h1 := List.find?_some hf
      simp only [Bool.and_eq_true, decide_eq_true_eq] at h1
      rw [List.inj_on_of_nodup_map hn (List.mem_of_find?_eq_some hf) hx h1.1] at h1
      exact absurd h1.2 h
end Sys2Proof.Machine
end

