-- ==== Sys2Proof/Laws/Captures.lean ====
section
/-! SUPPORT. The capture slot: what freeing it and ending a capture change (R23, R47, R180), and what a list of endings keeps. -/

namespace Sys2Proof.Machine

@[simp] theorem State.port_setMark (s : State) (owner : CaptureOwner) (m : Option Side) (p : PortId) :
    (s.setMark owner m).port p = s.port p := by rw [State.setMark_eq]; rfl
@[simp] theorem State.channel_setMark (s : State) (owner : CaptureOwner) (m : Option Side) (c : ChannelId) :
    (s.setMark owner m).channel c = s.channel c := by rw [State.setMark_eq]; rfl
@[simp] theorem State.printer_setMark (s : State) (owner : CaptureOwner) (m : Option Side) (r : PrinterId) :
    (s.setMark owner m).printer r = s.printer r := by rw [State.setMark_eq]; rfl

/-- A slot that is free has nothing to free. -/
theorem State.freeSlot_none {s : State} {c : ChannelId} (h : (s.channel c).slot = none) : s.freeSlot c = s := by
  simp [State.freeSlot, h]

/-- Freeing a slot: the slot, its owner's mark, and its port's command in progress. -/
theorem State.freeSlot_some {s : State} {c : ChannelId} {cap : Capture} (h : (s.channel c).slot = some cap) :
    s.freeSlot c =
      ((s.setChannel c { s.channel c with slot := none }).setMark cap.owner none).setPort cap.port
        { s.port cap.port with busy := none } := by
  simp [State.freeSlot, h]

/-- Ending a capture: its slot freed and its port answered. -/
theorem State.endCapture_some {s : State} {c : ChannelId} {cap : Capture} (a : Answer)
    (h : (s.channel c).slot = some cap) : s.endCapture c a = (s.freeSlot c).reply cap.port cap.tag a := by
  simp [State.endCapture, h]

/-- Without a capture there is nothing to end. -/
theorem State.endCapture_none {s : State} {c : ChannelId} (a : Answer) (h : (s.channel c).slot = none) :
    s.endCapture c a = s := by
  simp [State.endCapture, h]

/-- Freeing a slot changes the channels, the ports and the ticket table alone. -/
theorem State.freeSlot_eq (s : State) (c : ChannelId) :
    s.freeSlot c = { s with
      channels := (s.freeSlot c).channels, ports := (s.freeSlot c).ports, tickets := (s.freeSlot c).tickets } := by
  cases h : (s.channel c).slot with
  | none => rw [State.freeSlot_none h]
  | some cap =>
    rw [State.freeSlot_some h, State.setMark_eq]; rfl

/-- Ending a capture changes the channels, the ports and the ticket table alone. -/
theorem State.endCapture_eq (s : State) (c : ChannelId) (a : Answer) :
    s.endCapture c a = { s with
      channels := (s.endCapture c a).channels, ports := (s.endCapture c a).ports
      tickets := (s.endCapture c a).tickets } := by
  cases h : (s.channel c).slot with
  | none => rw [State.endCapture_none a h]
  | some cap => rw [State.endCapture_some a h, State.freeSlot_eq]; rfl

/-- The channels after a slot has been freed. -/
theorem State.channel_freeSlot (s : State) (c d : ChannelId) :
    (s.freeSlot c).channel d = if d = c then { s.channel c with slot := none } else s.channel d := by
  cases h : (s.channel c).slot with
  | none =>
    rw [State.freeSlot_none h]
    split_ifs with e
    · subst e; rw [← h]
    · rfl
  | some cap =>
    rw [State.freeSlot_some h]
    simp only [State.channel_setPort, State.channel_setMark]
    split_ifs with e
    · subst e; simp
    · simp [Ne.symm e]

/-- The channels after a capture has ended. -/
theorem State.channel_endCapture (s : State) (c d : ChannelId) (a : Answer) :
    (s.endCapture c a).channel d = if d = c then { s.channel c with slot := none } else s.channel d := by
  rw [← State.channel_freeSlot]
  cases h : (s.channel c).slot with
  | none => rw [State.endCapture_none a h, State.freeSlot_none h]
  | some cap => rw [State.endCapture_some a h, State.channel_reply]

/-- The ports after a slot has been freed. -/
theorem State.port_freeSlot {s : State} {c : ChannelId} {cap : Capture} (h : (s.channel c).slot = some cap) (q : PortId) :
    (s.freeSlot c).port q = if q = cap.port then { s.port q with busy := none } else s.port q := by
  rw [State.freeSlot_some h]
  split_ifs with e
  · subst e; simp
  · simp [Ne.symm e]

/-- The ports after a capture has ended. -/
theorem State.port_endCapture {s : State} {c : ChannelId} {cap : Capture} (a : Answer)
    (h : (s.channel c).slot = some cap) (q : PortId) :
    (s.endCapture c a).port q =
      if q = cap.port then
        { s.port q with busy := none, out := (s.port q).out ++ [.reply { tag := cap.tag, answer := a }] }
      else s.port q := by
  rw [State.endCapture_some a h]
  by_cases e : q = cap.port
  · subst e; simp [State.reply, State.enqueue, State.port_freeSlot h]
  · simp [State.reply, State.enqueue, State.port_freeSlot h, Ne.symm e, e]

/-- A property that every ending keeps is kept by a list of endings. -/
theorem State.endCaptures_induct (P : State → Prop) (s : State) (which : Capture → Bool)
    (finishOne : State → ChannelId → State) (h0 : P s)
    (h : ∀ t c cap, P t → (t.channel c).slot = some cap → which cap = true → P (finishOne t c)) :
    P (s.endCaptures which finishOne) := by
  unfold State.endCaptures
  generalize List.finRange 4 = l
  induction l generalizing s with
  | nil => exact h0
  | cons c cs ih =>
    rw [List.foldl_cons]
    apply ih
    split
    · exact h0
    · rename_i cap hc
      split_ifs with hw
      · exact h s c cap h0 hc hw
      · exact h0

/-- The channels after a list of endings: exactly the slots whose capture meets the condition are free. -/
theorem State.channel_endCaptures (s : State) (which : Capture → Bool) (finishOne : State → ChannelId → State)
    (hf : ∀ t c d, (finishOne t c).channel d = if d = c then { t.channel c with slot := none } else t.channel d)
    (d : ChannelId) :
    (s.endCaptures which finishOne).channel d =
      if (s.channel d).slot.any which then { s.channel d with slot := none } else s.channel d := by
  unfold State.endCaptures
  have main : ∀ (l : List ChannelId) (t : State), l.Nodup →
      (l.foldl (fun s c => match (s.channel c).slot with
        | none => s
        | some cap => if which cap then finishOne s c else s) t).channel d =
        if d ∈ l ∧ (t.channel d).slot.any which then { t.channel d with slot := none } else t.channel d := by
    intro l
    induction l with
    | nil => intro t _; simp
    | cons c cs ih =>
      intro t hl
      rw [List.nodup_cons] at hl
      rw [List.foldl_cons, ih _ hl.2]
      by_cases e : d = c
      · subst e
        have hd : d ∉ cs := hl.1
        cases hs : (t.channel d).slot with
        | none => simp [hs]
        | some cap => by_cases hw : which cap = true <;> simp [hs, hw, hf, hd]
      · have hx : ((match (t.channel c).slot with
            | none => t
            | some cap => if which cap then finishOne t c else t) : State).channel d = t.channel d := by
          split
          · rfl
          · split_ifs
            · rw [hf, if_neg e]
            · rfl
        rw [hx]
        simp [e]
  refine (main _ _ (List.nodup_finRange 4)).trans ?_
  simp

/-- A ticket with a changed mark has the lines it had but for the marks. -/
theorem Ticket.unmarked_changeMark (t : Ticket) (k : Nat) (m : Option Side) :
    (t.changeLine k fun ln => { ln with mark := m }).unmarked = t.unmarked := by
  unfold Ticket.changeLine Ticket.unmarked
  split_ifs
  · rfl
  · congr 1
    apply List.ext_getElem
    · simp
    · intro i h1 h2
      simp only [List.getElem_map, List.getElem_modify]
      split_ifs <;> rfl

/-- A mark set or cleared keeps the tickets but for their marks. -/
theorem State.setMark_unmarked (s : State) (owner : CaptureOwner) (m : Option Side)
    (hn : (s.tickets.map Ticket.number).Nodup) :
    (s.setMark owner m).tickets.map Ticket.unmarked = s.tickets.map Ticket.unmarked ∧
      (s.setMark owner m).tickets.map Ticket.number = s.tickets.map Ticket.number := by
  cases owner with
  | tare p => simp
  | line n k role grade =>
    cases ht : s.ticket? n with
    | none => simp [State.setMark, ht]
    | some t =>
      rw [State.setMark_line ht]
      refine ⟨?_, State.putTicket_numbers _ _⟩
      simp only [State.putTicket_tickets, List.map_map]
      apply List.map_congr_left
      intro x hx
      simp only [Function.comp_apply]
      split_ifs with e
      · have h1 := State.ticket?_of_mem hn hx
        have h2 : x.number = n := by rw [e]; simp [State.ticket?_number ht]
        rw [h2, ht] at h1
        cases h1
        exact Ticket.unmarked_changeMark _ _ _
      · rfl

/-- A freed slot keeps the tickets but for their marks. -/
theorem State.freeSlot_unmarked (s : State) (c : ChannelId) (hn : (s.tickets.map Ticket.number).Nodup) :
    (s.freeSlot c).tickets.map Ticket.unmarked = s.tickets.map Ticket.unmarked ∧
      (s.freeSlot c).tickets.map Ticket.number = s.tickets.map Ticket.number := by
  cases h : (s.channel c).slot with
  | none => simp [State.freeSlot_none h]
  | some cap => rw [State.freeSlot_some h]; exact State.setMark_unmarked _ _ _ hn

/-- A change of a channel changes the channels and the ports' attention alone. -/
theorem State.changeChannel_eq (s : State) (c : ChannelId) (x : Channel) :
    s.changeChannel c x = { s with
      channels := s.channels.set c x, ports := (s.changeChannel c x).ports } := by
  unfold State.changeChannel; split_ifs <;> rfl

@[simp] theorem State.channel_changeChannel (s : State) (c d : ChannelId) (x : Channel) :
    (s.changeChannel c x).channel d = (s.setChannel c x).channel d := by
  unfold State.changeChannel; split_ifs <;> rfl

/-- One property of a port that an offered entry keeps is kept by a change of a channel. -/
theorem State.changeChannel_port {α : Type} (f : Port → α) (hf : ∀ q e, f (q.offer e) = f q) (s : State) (c : ChannelId)
    (x : Channel) (p : PortId) : f ((s.changeChannel c x).port p) = f (s.port p) := by
  unfold State.changeChannel
  split_ifs
  · rfl
  · simp [hf]

end Sys2Proof.Machine
end

