-- ==== Sys2Proof/Laws/Commands.lean ====
section
/-! SUPPORT. What a step does, and what taking a command packet does, one lemma for each way it can go (Table 9-10). -/

namespace Sys2Proof.Machine

/-- A step on a queue that holds a command. -/
theorem step_of_pending (s : State) (c : Instr) (rest : List Instr) (h : s.pending = c :: rest) :
    step s = exec c { s with pending := rest } := by
  simp [step, h]

/-- A step on an empty queue. -/
theorem step_of_empty (s : State) (h : s.pending = []) : step s = .next s.idle := by
  simp [step, h]

/-- A packet the port looks at is not discarded. -/
theorem State.discards_eq_false (s : State) (k : Packet) (h : s.looksAt k) : s.discards k.port k.tag = false := by
  have h3 := h.2.2.1
  have h4 : ¬ Config.discardAt ≤ (s.port k.port).out.length := by unfold Config.discardAt; omega
  simp [State.discards, h4, h.2.2.2]

/-- While the part takes no events, a packet changes nothing (R196, R197). -/
theorem takeCommand_not_running {α : Type} (b : Bool) (allowed : Role → Bool) (parse : List Byte → Option α)
    (run : α → State → Effect) (k : Packet) (s : State) (h : s.running = false) :
    takeCommand b allowed parse run k s = .next s := by
  simp [takeCommand, State.whileRunning, h]

/-- A packet that the port looks at is admitted (Table 9-10, steps 3 to 7). -/
theorem takeCommand_looksAt {α : Type} (b : Bool) (allowed : Role → Bool) (parse : List Byte → Option α)
    (run : α → State → Effect) (k : Packet) (s : State) (h : s.looksAt k) :
    takeCommand b allowed parse run k s = .next ((s.hunt k.port).passPacket k b allowed parse run) := by
  have hd := s.discards_eq_false k h
  have h2 := h.2.1
  simp [takeCommand, State.whileRunning, h.1, hd, show ¬ 248 < k.params.length by omega]

/-- A packet that meets a command in progress is answered RETRY BUSY (R177, R180). -/
theorem takeCommand_busy {α : Type} (allowed : Role → Bool) (parse : List Byte → Option α)
    (run : α → State → Effect) (k : Packet) (s : State) (h : s.looksAt k) (hb : (s.port k.port).busy ≠ none) :
    takeCommand false allowed parse run k s = .next ((s.hunt k.port).replied k (.stop .busy 0)) := by
  have hb' : (s.port k.port).busy.isSome = true := by simpa [Option.isSome_iff_ne_none] using hb
  rw [takeCommand_looksAt _ _ _ _ _ _ h]
  simp [State.passPacket, hb']

/-- Parameters that do not fit are answered MALFORMED (R177). -/
theorem takeCommand_malformed {α : Type} (b : Bool) (allowed : Role → Bool) (parse : List Byte → Option α)
    (run : α → State → Effect) (k : Packet) (s : State) (h : s.takes k) (hp : parse k.params = none) :
    takeCommand b allowed parse run k s = .next ((s.hunt k.port).replied k (.stop .malformed 0)) := by
  rw [takeCommand_looksAt _ _ _ _ _ _ h.1]
  simp [State.passPacket, h.2, hp]

/-- A role not permitted is answered ROLE (R177, R183). -/
theorem takeCommand_role {α : Type} (b : Bool) (allowed : Role → Bool) (parse : List Byte → Option α)
    (run : α → State → Effect) (k : Packet) (s : State) (h : s.takes k) (a : α) (hp : parse k.params = some a)
    (hr : allowed (s.port k.port).role = false) :
    takeCommand b allowed parse run k s = .next ((s.hunt k.port).replied k (.stop .role 0)) := by
  rw [takeCommand_looksAt _ _ _ _ _ _ h.1]
  simp [State.passPacket, h.2, hp, hr]

/-- A command carried out with a reply at once. -/
theorem takeCommand_answered {α : Type} (b : Bool) (allowed : Role → Bool) (parse : List Byte → Option α)
    (run : α → State → Effect) (k : Packet) (s : State) (h : s.takes k) (a : α) (hp : parse k.params = some a)
    (hr : allowed (s.port k.port).role = true) (t : State) (ans : Answer) (ht : run a (s.hunt k.port) = (t, some ans)) :
    takeCommand b allowed parse run k s = .next (t.replied k ans) := by
  rw [takeCommand_looksAt _ _ _ _ _ _ h.1]
  simp [State.passPacket, h.2, hp, hr, ht]

/-- A command carried out without a reply: a capture that waits, or a restart. -/
theorem takeCommand_silent {α : Type} (b : Bool) (allowed : Role → Bool) (parse : List Byte → Option α)
    (run : α → State → Effect) (k : Packet) (s : State) (h : s.takes k) (a : α) (hp : parse k.params = some a)
    (hr : allowed (s.port k.port).role = true) (t : State) (ht : run a (s.hunt k.port) = (t, none)) :
    takeCommand b allowed parse run k s = .next t := by
  rw [takeCommand_looksAt _ _ _ _ _ _ h.1]
  simp [State.passPacket, h.2, hp, hr, ht]

/-! ### A port after its receiver has returned to HUNTING -/

theorem State.hunt_port_role (s : State) (p q : PortId) : ((s.hunt p).port q).role = (s.port q).role := by
  by_cases h : p = q <;> simp [h]

theorem State.hunt_port_defaultPrinter (s : State) (p q : PortId) : ((s.hunt p).port q).defaultPrinter = (s.port q).defaultPrinter := by
  by_cases h : p = q <;> simp [h]

theorem State.hunt_port_out (s : State) (p q : PortId) : ((s.hunt p).port q).out = (s.port q).out := by
  by_cases h : p = q <;> simp [h]

theorem State.hunt_port_busy (s : State) (p q : PortId) : ((s.hunt p).port q).busy = (s.port q).busy := by
  by_cases h : p = q <;> simp [h]

theorem State.hunt_port_attention (s : State) (p q : PortId) : ((s.hunt p).port q).attention = (s.port q).attention := by
  by_cases h : p = q <;> simp [h]

theorem State.hunt_port_overflow (s : State) (p q : PortId) : ((s.hunt p).port q).overflow = (s.port q).overflow := by
  by_cases h : p = q <;> simp [h]

theorem State.hunt_port_subscription (s : State) (p q : PortId) : ((s.hunt p).port q).subscription = (s.port q).subscription := by
  by_cases h : p = q <;> simp [h]

theorem State.hunt_port_release (s : State) (p q : PortId) : ((s.hunt p).port q).release = (s.port q).release := by
  by_cases h : p = q <;> simp [h]

theorem State.hunt_port_drawer (s : State) (p q : PortId) : ((s.hunt p).port q).drawer = (s.port q).drawer := by
  by_cases h : p = q <;> simp [h]

/-- A refused command leaves the part as it was. -/
@[simp] theorem State.refuse_eq (s : State) (r : Reason) : s.refuse r = (s, some (.stop r 0)) := rfl

/-- A command that ends DONE. -/
@[simp] theorem State.finish_eq (s : State) (data : List Byte) : s.finish data = (s, some (.success data)) := rfl

/-- The common checks of a ticket request, when they pass (R32). -/
theorem State.withTicket_eq (s : State) (inRange : Bool) (n : Nat) (allowed : TicketState → Bool)
    (run : Ticket → Effect) (t : Ticket) (hn : ticketNumberOk n = true) (hr : inRange = true) (ht : s.ticket? n = some t)
    (ha : allowed t.state = true) : s.withTicket inRange n allowed run = run t := by
  simp [State.withTicket, hn, hr, ht, ha]

/-- The common checks of a request that names a line, when they pass (R32). -/
theorem State.withLine_eq (s : State) (inRange : Bool) (n k : Nat) (allowed : TicketState → Bool)
    (run : Ticket → Line → Effect) (t : Ticket) (ln : Line) (hn : ticketNumberOk n = true) (hk : positionOk k = true)
    (hr : inRange = true) (ht : s.ticket? n = some t) (ha : allowed t.state = true) (hl : t.line? k = some ln) :
    s.withLine inRange n k allowed run = run t ln := by
  simp [State.withLine, State.withTicket, hn, hk, hr, ht, ha, hl]

end Sys2Proof.Machine
end

