-- ==== Sys2Proof/Laws/Pool.lean ====
section
/-! SUPPORT. The job pool and the printer lines: what each shared operation of the print engine changes, and what it leaves (chapter 7). -/

namespace Sys2Proof.Machine

/-! ### What the pool operations leave -/

/-- A state differs from another in its pool, its printers and its ports' attention at most. -/
def State.PoolStep (s t : State) : Prop :=
  t = { s with jobs := t.jobs, printers := t.printers, ports := t.ports } ∧
    ∀ p, t.port p = { s.port p with attention := (t.port p).attention, overflow := (t.port p).overflow }

theorem State.PoolStep.refl (s : State) : s.PoolStep s := ⟨rfl, fun _ => rfl⟩

theorem State.PoolStep.trans {s t u : State} (h1 : s.PoolStep t) (h2 : t.PoolStep u) : s.PoolStep u := by
  refine ⟨?_, fun p => ?_⟩
  · rw [h2.1, h1.1]
  · rw [h2.2 p, h1.2 p]

theorem State.PoolStep.tickets {s t : State} (h : s.PoolStep t) : t.tickets = s.tickets := by rw [h.1]
theorem State.PoolStep.ticket? {s t : State} (h : s.PoolStep t) (n : Nat) : t.ticket? n = s.ticket? n := by rw [h.1]; rfl
theorem State.PoolStep.channels {s t : State} (h : s.PoolStep t) : t.channels = s.channels := by rw [h.1]
theorem State.PoolStep.out {s t : State} (h : s.PoolStep t) (p : PortId) : (t.port p).out = (s.port p).out := by rw [h.2 p]
theorem State.PoolStep.busy {s t : State} (h : s.PoolStep t) (p : PortId) : (t.port p).busy = (s.port p).busy := by rw [h.2 p]
theorem State.PoolStep.drawer {s t : State} (h : s.PoolStep t) (p : PortId) : (t.port p).drawer = (s.port p).drawer := by
  rw [h.2 p]
theorem State.PoolStep.role {s t : State} (h : s.PoolStep t) (p : PortId) : (t.port p).role = (s.port p).role := by rw [h.2 p]

/-- An offered entry changes the attention and the overflow of a port alone. -/
theorem Port.offer_eq (q : Port) (e : Entry) :
    q.offer e = { q with attention := (q.offer e).attention, overflow := (q.offer e).overflow } := by
  unfold Port.offer Port.enqueueAttention; split_ifs <;> rfl

theorem State.poolStep_raise (s : State) (e : Event) : s.PoolStep (s.raise e) :=
  ⟨rfl, fun p => by rw [State.port_raise]; exact Port.offer_eq _ _⟩

theorem State.poolStep_setPrinter (s : State) (r : PrinterId) (x : Printer) : s.PoolStep (s.setPrinter r x) :=
  ⟨rfl, fun _ => rfl⟩

theorem State.poolStep_jobs (s : State) (js : List Job) : s.PoolStep { s with jobs := js } := ⟨rfl, fun _ => rfl⟩

theorem State.poolStep_raisePrinter (s : State) (r : PrinterId) : s.PoolStep (s.raisePrinter r) := s.poolStep_raise _

theorem State.poolStep_closeReceipt (s : State) (r : PrinterId) : s.PoolStep (s.closeReceipt r) := by
  unfold State.closeReceipt State.sendEnd
  split_ifs <;> exact s.poolStep_setPrinter _ _

theorem State.poolStep_setLock (s : State) (r : PrinterId) (l : Lock) : s.PoolStep (s.setLock r l) := by
  unfold State.setLock
  split_ifs
  · exact .refl s
  · exact (s.poolStep_setPrinter _ _).trans (State.poolStep_raisePrinter _ _)

theorem State.poolStep_settleLock (s : State) (r : PrinterId) : s.PoolStep (s.settleLock r) := by
  unfold State.settleLock
  split
  · split_ifs
    · exact .refl s
    · exact s.poolStep_setLock _ _
  · exact .refl s
  · exact .refl s

theorem State.poolStep_leavePool (s : State) (j : Job) (o : JobOutcome) : s.PoolStep (s.leavePool j o) := by
  unfold State.leavePool
  have h := (s.poolStep_jobs (s.jobs.filter fun x => decide (x.id ≠ j.id))).trans
    (State.poolStep_raise _ (.job j.id o (j.total - j.printed)))
  dsimp only
  split_ifs
  · exact h.trans (State.poolStep_closeReceipt _ _)
  · exact h

theorem State.poolStep_cancelOne (s : State) (j : Job) : s.PoolStep (s.cancelOne j) :=
  (s.poolStep_leavePool j .cancelled).trans (State.poolStep_settleLock _ _)

theorem State.poolStep_cancelWhere (s : State) (p : Job → Bool) : s.PoolStep (s.cancelWhere p) := by
  unfold State.cancelWhere
  generalize s.jobs.filter p = l
  induction l generalizing s with
  | nil => exact .refl s
  | cons j js ih => exact (s.poolStep_cancelOne j).trans (ih _)

theorem State.poolStep_putJob (s : State) (j : Job) : s.PoolStep (s.putJob j) := s.poolStep_jobs _

theorem State.poolStep_requeue (s : State) (j : Job) : s.PoolStep (s.requeue j) :=
  (s.poolStep_putJob _).trans (State.poolStep_closeReceipt _ _)

theorem State.poolStep_releaseLocks (s : State) (p : PortId) : s.PoolStep (s.releaseLocks p) := by
  unfold State.releaseLocks
  generalize List.finRange 2 = l
  induction l generalizing s with
  | nil => exact .refl s
  | cons r rs ih =>
    rw [List.foldl_cons]
    split_ifs
    · exact (s.poolStep_setLock r .none).trans (ih _)
    · exact ih _

/-! ### The pool after each operation -/

@[simp] theorem State.closeReceipt_jobs (s : State) (r : PrinterId) : (s.closeReceipt r).jobs = s.jobs := by
  unfold State.closeReceipt State.sendEnd; split_ifs <;> rfl
@[simp] theorem State.setLock_jobs (s : State) (r : PrinterId) (l : Lock) : (s.setLock r l).jobs = s.jobs := by
  unfold State.setLock; split_ifs <;> rfl
@[simp] theorem State.settleLock_jobs (s : State) (r : PrinterId) : (s.settleLock r).jobs = s.jobs := by
  unfold State.settleLock; split
  · split_ifs
    · rfl
    · exact s.setLock_jobs _ _
  · rfl
  · rfl
@[simp] theorem State.leavePool_jobs (s : State) (j : Job) (o : JobOutcome) :
    (s.leavePool j o).jobs = s.jobs.filter fun x => decide (x.id ≠ j.id) := by
  unfold State.leavePool; dsimp only; split_ifs
  · rw [State.closeReceipt_jobs]; rfl
  · rfl
@[simp] theorem State.cancelOne_jobs (s : State) (j : Job) :
    (s.cancelOne j).jobs = s.jobs.filter fun x => decide (x.id ≠ j.id) := by
  rw [State.cancelOne, State.settleLock_jobs, State.leavePool_jobs]
@[simp] theorem State.requeue_jobs (s : State) (j : Job) :
    (s.requeue j).jobs = s.jobs.map fun x => if x.id = j.id then { j with state := .queued, printed := 0 } else x := by
  rw [State.requeue, State.closeReceipt_jobs]; rfl
@[simp] theorem State.releaseLocks_jobs (s : State) (p : PortId) : (s.releaseLocks p).jobs = s.jobs := by
  unfold State.releaseLocks
  generalize List.finRange 2 = l
  induction l generalizing s with
  | nil => rfl
  | cons r rs ih => rw [List.foldl_cons]; split_ifs <;> simp [ih]

/-- The pool after the jobs of a list have been cancelled one by one. -/
theorem State.foldl_cancelOne_jobs (s : State) (l : List Job) :
    (l.foldl State.cancelOne s).jobs = s.jobs.filter fun x => decide (∀ j ∈ l, x.id ≠ j.id) := by
  induction l generalizing s with
  | nil => simp
  | cons j js ih => rw [List.foldl_cons, ih, State.cancelOne_jobs, List.filter_filter]; congr 1; funext x; simp [Bool.and_comm]

/-- In a pool of different ids, the jobs that meet a condition leave it and the others stay. -/
theorem State.cancelWhere_jobs {s : State} (hid : (s.jobs.map Job.id).Nodup) (p : Job → Bool) :
    (s.cancelWhere p).jobs = s.jobs.filter fun j => !p j := by
  rw [State.cancelWhere, State.foldl_cancelOne_jobs]
  apply List.filter_congr
  intro x hx
  cases hp : p x with
  | true =>
    simp only [Bool.not_true, decide_eq_false_iff_not]
    exact fun h => h x (List.mem_filter.2 ⟨hx, hp⟩) rfl
  | false =>
    simp only [Bool.not_false, decide_eq_true_eq]
    intro j hj e
    have hj' := List.mem_filter.1 hj
    have : x = j := List.inj_on_of_nodup_map hid hx hj'.1 e
    rw [this, hj'.2] at hp
    exact Bool.noConfusion hp

/-- A job that stays after a cancellation was in the pool before. -/
theorem State.mem_cancelWhere {s : State} {p : Job → Bool} {j : Job} (h : j ∈ (s.cancelWhere p).jobs) : j ∈ s.jobs := by
  rw [State.cancelWhere, State.foldl_cancelOne_jobs] at h
  exact (List.mem_filter.1 h).1

/-! ### The printers after each operation -/

/-- A closed receipt changes its printer's line alone. -/
theorem State.closeReceipt_printer (s : State) (r v : PrinterId) :
    (s.closeReceipt r).printer v =
      if v = r then
        (if (s.printer r).awaited = none then
          { s.printer r with sent := (s.printer r).sent ++ [.fin], closeOwed := false }
        else { s.printer r with closeOwed := true })
      else s.printer v := by
  unfold State.closeReceipt State.sendEnd
  by_cases e : v = r
  · subst e
    cases h : (s.printer v).awaited <;> simp
  · cases h : (s.printer r).awaited <;> simp [Ne.symm e, e]

/-- A lock set changes its printer's lock alone. -/
theorem State.setLock_printer (s : State) (r v : PrinterId) (l : Lock) :
    (s.setLock r l).printer v = if v = r then { s.printer r with lock := l } else s.printer v := by
  unfold State.setLock State.raisePrinter
  by_cases e : v = r
  · subst e
    rw [if_pos rfl]
    split_ifs with h
    · rw [← h]
    · simp
  · rw [if_neg e]
    split_ifs with h
    · rfl
    · simp [Ne.symm e]

/-- A lock settled changes its printer's lock alone. -/
theorem State.settleLock_printer (s : State) (r v : PrinterId) :
    (s.settleLock r).printer v = { s.printer v with lock := ((s.settleLock r).printer v).lock } ∧
      (v ≠ r → (s.settleLock r).printer v = s.printer v) := by
  unfold State.settleLock
  split
  · split_ifs
    · exact ⟨rfl, fun _ => rfl⟩
    · rw [State.setLock_printer]
      refine ⟨?_, fun h => if_neg h⟩
      split_ifs with e
      · rw [e]
      · rfl
  · exact ⟨rfl, fun _ => rfl⟩
  · exact ⟨rfl, fun _ => rfl⟩

/-! ### The next job id (R133) -/

/-- A number that is free at the start of a search is reached at once. -/
theorem passesOver_start (next : Nat → Nat) (taken : Nat → Prop) (n : Nat) : passesOver next taken n n :=
  ⟨0, rfl, fun _ h => absurd h (Nat.not_lt_zero _)⟩

/-- A taken number passed over at the start of a search. -/
theorem passesOver_next {next : Nat → Nat} {taken : Nat → Prop} {a n : Nat} (ha : taken a) (h : passesOver next taken (next a) n) :
    passesOver next taken a n := by
  obtain ⟨m, hn, hm⟩ := h
  refine ⟨m + 1, by rw [hn, Function.iterate_succ_apply], fun i hi => ?_⟩
  cases i with
  | zero => exact ha
  | succ i => rw [Function.iterate_succ_apply]; exact hm i (Nat.lt_of_succ_lt_succ hi)

/-- The search for a job id passes over the ids of the pool alone. -/
theorem freeJobId_passesOver (jobs : List Job) (fuel n : Nat) :
    passesOver advanceJob (fun m => ∃ x ∈ jobs, x.id = m) n (freeJobId jobs fuel n) := by
  induction fuel generalizing n with
  | zero => exact passesOver_start _ _ _
  | succ fuel ih =>
    unfold freeJobId
    split_ifs with h
    · exact passesOver_next (by simpa using h) (ih _)
    · exact passesOver_start _ _ _

/-! ### New jobs and the owed-receipt service (R133, R137) -/

/-- A job added to the pool. -/
theorem State.addJob_eq (s : State) (j : Job) :
    s.addJob j = { s with
      jobs := s.jobs ++ [{ j with id := s.newJobId, age := s.nextAge, state := .queued, printed := 0, frozen := none }]
      nextJob := advanceJob s.newJobId, nextAge := s.nextAge + 1 } := rfl

/-- A run of the service over a list changes the pool and its counters alone, and only adds jobs that are QUEUED, with nothing
printed and serving a receipt of the list, while there is room. -/
theorem State.foldl_serveOne (s : State) (l : List OwedItem) :
    ∃ added, l.foldl State.serveOne s =
        { s with jobs := s.jobs ++ added, nextJob := (l.foldl State.serveOne s).nextJob, nextAge := s.nextAge + added.length }
      ∧ (∀ j ∈ added, j.state = .queued ∧ j.printed = 0 ∧ ∃ x ∈ l, j.source = x.source)
      ∧ (12 ≤ s.jobs.length → added = []) ∧ (s.jobs.length ≤ 12 → (s.jobs ++ added).length ≤ 12) := by
  induction l generalizing s with
  | nil => exact ⟨[], by simp, by simp, fun _ => rfl, by simp⟩
  | cons x xs ih =>
    rw [List.foldl_cons]
    obtain ⟨added, h1, h2, h3, h4⟩ := ih (s.serveOne x)
    by_cases hc : s.jobs.length < Config.maxJobs ∧ s.served x = false ∧ s.blocked x = false
    · have hs : s.serveOne x = s.addJob (s.jobFor x) := by rw [State.serveOne, if_pos hc]
      have hl : s.jobs.length < 12 := hc.1
      have hsrc : (s.jobFor x).source = x.source := by cases x <;> rfl
      refine ⟨{ s.jobFor x with id := s.newJobId, age := s.nextAge, state := .queued, printed := 0, frozen := none } :: added,
        ?_, ?_, fun h => absurd h (by omega), ?_⟩
      · rw [h1, hs, State.addJob_eq]
        simp only [List.append_assoc, List.singleton_append, List.length_cons]
        congr 1; omega
      · intro j hj
        rcases List.mem_cons.1 hj with rfl | hj
        · exact ⟨rfl, rfl, x, List.mem_cons_self, hsrc⟩
        · obtain ⟨a, b, y, hy, e⟩ := h2 j hj
          exact ⟨a, b, y, List.mem_cons_of_mem _ hy, e⟩
      · intro _
        rw [hs, State.addJob_eq] at h4
        have := h4 (by simp; omega)
        simp at this ⊢; omega
    · have hs : s.serveOne x = s := by rw [State.serveOne, if_neg hc]
      rw [hs] at h1 h3 h4 ⊢
      exact ⟨added, h1, fun j hj => let ⟨a, b, y, hy, e⟩ := h2 j hj; ⟨a, b, y, List.mem_cons_of_mem _ hy, e⟩, h3, h4⟩

/-! ### The ports and the printers after the operations of the pool -/

/-- A closed receipt raises no event. -/
@[simp] theorem State.closeReceipt_ports (s : State) (r : PrinterId) : (s.closeReceipt r).ports = s.ports := by
  unfold State.closeReceipt State.sendEnd; split_ifs <;> rfl

/-- A job returned to QUEUED raises no event. -/
@[simp] theorem State.requeue_ports (s : State) (j : Job) : (s.requeue j).ports = s.ports := by
  rw [State.requeue, State.closeReceipt_ports]; rfl

/-- A job that leaves the pool raises one JOB event (R145, R148, R154). -/
theorem State.leavePool_ports (s : State) (j : Job) (o : JobOutcome) :
    (s.leavePool j o).ports = (s.raise (.job j.id o (j.total - j.printed))).ports := by
  unfold State.leavePool
  dsimp only
  split_ifs
  · rw [State.closeReceipt_ports]; rfl
  · rfl

/-- A job that leaves the pool closes the receipt it began unless it is DONE (R149). -/
theorem State.leavePool_printer (s : State) (j : Job) (o : JobOutcome) (v : PrinterId) :
    (s.leavePool j o).printer v =
      if j.active = true ∧ o ≠ .printed then (s.closeReceipt j.printer).printer v else s.printer v := by
  unfold State.leavePool
  by_cases h : j.active = true ∧ o ≠ .printed
  · rw [if_pos h]
    simp only [h.1, h.2, ne_eq, not_false_eq_true, decide_true, Bool.and_self, if_true]
    rw [State.closeReceipt_printer, State.closeReceipt_printer]
    rfl
  · rw [if_neg h]
    have : (j.active && decide (o ≠ .printed)) = false := by
      cases ha : j.active <;> simp_all
    simp only [this]
    rfl

/-- A job returned to QUEUED closes the receipt it began (R147, R149). -/
@[simp] theorem State.requeue_printer (s : State) (j : Job) (v : PrinterId) :
    (s.requeue j).printer v = (s.closeReceipt j.printer).printer v := by
  rw [State.requeue, State.closeReceipt_printer, State.closeReceipt_printer]
  rfl

/-- A PENDING lock without a PRINTING job on its printer becomes LOCKED with one PRINTER event (R152). -/
theorem State.settleLock_pending {s : State} {r : PrinterId} {p : PortId} (h : (s.printer r).lock = .pending p)
    (hj : ∀ j ∈ s.jobs, j.printer = r → j.state ≠ .printing) :
    s.settleLock r =
      (s.setPrinter r { s.printer r with lock := .locked p }).raise (.printer r (s.printer r).status (.locked p)) := by
  have : (s.jobs.any fun j => decide (j.printer = r) && decide (j.state = .printing)) = false := by
    rw [List.any_eq_false]
    intro j hm
    have := hj j hm
    simp only [Bool.and_eq_true, decide_eq_true_eq, not_and]
    exact this
  unfold State.settleLock
  rw [h]
  simp only [this]
  simp [State.setLock, h, State.raisePrinter]

/-- A lock that is not PENDING stays. -/
theorem State.settleLock_eq_self {s : State} {r : PrinterId} (h : ∀ p, (s.printer r).lock ≠ .pending p) : s.settleLock r = s := by
  unfold State.settleLock
  split
  · exact absurd ‹_› (h _)
  · rfl
  · rfl

/-- A PENDING lock stays while a job is PRINTING on its printer. -/
theorem State.settleLock_waits {s : State} {r : PrinterId} {j : Job} (hj : j ∈ s.jobs) (hr : j.printer = r)
    (hp : j.state = .printing) : s.settleLock r = s := by
  have : (s.jobs.any fun j => decide (j.printer = r) && decide (j.state = .printing)) = true :=
    List.any_eq_true.2 ⟨j, hj, by simp [hr, hp]⟩
  unfold State.settleLock
  split
  · simp [this]
  · rfl
  · rfl

/-! ### Retirement (R54, R157) -/

/-- With fewer than 8 snapshots a retirement drops none: the snapshot joins, the ticket leaves, its copies follow it, and one
TICKET event is raised. -/
theorem State.retire_eq {s : State} (t : Ticket) (h : s.snapshots.length < 8) :
    s.retire t = ({ s with
      snapshots := s.snapshots ++ [t]
      tickets := s.tickets.filter fun x => decide (x.number ≠ t.number)
      jobs := s.jobs.map fun j => { j with source := j.source.follow t.number s.snapshots.length } } : State).raise
        (.ticket t.number none) := by
  unfold State.retire State.dropOldest
  rw [if_neg]
  simp [Config.maxSnapshots]; omega

/-- Dropping the oldest snapshot changes the pool, the printers, the ports' attention and the reprint store alone. -/
theorem State.dropOldest_eq (s : State) :
    s.PoolStep { s.dropOldest with snapshots := s.snapshots } := by
  unfold State.dropOldest
  split_ifs
  · have h := s.poolStep_cancelWhere fun j => decide (j.source = .copySnapshot 0)
    refine ⟨?_, h.2⟩
    have h1 := h.1
    simp only at h1 ⊢
    rw [h1]
  · exact ⟨rfl, fun _ => rfl⟩

/-! ### The awaited answer, which no operation of the pool changes -/

theorem State.closeReceipt_awaited (s : State) (r v : PrinterId) :
    ((s.closeReceipt r).printer v).awaited = (s.printer v).awaited := by
  rw [State.closeReceipt_printer]
  split_ifs with h
  · rw [h]
  · rw [h]
  · rfl

theorem State.leavePool_awaited (s : State) (j : Job) (o : JobOutcome) (v : PrinterId) :
    ((s.leavePool j o).printer v).awaited = (s.printer v).awaited := by
  rw [State.leavePool_printer]
  split_ifs
  · exact s.closeReceipt_awaited _ _
  · rfl

theorem State.settleLock_awaited (s : State) (r v : PrinterId) :
    ((s.settleLock r).printer v).awaited = (s.printer v).awaited := by
  rw [(s.settleLock_printer r v).1]

theorem State.cancelOne_awaited (s : State) (j : Job) (v : PrinterId) :
    ((s.cancelOne j).printer v).awaited = (s.printer v).awaited := by
  rw [State.cancelOne, State.settleLock_awaited, State.leavePool_awaited]

theorem State.cancelWhere_awaited (s : State) (p : Job → Bool) (v : PrinterId) :
    ((s.cancelWhere p).printer v).awaited = (s.printer v).awaited := by
  unfold State.cancelWhere
  generalize s.jobs.filter p = l
  induction l generalizing s with
  | nil => rfl
  | cons j js ih => rw [List.foldl_cons, ih, State.cancelOne_awaited]

theorem State.dropOldest_awaited (s : State) (v : PrinterId) :
    (s.dropOldest.printer v).awaited = (s.printer v).awaited := by
  unfold State.dropOldest
  split_ifs
  · exact s.cancelWhere_awaited _ _
  · rfl

theorem State.retire_awaited (s : State) (t : Ticket) (v : PrinterId) :
    ((s.retire t).printer v).awaited = (s.printer v).awaited := by
  unfold State.retire
  dsimp only
  rw [State.dropOldest_awaited]
  rfl

/-- A retired ticket leaves the table, and the others stay. -/
theorem State.retire_ticket? (s : State) (t : Ticket) (m : Nat) :
    (s.retire t).ticket? m = if m = t.number then none else s.ticket? m := by
  have h : (s.retire t).tickets = s.tickets.filter fun x => decide (x.number ≠ t.number) := by
    unfold State.retire
    dsimp only
    rw [show ∀ x : State, x.dropOldest.tickets = x.tickets from fun x => x.dropOldest_eq.tickets]
    rfl
  unfold State.ticket?
  rw [h, List.find?_filter]
  split_ifs with e
  · subst e
    rw [List.find?_eq_none]
    intro x _
    simp
  · congr 1
    funext x
    by_cases hx : x.number = m
    · have : x.number ≠ t.number := fun k => e (hx ▸ k)
      simp [hx, e]
    · simp [hx]

/-- A PAID or VOID ticket that owes nothing and that no job other than a COPY refers to is retired (R54). -/
theorem State.retireIfDone_eq_retire {s : State} {n : Nat} {t : Ticket} (ht : s.ticket? n = some t)
    (hf : t.state = .paid ∨ t.state = .voided) (ho : t.owed = none) (hr : ∀ j ∈ s.jobs, j.refersTo n = false) :
    s.retireIfDone n = s.retire t := by
  have h1 : t.finished = true := by rcases hf with h | h <;> simp [Ticket.finished, h]
  have h2 : s.referred n = false := by
    unfold State.referred
    rw [List.any_eq_false]
    intro j hj
    simp [hr j hj]
  simp [State.retireIfDone, ht, h1, ho, h2]

/-- A ticket that is not PAID or VOID, owes a receipt, or has a job other than a COPY referring to it stays. -/
theorem State.retireIfDone_eq_self {s : State} {n : Nat}
    (h : ∀ t, s.ticket? n = some t → (t.state ≠ .paid ∧ t.state ≠ .voided) ∨ t.owed ≠ none ∨ ∃ j ∈ s.jobs, j.refersTo n = true) :
    s.retireIfDone n = s := by
  unfold State.retireIfDone
  cases ht : s.ticket? n with
  | none => rfl
  | some t =>
    dsimp only
    rw [if_neg]
    intro hc
    simp only [Bool.and_eq_true, Bool.not_eq_true', Option.isNone_iff_eq_none] at hc
    rcases h t ht with h1 | h1 | ⟨j, hj, h1⟩
    · simp [Ticket.finished, h1.1, h1.2] at hc
    · exact h1 hc.1.2
    · have := hc.2
      unfold State.referred at this
      rw [List.any_eq_false] at this
      exact this j hj h1

/-! ### A fault of a printer, and its status (R130, R132, R147, R148) -/

/-- The job TAKEN or PRINTING on a printer is in the pool and on that printer. -/
theorem State.activeJob?_spec {s : State} {r : PrinterId} {j : Job} (h : s.activeJob? r = some j) :
    j ∈ s.jobs ∧ j.printer = r ∧ j.active = true := by
  have h1 := List.find?_some h
  simp only [Bool.and_eq_true, decide_eq_true_eq] at h1
  exact ⟨List.mem_of_find?_eq_some h, h1.1, h1.2⟩

/-- The retirement that the end of a job may cause. -/
theorem State.abort_retire_cases (s : State) (j : Job) (x : State)
    (hx : x = match j.source with
      | .owed n _ => s.retireIfDone n
      | .copyTicket _ => s
      | .copySnapshot _ => s
      | .report _ => s) :
    x = s ∨ ∃ n stamp t, j.source = .owed n stamp ∧ s.ticket? n = some t ∧ t.finished = true ∧ t.owed = none ∧
      s.referred n = false ∧ x = s.retire t := by
  subst hx
  split
  · rename_i n stamp heq
    unfold State.retireIfDone
    split
    · exact .inl rfl
    · rename_i t ht
      split_ifs with hc
      · simp only [Bool.and_eq_true, Bool.not_eq_true', Option.isNone_iff_eq_none] at hc
        exact .inr ⟨n, stamp, t, heq, ht, hc.1.1, hc.1.2, hc.2, rfl⟩
      · exact .inl rfl
  · exact .inl rfl
  · exact .inl rfl
  · exact .inl rfl

/-- A LOCKED lock stays. -/
theorem State.settleLock_locked {s : State} {r : PrinterId} {p : PortId} (h : (s.printer r).lock = .locked p) :
    s.settleLock r = s := State.settleLock_eq_self (fun q => by rw [h]; simp)

/-- A lock NONE stays. -/
theorem State.settleLock_none {s : State} {r : PrinterId} (h : (s.printer r).lock = .none) :
    s.settleLock r = s := State.settleLock_eq_self (fun q => by rw [h]; simp)


/-- A lock settled stays, or goes from PENDING to LOCKED of its port. -/
theorem State.settleLock_lock (s : State) (r v : PrinterId) :
    ((s.settleLock r).printer v).lock = (s.printer v).lock ∨
      ∃ p, (s.printer v).lock = .pending p ∧ ((s.settleLock r).printer v).lock = .locked p := by
  by_cases e : v = r
  · subst e
    unfold State.settleLock
    split
    · rename_i p hp
      split_ifs
      · exact .inl rfl
      · right; exact ⟨p, hp, by simp [State.setLock_printer]⟩
    · exact .inl rfl
    · exact .inl rfl
  · rw [(s.settleLock_printer r v).2 e]; exact .inl rfl

/-- A job that leaves the pool changes no lock. -/
theorem State.leavePool_lock (s : State) (j : Job) (o : JobOutcome) (v : PrinterId) :
    ((s.leavePool j o).printer v).lock = (s.printer v).lock := by
  rw [State.leavePool_printer]
  split_ifs
  · rw [State.closeReceipt_printer]; split_ifs with h
    · rw [h]
    · rw [h]
    · rfl
  · rfl

/-- A cancellation leaves each lock, or takes it from PENDING to LOCKED of its port. -/
theorem State.cancelWhere_lock (s : State) (p : Job → Bool) (v : PrinterId) :
    ((s.cancelWhere p).printer v).lock = (s.printer v).lock ∨
      ∃ q, (s.printer v).lock = .pending q ∧ ((s.cancelWhere p).printer v).lock = .locked q := by
  unfold State.cancelWhere
  generalize s.jobs.filter p = l
  induction l generalizing s with
  | nil => exact .inl rfl
  | cons j js ih =>
    rw [List.foldl_cons]
    have h0 := (s.leavePool j .cancelled).settleLock_lock j.printer v
    rw [State.leavePool_lock] at h0
    rcases ih (s.cancelOne j) with h | ⟨q, h, h'⟩
    · rcases h0 with g | ⟨q, g, g'⟩
      · exact .inl (h.trans g)
      · exact .inr ⟨q, g, h.trans g'⟩
    · rcases h0 with g | ⟨q', g, g'⟩
      · exact .inr ⟨q, g ▸ h, h'⟩
      · rw [State.cancelOne, g'] at h; cases h

/-- A retirement leaves each lock, or takes it from PENDING to LOCKED of its port. -/
theorem State.retire_lock (s : State) (t : Ticket) (v : PrinterId) :
    ((s.retire t).printer v).lock = (s.printer v).lock ∨
      ∃ q, (s.printer v).lock = .pending q ∧ ((s.retire t).printer v).lock = .locked q := by
  unfold State.retire State.dropOldest
  dsimp only
  split_ifs
  · exact State.cancelWhere_lock _ _ v
  · exact .inl rfl

/-- A retirement puts no job into PRINTING. -/
theorem State.retire_noPrinting {s : State} {r : PrinterId} (h : ∀ y ∈ s.jobs, y.printer = r → y.state ≠ .printing) (t : Ticket) :
    ∀ y ∈ (s.retire t).jobs, y.printer = r → y.state ≠ .printing := by
  intro y hy
  unfold State.retire State.dropOldest at hy
  dsimp only at hy
  have key : ∀ y ∈ s.jobs.map (fun j => { j with source := j.source.follow t.number s.snapshots.length }),
      y.printer = r → y.state ≠ .printing := by
    intro y hy
    obtain ⟨z, hz, rfl⟩ := List.mem_map.1 hy
    exact h z hz
  split_ifs at hy
  · obtain ⟨z, hz, rfl⟩ := List.mem_map.1 hy
    exact key z (State.mem_cancelWhere hz)
  · exact key y hy

/-- A status set changes what `State.statusBecomes` says, and the events it names come in its order (R130, R132, R147, R148). -/
theorem State.setStatus_becomes (s : State) (r : PrinterId) (v : PrinterStatus) :
    s.statusBecomes r v (s.setStatus r v) := by
  unfold State.statusBecomes
  refine ⟨?_, ?_, ?_, ?_⟩
  · intro h; simp [State.setStatus, h]
  · intro h h2
    unfold State.setStatus
    simp only [if_neg h]
    have : (if ((s.printer r).status.usable && !v.usable) = true then
        (s.setPrinter r { s.printer r with status := v }).printerFault r else s.setPrinter r { s.printer r with status := v }) =
        s.setPrinter r { s.printer r with status := v } := by
      rcases h2 with h2 | h2 | h2
      · simp [h2]
      · simp [h2]
      · split_ifs
        · unfold State.printerFault
          have : (s.setPrinter r { s.printer r with status := v }).activeJob? r = none := h2
          rw [this]
        · rfl
    rw [this]
    simp [State.raisePrinter]
  · intro j h1 h2 hj hs
    have hne : (s.printer r).status ≠ v := fun e => by rw [e, h2] at h1; cases h1
    obtain ⟨hm, hr, ha⟩ := State.activeJob?_spec hj
    subst hr
    have hu : s.setStatus j.printer v =
        (((s.setPrinter j.printer { s.printer j.printer with status := v }).requeue j)).raisePrinter j.printer := by
      unfold State.setStatus
      simp only [if_neg hne, h1, h2, Bool.not_false, Bool.and_self, if_true]
      congr 1
      unfold State.printerFault
      rw [show (s.setPrinter j.printer { s.printer j.printer with status := v }).activeJob? j.printer = some j from hj]
      simp only [hs]
    rw [hu]
    refine ⟨?_, ?_, ?_, ?_, ?_, ?_⟩
    · simp [State.raisePrinter]
    · have := ((State.poolStep_requeue (s.setPrinter j.printer { s.printer j.printer with status := v }) j).trans
        (State.poolStep_raisePrinter _ j.printer)).tickets
      rw [this]; rfl
    · simp [State.raisePrinter, State.closeReceipt_printer]
      split_ifs <;> rfl
    · simp [State.raisePrinter, State.closeReceipt_printer]
      split_ifs with h <;> rfl
    · simp [State.raisePrinter, State.closeReceipt_printer]
      constructor <;> intro h <;> simp [h]
    · unfold State.raisePrinter
      have e1 : ((s.setPrinter j.printer { s.printer j.printer with status := v }).requeue j).clock = s.clock := by
        rw [(State.poolStep_requeue _ _).1]; rfl
      have e2 : (((s.setPrinter j.printer { s.printer j.printer with status := v }).requeue j).printer j.printer).status = v := by
        simp [State.closeReceipt_printer]; split_ifs <;> rfl
      have e3 : (((s.setPrinter j.printer { s.printer j.printer with status := v }).requeue j).printer j.printer).lock
          = (s.printer j.printer).lock := by
        simp [State.closeReceipt_printer]; split_ifs <;> rfl
      rw [e2, e3]
      exact State.raise_ports_congr (by simp) e1 _
  · intro j h1 h2 hj hs
    have hne : (s.printer r).status ≠ v := fun e => by rw [e, h2] at h1; cases h1
    obtain ⟨hm, hr, ha⟩ := State.activeJob?_spec hj
    subst hr
    set r := j.printer with hr
    let s1 := s.setPrinter r { s.printer r with status := v }
    have hu : s.setStatus r v = (s1.abortJob j).raisePrinter r := by
      unfold State.setStatus
      simp only [if_neg hne, h1, h2, Bool.not_false, Bool.and_self, if_true]
      congr 1
      unfold State.printerFault
      rw [show (s.setPrinter r { s.printer r with status := v }).activeJob? r = some j from hj]
      simp only [hs]
      rfl
    rw [hu]
    let s2 := s1.leavePool j .aborted
    obtain ⟨x, hx⟩ : ∃ x, x = match j.source with
      | .owed n _ => s2.retireIfDone n
      | .copyTicket _ => s2
      | .copySnapshot _ => s2
      | .report _ => s2 := ⟨_, rfl⟩
    have hab : s1.abortJob j = x.settleLock r := by rw [hx]; rfl
    rw [hab]
    have ps2 : s1.PoolStep s2 := s1.poolStep_leavePool j _
    have s2j : s2.jobs = s.jobs.filter fun y => decide (y.id ≠ j.id) := by simp only [s2, State.leavePool_jobs]; rfl
    have s2p : s2.printer r = if (s.printer r).awaited = none then
          { s.printer r with status := v, sent := (s.printer r).sent ++ [.fin], closeOwed := false }
        else { s.printer r with status := v, closeOwed := true } := by
      simp only [s2, State.leavePool_printer, ha]
      simp [State.closeReceipt_printer, ← hr, s1]
    have s2t : ∀ n, s2.ticket? n = s.ticket? n := fun n => by rw [ps2.ticket?]; rfl
    have s2sn : s2.snapshots = s.snapshots := by rw [ps2.1]; rfl
    have s2tk : s2.tickets = s.tickets := by rw [ps2.1]; rfl
    have s2c : s2.clock = s.clock := by rw [ps2.1]; rfl
    have s2po : s2.ports = (s.raise (.job j.id .aborted (j.total - j.printed))).ports := by
      simp only [s2, State.leavePool_ports]
      exact State.raise_ports_congr rfl rfl _
    have s2l : (s2.printer r).lock = (s.printer r).lock := by rw [s2p]; split_ifs <;> rfl
    have s2s : (s2.printer r).status = v := by rw [s2p]; split_ifs <;> rfl
    have cases := s2.abort_retire_cases j x hx
    have psx : (x.settleLock r).PoolStep ((x.settleLock r).raisePrinter r) := State.poolStep_raisePrinter _ _
    have psl : x.PoolStep (x.settleLock r) := x.poolStep_settleLock r
    -- retirement with few snapshots
    have xfew : s.snapshots.length < 8 → (x.jobs.map Job.id = s2.jobs.map Job.id ∧ x.printers = s2.printers) := by
      intro hf
      rcases cases with e | ⟨n, st, t, _, _, _, _, _, e⟩
      · rw [e]; exact ⟨rfl, rfl⟩
      · rw [e, State.retire_eq t (by rw [s2sn]; exact hf)]
        refine ⟨?_, rfl⟩
        simp [Function.comp_def]
    refine ⟨?_, ?_, ?_, ?_⟩
    · rw [show (((x.settleLock r).raisePrinter r).printer r) = (x.settleLock r).printer r from rfl, State.settleLock_awaited]
      have : (x.printer r).awaited = (s2.printer r).awaited := by
        rcases cases with e | ⟨n, st, t, _, _, _, _, _, e⟩
        · rw [e]
        · rw [e, State.retire_awaited]
      rw [this, s2p]; split_ifs with h
      · rw [h]
      · rfl
    · intro n t ht ho
      rw [psx.ticket?, psl.ticket?]
      rcases cases with e | ⟨n', st, t', _, ht', _, ho', _, e⟩
      · rw [e, s2t, ht]
      · rw [e, State.retire_ticket?, s2t]
        rw [s2t] at ht'
        split_ifs with hn
        · have e2 : t'.number = n' := State.ticket?_number ht'
          rw [hn, e2, ht'] at ht
          cases ht
          exact absurd ho' ho
        · exact ht
    · intro hf
      obtain ⟨xj, xp⟩ := xfew hf
      refine ⟨?_, ?_⟩
      · rw [show ((x.settleLock r).raisePrinter r).jobs = (x.settleLock r).jobs from rfl, State.settleLock_jobs, xj, s2j]
        rw [List.filter_map]; rfl
      · rw [show (((x.settleLock r).raisePrinter r).printer r) = (x.settleLock r).printer r from rfl,
          (x.settleLock_printer r r).1]
        have : x.printer r = s2.printer r := by unfold State.printer; rw [xp]
        rw [this, s2p]
        constructor <;> intro h <;> simp [h]
    · intro hpool
      have huniq : ∀ y ∈ s2.jobs, y.printer = r → y.state ≠ .printing := by
        intro y hy hyr hyp
        rw [s2j, List.mem_filter] at hy
        have := hpool.2.2.2.2.1 y hy.1 j hm (by simp [Job.active, hyp]) ha hyr
        simp [this] at hy
      have hno : ∀ n stamp, j.source = .owed n stamp → ∀ y ∈ s2.jobs, y.refersTo n = false := by
        intro n stamp he y hy
        rw [s2j, List.mem_filter] at hy
        by_contra hc
        have := hpool.2.2.2.2.2 n y hy.1 j hm (by simpa using hc) (by simp [Job.refersTo, he])
        simp [this] at hy
      have psl : x.PoolStep (x.settleLock r) := x.poolStep_settleLock r
      -- the pool after the retirement holds no PRINTING job on the printer
      have xno : ∀ y ∈ x.jobs, y.printer = r → y.state ≠ .printing := by
        rcases cases with e | ⟨n, st, t, _, _, _, _, _, e⟩
        · rw [e]; exact huniq
        · rw [e]; exact State.retire_noPrinting huniq t
      have xl : (x.printer r).lock = (s.printer r).lock ∨ ∃ p, (s.printer r).lock = .pending p ∧ (x.printer r).lock = .locked p := by
        rcases cases with e | ⟨n, st, t, _, _, _, _, _, e⟩
        · rw [e, s2l]; exact .inl rfl
        · rw [e]
          rcases s2.retire_lock t r with h | ⟨p, h, h'⟩
          · exact .inl (h.trans s2l)
          · exact .inr ⟨p, s2l ▸ h, h'⟩
      have tail : x.clock = s.clock → (x.printer r).lock = (s.printer r).lock → (x.printer r).status = v →
          ∀ w : State, x.ports = w.ports → w.clock = s.clock →
          ((x.settleLock r).raisePrinter r).ports = (match (s.printer r).lock with
            | .pending p => (w.raise (.printer r v (.locked p))).raise (.printer r v (.locked p))
            | .locked p => w.raise (.printer r v (.locked p))
            | .none => w.raise (.printer r v .none)).ports := by
        intro xc xlk xs w hw hwc
        cases hl : (s.printer r).lock with
        | none =>
          rw [State.settleLock_none (by rw [xlk, hl])]
          unfold State.raisePrinter
          rw [xs, xlk, hl]
          exact State.raise_ports_congr hw (by rw [xc, hwc]) _
        | locked p =>
          rw [State.settleLock_locked (by rw [xlk, hl])]
          unfold State.raisePrinter
          rw [xs, xlk, hl]
          exact State.raise_ports_congr hw (by rw [xc, hwc]) _
        | pending p =>
          rw [State.settleLock_pending (by rw [xlk, hl]) xno]
          unfold State.raisePrinter
          have hpr : ∀ (y : State) e q, (y.raise e).printer q = y.printer q := fun _ _ _ => rfl
          simp only [hpr, State.printer_setPrinter, if_true, xs]
          refine State.raise_ports_congr ?_ (by simp [xc, hwc]) _
          exact State.raise_ports_congr hw (by simp [xc, hwc]) _
      refine ⟨?_, ?_, ?_⟩
      · intro p hp
        rw [show (((x.settleLock r).raisePrinter r).printer r) = (x.settleLock r).printer r from rfl]
        rcases xl with h | ⟨q, h, h'⟩
        · rw [State.settleLock_pending (h.trans hp) xno]
          simp
        · rw [State.settleLock_locked h', h']
          rw [hp] at h; cases h; rfl
      · intro n stamp t he ht hfin ho
        have hx' : x = s2.retire t := by
          rw [hx, he]
          exact State.retireIfDone_eq_retire (by rw [s2t]; exact ht) hfin ho (hno n stamp he)
        have hn : t.number = n := State.ticket?_number ht
        refine ⟨?_, ?_⟩
        · rw [psx.ticket?, psl.ticket?, hx', State.retire_ticket?, hn, if_pos rfl]
        · intro hf
          have hr' := State.retire_eq t (s := s2) (by rw [s2sn]; exact hf)
          have xx := hx'.trans hr'
          refine ⟨?_, ?_⟩
          · have : (x.settleLock r).snapshots = x.snapshots := by rw [psl.1]
            rw [show ((x.settleLock r).raisePrinter r).snapshots = (x.settleLock r).snapshots from rfl, this, xx]
            simp [s2sn]
          · refine tail ?_ ?_ ?_ _ ?_ ?_
            · rw [xx]; simpa using s2c
            · rw [xx]; exact s2l
            · rw [xx]; exact s2s
            · rw [xx, hn]; exact State.raise_ports_congr (by simpa using s2po) (by simpa using s2c) _
            · rfl
      · intro hkeep
        have hx' : x = s2 := by
          rcases cases with e | ⟨n, st, t, he, ht, hfin, ho, _, e⟩
          · exact e
          · rw [s2t] at ht
            rcases hkeep n st t he ht with h | h
            · simp [Ticket.finished, h.1, h.2] at hfin
            · exact absurd ho h
        refine ⟨?_, ?_, ?_⟩
        · have : (x.settleLock r).tickets = x.tickets := psl.tickets
          rw [show ((x.settleLock r).raisePrinter r).tickets = (x.settleLock r).tickets from rfl, this, hx', s2tk]
        · have : (x.settleLock r).snapshots = x.snapshots := by rw [psl.1]
          rw [show ((x.settleLock r).raisePrinter r).snapshots = (x.settleLock r).snapshots from rfl, this, hx', s2sn]
        · exact tail (by rw [hx', s2c]) (by rw [hx', s2l]) (by rw [hx', s2s]) _ (by rw [hx', s2po]) rfl

end Sys2Proof.Machine
end

