-- ==== Sys2Proof/Laws/Events.lean ====
section
/-! SUPPORT. The events that an operation raises, the owed receipts in their order, and the stamps given anew. -/

namespace Sys2Proof.Machine

/-! ### What the ports have heard (R188) -/

/-- Two states whose clocks, subscriptions, attention queues and overflow flags are the same. -/
def State.HearsAlike (s t : State) : Prop :=
  t.clock = s.clock ∧ ∀ p, (t.port p).subscription = (s.port p).subscription ∧
    (t.port p).attention = (s.port p).attention ∧ (t.port p).overflow = (s.port p).overflow

theorem State.HearsAlike.refl (s : State) : s.HearsAlike s := ⟨rfl, fun _ => ⟨rfl, rfl, rfl⟩⟩

theorem State.HearsAlike.trans {s t u : State} (h : s.HearsAlike t) (k : t.HearsAlike u) : s.HearsAlike u :=
  ⟨k.1.trans h.1, fun p => ⟨(k.2 p).1.trans (h.2 p).1, (k.2 p).2.1.trans (h.2 p).2.1, (k.2 p).2.2.trans (h.2 p).2.2⟩⟩

/-- An offer changes the subscription of no port, and its queue and flag by those and the subscription alone. -/
theorem Port.offer_congr {q r : Port} (h : r.subscription = q.subscription ∧ r.attention = q.attention ∧ r.overflow = q.overflow)
    (e : Entry) : (r.offer e).subscription = (q.offer e).subscription ∧ (r.offer e).attention = (q.offer e).attention ∧
      (r.offer e).overflow = (q.offer e).overflow := by
  obtain ⟨h1, h2, h3⟩ := h
  unfold Port.offer Port.enqueueAttention
  rw [h1, h2]
  split_ifs <;> simp [h1, h2, h3]

/-- The same event keeps two states alike. -/
theorem State.HearsAlike.raise {s t : State} (h : s.HearsAlike t) (e : Event) : (s.raise e).HearsAlike (t.raise e) := by
  refine ⟨h.1, fun p => ?_⟩
  rw [State.port_raise, State.port_raise, h.1]
  exact Port.offer_congr (h.2 p) _

/-- The same events in one order keep two states alike. -/
theorem State.HearsAlike.foldl_raise {s t : State} (h : s.HearsAlike t) (es : List Event) :
    (es.foldl State.raise s).HearsAlike (es.foldl State.raise t) := by
  induction es generalizing s t with
  | nil => exact h
  | cons e es ih => exact ih (h.raise e)

/-- A state alike another after a list of events tells those events. -/
theorem State.HearsAlike.tells {s u : State} {es : List Event} (h : (es.foldl State.raise s).HearsAlike u) : s.tells u es :=
  fun p => (h.2 p).2

/-- Events told one after another. -/
theorem State.tells_append {s t u : State} {es fs : List Event} (h : (es.foldl State.raise s).HearsAlike t) (k : t.tells u fs) :
    s.tells u (es ++ fs) := by
  intro p
  rw [List.foldl_append]
  have := (h.foldl_raise fs).2 p
  exact ⟨(k p).1.trans this.2.1, (k p).2.trans this.2.2⟩

/-! ### The locks a port holds (R151, R153) -/

/-- A lock that changes raises one PRINTER event with the new lock (R151). -/
theorem State.setLock_ports (s : State) (r : PrinterId) {l : Lock} (h : (s.printer r).lock ≠ l) :
    (s.setLock r l).ports = (s.raise (.printer r (s.printer r).status l)).ports := by
  rw [State.setLock, if_neg h, State.raisePrinter, State.printer_setPrinter, if_pos rfl]
  exact State.raise_ports_congr rfl rfl _

/-- The locks of a list of different printers released in order: their events, and the printers afterwards. -/
theorem State.foldl_setLock (s₀ : State) (p : PortId) (l : List PrinterId) (hn : l.Nodup) (s x : State)
    (hp : x.ports = s.ports) (hc : x.clock = s.clock) (hr : ∀ r ∈ l, s.printer r = s₀.printer r) :
    (l.foldl (fun y r => if (y.printer r).lock.holder? = some p then y.setLock r .none else y) s).ports =
        (l.foldl (fun y r =>
          if (s₀.printer r).lock.holder? = some p then y.raise (.printer r (s₀.printer r).status .none) else y) x).ports ∧
      ∀ r, (l.foldl (fun y r => if (y.printer r).lock.holder? = some p then y.setLock r .none else y) s).printer r =
        if r ∈ l ∧ (s.printer r).lock.holder? = some p then { s.printer r with lock := .none } else s.printer r := by
  induction l generalizing s x with
  | nil => exact ⟨hp.symm, fun r => by simp⟩
  | cons a as ih =>
    obtain ⟨ha, hn⟩ := List.nodup_cons.1 hn
    have hs := hr a List.mem_cons_self
    have hr' : ∀ r ∈ as, s.printer r = s₀.printer r := fun r h => hr r (List.mem_cons_of_mem _ h)
    rw [List.foldl_cons, List.foldl_cons, ← hs]
    by_cases c : (s.printer a).lock.holder? = some p
    · rw [if_pos c, if_pos c]
      have hl : (s.printer a).lock ≠ .none := fun e => by rw [e] at c; cases c
      have hk : (s.setLock a .none).clock = s.clock := by rw [State.setLock, if_neg hl]; rfl
      obtain ⟨h1, h2⟩ := ih hn (s.setLock a .none) (x.raise (.printer a (s.printer a).status .none))
        (by rw [State.setLock_ports s a hl]; exact State.raise_ports_congr hp hc _) (by rw [hk]; exact hc)
        (fun r h => by
          have e : r ≠ a := fun e => ha (e ▸ h)
          rw [State.setLock_printer, if_neg e]; exact hr' r h)
      refine ⟨h1, fun r => ?_⟩
      rw [h2 r, State.setLock_printer]
      by_cases e : r = a
      · subst e; simp [ha, c]
      · simp [e]
    · rw [if_neg c, if_neg c]
      obtain ⟨h1, h2⟩ := ih hn s x hp hc hr'
      refine ⟨h1, fun r => ?_⟩
      rw [h2 r]
      by_cases e : r = a
      · subst e; simp [ha, c]
      · simp [e]

/-- The locks a port holds released: each with its PRINTER event, and nothing else of a printer changed (R153). -/
theorem State.releaseLocks_spec (s : State) (p : PortId) :
    (s.releaseLocks p).ports = (s.tellUnlocked p).ports ∧
      ∀ r, (s.releaseLocks p).printer r =
        if (s.printer r).lock.holder? = some p then { s.printer r with lock := .none } else s.printer r := by
  obtain ⟨h1, h2⟩ := State.foldl_setLock s p (List.finRange 2) (List.nodup_finRange 2) s s rfl rfl fun _ _ => rfl
  exact ⟨h1, fun r => by rw [State.releaseLocks, h2 r]; simp⟩
/-! ### The owed receipts in their order (R135, R137) -/

/-- A receipt put in its place joins the others. -/
theorem insertByStamp_perm (x : OwedItem) (l : List OwedItem) : (insertByStamp x l).Perm (x :: l) := by
  induction l with
  | nil => exact .refl _
  | cons y ys ih =>
    unfold insertByStamp
    split_ifs
    · exact .refl _
    · exact (ih.cons y).trans (.swap x y ys)

/-- The owed order holds exactly the owed receipts. -/
theorem owedOrder_perm (l : List OwedItem) : (owedOrder l).Perm l := by
  induction l with
  | nil => exact .refl _
  | cons x xs ih => exact (insertByStamp_perm x (owedOrder xs)).trans (ih.cons x)

theorem mem_owedOrder {x : OwedItem} {l : List OwedItem} : x ∈ owedOrder l ↔ x ∈ l := (owedOrder_perm l).mem_iff

/-- A receipt put in its place keeps a list in owed order. -/
theorem insertByStamp_sorted (x : OwedItem) {l : List OwedItem} (h : l.Pairwise fun a b => a.stamp ≤ b.stamp) :
    (insertByStamp x l).Pairwise fun a b => a.stamp ≤ b.stamp := by
  induction l with
  | nil => exact List.pairwise_singleton _ _
  | cons y ys ih =>
    obtain ⟨hy, hys⟩ := List.pairwise_cons.1 h
    unfold insertByStamp
    split_ifs with hxy
    · refine List.pairwise_cons.2 ⟨fun z hz => ?_, h⟩
      rcases List.mem_cons.1 hz with rfl | hz
      · exact hxy
      · exact Nat.le_trans hxy (hy z hz)
    · refine List.pairwise_cons.2 ⟨fun z hz => ?_, ih hys⟩
      rcases List.mem_cons.1 ((insertByStamp_perm x ys).mem_iff.1 hz) with rfl | hz
      · omega
      · exact hy z hz

/-- The owed order is in order of the stamps. -/
theorem owedOrder_sorted (l : List OwedItem) : (owedOrder l).Pairwise fun a b => a.stamp ≤ b.stamp := by
  induction l with
  | nil => exact List.Pairwise.nil
  | cons x xs ih => exact insertByStamp_sorted x ih

/-! ### What a receipt taken by the service does (R136, R137) -/

/-- A receipt served or blocked stays so while jobs join the pool. -/
theorem State.settled_mono {s t : State} {added : List Job} (h : t.jobs = s.jobs ++ added) {x : OwedItem}
    (hx : s.served x = true ∨ s.blocked x = true) : t.served x = true ∨ t.blocked x = true := by
  rcases hx with hx | hx
  · left
    simp only [State.served, h, List.any_append, Bool.or_eq_true] at hx ⊢
    exact .inl hx
  · right
    cases x with
    | ofTicket n o =>
      simp only [State.blocked, h, List.any_append, Bool.or_eq_true] at hx ⊢
      exact .inl hx
    | ofReport rep o => exact absurd hx (by simp [State.blocked])

/-- The job for an owed receipt has the receipt's source. -/
@[simp] theorem State.jobFor_source (s : State) (x : OwedItem) : (s.jobFor x).source = x.source := by cases x <;> rfl

/-- One receipt taken: it has a job made, it is served or blocked already, or the pool is full. -/
theorem State.serveOne_cases (s : State) (x : OwedItem) :
    (s.jobs.length < 12 ∧ s.serveOne x = s.addJob (s.jobFor x) ∧ (s.serveOne x).served x = true) ∨
      (s.serveOne x = s ∧ ((s.served x = true ∨ s.blocked x = true) ∨ 12 ≤ s.jobs.length)) := by
  by_cases hc : s.jobs.length < Config.maxJobs ∧ s.served x = false ∧ s.blocked x = false
  · left
    have hs : s.serveOne x = s.addJob (s.jobFor x) := by rw [State.serveOne, if_pos hc]
    refine ⟨hc.1, hs, ?_⟩
    rw [hs, State.served, State.addJob_eq]
    simp
  · right
    refine ⟨by rw [State.serveOne, if_neg hc], ?_⟩
    by_contra hn
    push Not at hn
    exact hc ⟨hn.2, by simpa using hn.1.1, by simpa using hn.1.2⟩

/-- A run of the service over a list in owed order: the receipts that get a job are some of the list, in its order; each older one
than a receipt that gets a job is served or blocked afterwards, and so is every one when room is left. -/
theorem State.foldl_serveOne_items (s : State) (l : List OwedItem) (hl : l.Pairwise fun a b => a.stamp ≤ b.stamp) :
    ∃ items : List OwedItem, items.Sublist l ∧
      (l.foldl State.serveOne s).jobs.map Job.source = s.jobs.map Job.source ++ items.map OwedItem.source ∧
      (∀ y ∈ items, ∀ x ∈ l, x.stamp < y.stamp →
        (l.foldl State.serveOne s).served x = true ∨ (l.foldl State.serveOne s).blocked x = true) ∧
      ((l.foldl State.serveOne s).jobs.length < 12 → ∀ x ∈ l,
        (l.foldl State.serveOne s).served x = true ∨ (l.foldl State.serveOne s).blocked x = true) := by
  induction l generalizing s with
  | nil => exact ⟨[], List.Sublist.refl _, by simp, by simp, by simp⟩
  | cons a as ih =>
    obtain ⟨ha, has⟩ := List.pairwise_cons.1 hl
    obtain ⟨items, h1, h2, h3, h4⟩ := ih (s.serveOne a) has
    obtain ⟨added, hadd, -, hfull, -⟩ := (s.serveOne a).foldl_serveOne as
    have hjobs : (as.foldl State.serveOne (s.serveOne a)).jobs = (s.serveOne a).jobs ++ added := by rw [hadd]
    rw [List.foldl_cons]
    rcases s.serveOne_cases a with ⟨-, hs, hsv⟩ | ⟨hs, hc⟩
    · have hda := State.settled_mono hjobs (x := a) (.inl hsv)
      refine ⟨a :: items, h1.cons_cons a, ?_, ?_, ?_⟩
      · rw [h2, hs, State.addJob_eq]; simp
      · intro y hy x hx hxy
        rcases List.mem_cons.1 hx with rfl | hx
        · exact hda
        · rcases List.mem_cons.1 hy with he | hy
          · have := ha x hx
            rw [he] at hxy
            omega
          · exact h3 y hy x hx hxy
      · intro hr x hx
        rcases List.mem_cons.1 hx with rfl | hx
        · exact hda
        · exact h4 hr x hx
    · rw [hs] at h2 h3 h4 hjobs hfull ⊢
      refine ⟨items, h1.cons a, h2, ?_, ?_⟩
      · intro y hy x hx hxy
        rcases List.mem_cons.1 hx with rfl | hx
        · rcases hc with hc | hc
          · exact State.settled_mono hjobs hc
          · have hnil : items = [] := by
              rw [hjobs, hfull hc, List.append_nil] at h2
              simpa using h2
            rw [hnil] at hy
            exact absurd hy List.not_mem_nil
        · exact h3 y hy x hx hxy
      · intro hr x hx
        rcases List.mem_cons.1 hx with rfl | hx
        · rcases hc with hc | hc
          · exact State.settled_mono hjobs hc
          · rw [hjobs, List.length_append] at hr
            omega
        · exact h4 hr x hx

/-- A run of the service over a list gives the new jobs the next age stamps in turn. -/
theorem State.foldl_serveOne_ages (s : State) (l : List OwedItem) :
    ∃ added, (l.foldl State.serveOne s).jobs = s.jobs ++ added ∧
      added.map Job.age = List.range' s.nextAge added.length ∧
      (l.foldl State.serveOne s).nextAge = s.nextAge + added.length := by
  induction l generalizing s with
  | nil => exact ⟨[], by simp⟩
  | cons a as ih =>
    rw [List.foldl_cons]
    obtain ⟨added, h1, h2, h3⟩ := ih (s.serveOne a)
    rcases s.serveOne_cases a with ⟨-, hs, -⟩ | ⟨hs, -⟩
    · rw [hs] at h1 h2 h3 ⊢
      refine ⟨_ :: added, by rw [h1, State.addJob_eq, List.append_assoc]; rfl, ?_, ?_⟩
      · rw [List.map_cons, h2]; simp [State.addJob_eq, List.range'_succ]
      · rw [h3, State.addJob_eq]; simp; omega
    · rw [hs] at h1 h2 h3 ⊢
      exact ⟨added, h1, h2, h3⟩

/-- Two states that differ in their pool and its counters alone make the same job for a receipt. -/
theorem State.madeFor_pool (s : State) (js : List Job) (n a : Nat) (j : Job) (x : OwedItem) :
    ({ s with jobs := js, nextJob := n, nextAge := a } : State).madeFor j x ↔ s.madeFor j x := Iff.rfl

/-- The job for a receipt, as it joins the pool. -/
theorem State.madeFor_jobFor (s : State) (x : OwedItem) (id age : Nat) :
    s.madeFor { s.jobFor x with id := id, age := age, state := .queued, printed := 0, frozen := none } x := by
  cases x with
  | ofTicket t o => exact ⟨rfl, rfl, rfl, rfl, rfl, rfl, rfl, rfl, rfl, rfl, rfl, rfl⟩
  | ofReport rep o => exact ⟨rfl, rfl, rfl, rfl, rfl, rfl, rfl, rfl, rfl, rfl, rfl, rfl⟩

/-- A run of the service over a list adds jobs made as R137 gives for receipts of the list. -/
theorem State.foldl_serveOne_made (s : State) (l : List OwedItem) :
    ∃ added, (l.foldl State.serveOne s).jobs = s.jobs ++ added ∧ ∀ j ∈ added, ∃ x ∈ l, s.madeFor j x := by
  induction l generalizing s with
  | nil => exact ⟨[], by simp, by simp⟩
  | cons a as ih =>
    rw [List.foldl_cons]
    obtain ⟨added, h1, h2⟩ := ih (s.serveOne a)
    rcases s.serveOne_cases a with ⟨-, hs, -⟩ | ⟨hs, -⟩
    · rw [hs] at h1 h2 ⊢
      refine ⟨_ :: added, by rw [h1, State.addJob_eq, List.append_assoc]; rfl, fun j hj => ?_⟩
      rcases List.mem_cons.1 hj with rfl | hj
      · exact ⟨a, List.mem_cons_self, s.madeFor_jobFor a _ _⟩
      · obtain ⟨x, hx, hm⟩ := h2 j hj
        exact ⟨x, List.mem_cons_of_mem _ hx, (s.madeFor_pool _ _ _ j x).1 hm⟩
    · rw [hs] at h1 h2 ⊢
      exact ⟨added, h1, fun j hj => let ⟨x, hx, hm⟩ := h2 j hj; ⟨x, List.mem_cons_of_mem _ hx, hm⟩⟩

/-- A ticket's owed receipt is that of a ticket in the table (R199). -/
theorem State.mem_owedItems_ofTicket {s : State} {t : Ticket} {o : Owed} (h : OwedItem.ofTicket t o ∈ s.owedItems) :
    t ∈ s.tickets ∧ t.owed = some o := by
  simp only [State.owedItems, List.mem_append, List.mem_filterMap] at h
  rcases h with ⟨a, ha, h⟩ | h
  · cases hao : a.owed with
    | none => simp [hao] at h
    | some z =>
      simp only [hao, Option.map_some, Option.some.injEq, OwedItem.ofTicket.injEq] at h
      obtain ⟨rfl, rfl⟩ := h
      exact ⟨ha, hao⟩
  · revert h
    cases s.report with
    | none => simp
    | some rep => cases h : rep.owed <;> simp [h]

/-- In a table without two tickets of one number, no owed receipt is blocked by jobs that all serve owed receipts (R136). -/
theorem State.not_blocked {s : State} (hn : (s.tickets.map Ticket.number).Nodup)
    (hj : ∀ j ∈ s.jobs, ∃ y ∈ s.owedItems, j.source = y.source) {x : OwedItem} (hx : x ∈ s.owedItems) : s.blocked x = false := by
  cases x with
  | ofReport rep o => rfl
  | ofTicket t o =>
    rw [Bool.eq_false_iff]
    intro h
    simp only [State.blocked, List.any_eq_true, Bool.and_eq_true, decide_eq_true_eq] at h
    obtain ⟨j, hjm, hr, hne⟩ := h
    obtain ⟨y, hy, e⟩ := hj j hjm
    cases y with
    | ofReport rep o' => simp [Job.refersTo, e, OwedItem.source] at hr
    | ofTicket t' o' =>
      have hnum : t'.number = t.number := by simpa [Job.refersTo, e, OwedItem.source] using hr
      obtain ⟨m1, e1⟩ := State.mem_owedItems_ofTicket hx
      obtain ⟨m2, e2⟩ := State.mem_owedItems_ofTicket hy
      have : t' = t := List.inj_on_of_nodup_map hn m2 m1 hnum
      subst this
      rw [e1] at e2
      cases e2
      exact hne e

/-! ### The stamps given anew (R135) -/

/-- The renumbering gives every owed receipt its place in owed order, with the job that serves it. -/
theorem State.restamp_renumbered (s : State) : s.renumbered s.restamp := by
  have hr : ∀ stamp, rankOf (s.owedItems.map OwedItem.stamp) stamp
      = (s.owedItems.filter fun x => decide (x.stamp < stamp)).length + 1 := by
    intro stamp
    rw [rankOf, List.filter_map, List.length_map, Nat.add_comm]
    rfl
  refine ⟨?_, ?_, ?_, ?_, ?_⟩
  · simp [State.restamp]
  · simp only [State.restamp, hr]
  · simp only [State.restamp, hr]
  · simp [State.restamp]
  · intro i j hj
    have hu : s.restamp.jobs[i]? = some (if j.source ∈ s.owedItems.map OwedItem.source then
        match j.source with
        | .owed n stamp => { j with source := .owed n (rankOf (s.owedItems.map OwedItem.stamp) stamp) }
        | .report stamp => { j with source := .report (rankOf (s.owedItems.map OwedItem.stamp) stamp) }
        | .copyTicket _ => j
        | .copySnapshot _ => j
      else j) := by
      change (s.jobs.map _)[i]? = _
      rw [List.getElem?_map, hj]
      rfl
    rw [hu]
    refine ⟨fun n stamp e hx => ?_, fun stamp e hx => ?_, fun hx => ?_⟩
    · have hm : j.source ∈ s.owedItems.map OwedItem.source := by rw [e]; simpa using hx
      rw [e] at hm
      simp only [e, if_pos hm, hr]
    · have hm : j.source ∈ s.owedItems.map OwedItem.source := by rw [e]; simpa using hx
      rw [e] at hm
      simp only [e, if_pos hm, hr]
    · rw [if_neg (by simpa using hx)]

end Sys2Proof.Machine
end

