-- ==== Sys2Proof/Laws/Operands.lean ====
section
/-! SUPPORT. The parameters of every layout, written as the bytes of their fields, are read back field by field (Table 9-4). -/

namespace Sys2Proof.Machine

/-- A number of k bytes that ends the parameters. -/
theorem takeNum_numBytes_end (k n : Nat) (h : n < 256 ^ k) : takeNum k (numBytes k n) = some (n, []) := by
  simpa using takeNum_numBytes k n [] h

/-- A signed number of k bytes that ends the parameters. -/
theorem takeInt_intBytes_end (k : Nat) (i : Int) (h1 : -(256 ^ k : Nat) ≤ 2 * i) (h2 : 2 * i < (256 ^ k : Nat)) :
    takeInt k (intBytes k i) = some (i, []) := by
  simpa using takeInt_intBytes k i [] h1 h2

/-- A text that ends the parameters. -/
theorem takeText_textBytes_end (t : Text) (h : t.length ≤ 255) : takeText (textBytes t) = some (t, []) := by
  simpa using takeText_textBytes t [] h

/-- A yes or no byte is the one-byte number 1 or 0. -/
theorem yesNoBytes_eq (b : Bool) : yesNoBytes b = numBytes 1 (if b then 1 else 0) := by cases b <;> rfl

/-- A yes or no value is read back. -/
@[simp] theorem yesNo?_num (b : Bool) : yesNo? (if b then 1 else 0) = some b := by cases b <;> rfl

/-- One number of one byte. -/
theorem parseOne_bytes (n : Nat) (h : n < 256) : parseOne (numBytes 1 n) = some n := by
  simp [parseOne, takeNum_numBytes_end, h, endOf]

/-- A ticket number alone. -/
theorem parseTicket_bytes (n : Nat) (h : n < 256 ^ 4) : parseTicket (numBytes 4 n) = some n := by
  simp [parseTicket, takeNum_numBytes_end _ _ h, endOf]

/-- A ticket number and one byte. -/
theorem TicketByteArgs.parse_bytes (n v : Nat) (hn : n < 256 ^ 4) (hv : v < 256) :
    TicketByteArgs.parse (numBytes 4 n ++ numBytes 1 v) = some ⟨n, v⟩ := by
  simp [TicketByteArgs.parse, takeNum_numBytes _ _ _ hn, takeNum_numBytes_end, hv, endOf]

/-- A ticket number and a line. -/
theorem TicketLineArgs.parse_bytes (n l : Nat) (hn : n < 256 ^ 4) (hl : l < 256) :
    TicketLineArgs.parse (numBytes 4 n ++ numBytes 1 l) = some ⟨n, l⟩ := by
  simp [TicketLineArgs.parse, takeNum_numBytes _ _ _ hn, takeNum_numBytes_end, hl, endOf]

/-- Two numbers of one byte. -/
theorem TwoByteArgs.parse_bytes (a b : Nat) (ha : a < 256) (hb : b < 256) :
    TwoByteArgs.parse (numBytes 1 a ++ numBytes 1 b) = some ⟨a, b⟩ := by
  simp [TwoByteArgs.parse, takeNum_numBytes, takeNum_numBytes_end, ha, hb, endOf]

/-- A plate alone. -/
theorem parsePlate_bytes (t : Text) (h : t.length ≤ 255) : parsePlate (textBytes t) = some t := by
  simp [parsePlate, takeText_textBytes_end t h, endOf]

/-- A plate and one byte. -/
theorem PlateByteArgs.parse_bytes (t : Text) (v : Nat) (h : t.length ≤ 255) (hv : v < 256) :
    PlateByteArgs.parse (textBytes t ++ numBytes 1 v) = some ⟨t, v⟩ := by
  simp [PlateByteArgs.parse, takeText_textBytes t _ h, takeNum_numBytes_end, hv, endOf]

/-- ADD LINE. -/
theorem AddLineArgs.parse_bytes (n g : Nat) (hn : n < 256 ^ 4) (hg : g < 256 ^ 4) :
    AddLineArgs.parse (numBytes 4 n ++ numBytes 4 g) = some ⟨n, g⟩ := by
  simp [AddLineArgs.parse, takeNum_numBytes _ _ _ hn, takeNum_numBytes_end _ _ hg, endOf]

/-- SET DEDUCTION. -/
theorem SetDeductionArgs.parse_bytes (n l v : Nat) (hn : n < 256 ^ 4) (hl : l < 256) (hv : v < 256 ^ 2) :
    SetDeductionArgs.parse (numBytes 4 n ++ numBytes 1 l ++ numBytes 2 v) = some ⟨n, l, v⟩ := by
  simp [SetDeductionArgs.parse, takeNum_numBytes _ _ _ hn, takeNum_numBytes 1 _ _ hl, takeNum_numBytes_end _ _ hv, endOf]

/-- KEY WEIGHT. -/
theorem KeyWeightArgs.parse_bytes (n l side w : Nat) (hn : n < 256 ^ 4) (hl : l < 256) (hs : side < 256)
    (hw : w < 256 ^ 4) :
    KeyWeightArgs.parse (numBytes 4 n ++ numBytes 1 l ++ numBytes 1 side ++ numBytes 4 w) = some ⟨n, l, side, w⟩ := by
  simp [KeyWeightArgs.parse, takeNum_numBytes _ _ _ hn, takeNum_numBytes 1 _ _ hl, takeNum_numBytes 1 _ _ hs,
    takeNum_numBytes_end _ _ hw, endOf]

/-- CAPTURE. -/
theorem CaptureArgs.parse_bytes (n l role c grade : Nat) (hn : n < 256 ^ 4) (hl : l < 256) (hr : role < 256)
    (hc : c < 256) (hg : grade < 256 ^ 4) :
    CaptureArgs.parse (numBytes 4 n ++ numBytes 1 l ++ numBytes 1 role ++ numBytes 1 c ++ numBytes 4 grade)
      = some ⟨n, l, role, c, grade⟩ := by
  simp [CaptureArgs.parse, takeNum_numBytes _ _ _ hn, takeNum_numBytes 1 _ _ hl, takeNum_numBytes 1 _ _ hr,
    takeNum_numBytes 1 _ _ hc, takeNum_numBytes_end _ _ hg, endOf]

/-- OPEN TICKET. -/
theorem OpenTicketArgs.parse_bytes (cls : Nat) (customer plate : Text) (hc : cls < 256) (h1 : customer.length ≤ 255)
    (h2 : plate.length ≤ 255) :
    OpenTicketArgs.parse (numBytes 1 cls ++ textBytes customer ++ textBytes plate) = some ⟨cls, customer, plate⟩ := by
  simp [OpenTicketArgs.parse, takeNum_numBytes 1 _ _ hc, takeText_textBytes _ _ h1, takeText_textBytes_end _ h2, endOf]

/-- CONFIGURE PORT. -/
theorem ConfigurePortArgs.parse_bytes (p role r former : Nat) (h1 : p < 256) (h2 : role < 256) (h3 : r < 256)
    (h4 : former < 256) :
    ConfigurePortArgs.parse (numBytes 1 p ++ numBytes 1 role ++ numBytes 1 r ++ numBytes 1 former)
      = some ⟨p, role, r, former⟩ := by
  simp [ConfigurePortArgs.parse, takeNum_numBytes 1 _ _ h1, takeNum_numBytes 1 _ _ h2, takeNum_numBytes 1 _ _ h3,
    takeNum_numBytes_end 1 _ h4, endOf]

/-- SET OPTION. -/
theorem SetOptionArgs.parse_bytes (setting v : Nat) (h1 : setting < 256) (h2 : v < 256 ^ 5) :
    SetOptionArgs.parse (numBytes 1 setting ++ numBytes 5 v) = some ⟨setting, v⟩ := by
  simp [SetOptionArgs.parse, takeNum_numBytes 1 _ _ h1, takeNum_numBytes_end _ _ h2, endOf]

/-- CONFIGURE SCALE, its enabled byte any number. -/
theorem ConfigureScaleArgs.parse_nums (c en cap d w stale : Nat) (h1 : c < 256) (h6 : en < 256) (h2 : cap < 256 ^ 4)
    (h3 : d < 256 ^ 4) (h4 : w < 256) (h5 : stale < 256 ^ 4) :
    ConfigureScaleArgs.parse (numBytes 1 c ++ numBytes 1 en ++ numBytes 4 cap ++ numBytes 4 d ++ numBytes 1 w
      ++ numBytes 4 stale) = some ⟨c, en, cap, d, w, stale⟩ := by
  simp [ConfigureScaleArgs.parse, takeNum_numBytes 1 _ _ h1, takeNum_numBytes 1 _ _ h6, takeNum_numBytes 4 _ _ h2,
    takeNum_numBytes 4 _ _ h3, takeNum_numBytes 1 _ _ h4, takeNum_numBytes_end _ _ h5, endOf]

/-- CONFIGURE SCALE. -/
theorem ConfigureScaleArgs.parse_bytes (c : Nat) (en : Bool) (cap d w stale : Nat) (h1 : c < 256)
    (h2 : cap < 256 ^ 4) (h3 : d < 256 ^ 4) (h4 : w < 256) (h5 : stale < 256 ^ 4) :
    ConfigureScaleArgs.parse (numBytes 1 c ++ yesNoBytes en ++ numBytes 4 cap ++ numBytes 4 d ++ numBytes 1 w
      ++ numBytes 4 stale) = some ⟨c, if en then 1 else 0, cap, d, w, stale⟩ := by
  rw [yesNoBytes_eq]
  exact ConfigureScaleArgs.parse_nums _ _ _ _ _ _ h1 (by cases en <;> decide) h2 h3 h4 h5

/-- One field read, the rest of the layout follows. -/
theorem bind_some_step {α β : Type} {x : Option α} {f : α → Option β} {a : α} (h : x = some a) : (x >>= f) = f a := by
  rw [h]; rfl

/-- EDIT RULE, its enabled byte any number. -/
theorem EditRuleArgs.parse_nums (slot en kind pattern m classes : Nat) (label : Text)
    (price acc ded hold : Nat) (adj : Int) (h1 : slot < 256) (h13 : en < 256) (h2 : kind < 256) (h3 : pattern < 256 ^ 4)
    (h4 : m < 256 ^ 2) (h5 : classes < 256) (h6 : label.length ≤ 255) (h7 : price < 256 ^ 4) (h8 : acc < 256)
    (h9 : ded < 256 ^ 2) (h10 : hold < 256 ^ 2) (h11 : -2147483648 ≤ adj) (h12 : adj ≤ 2147483647) :
    EditRuleArgs.parse (numBytes 1 slot ++ numBytes 1 en ++ numBytes 1 kind ++ numBytes 4 pattern ++ numBytes 2 m
        ++ numBytes 1 classes ++ textBytes label ++ numBytes 4 price ++ numBytes 1 acc ++ numBytes 2 ded
        ++ numBytes 2 hold ++ intBytes 4 adj)
      = some ⟨slot, en, kind, pattern, m, classes, label, price, acc, ded, hold, adj⟩ := by
  have h14 : takeInt 4 (intBytes 4 adj) = some (adj, []) :=
    takeInt_intBytes_end 4 adj (by norm_num; omega) (by norm_num; omega)
  simp only [List.append_assoc]
  unfold EditRuleArgs.parse
  rw [bind_some_step (takeNum_numBytes 1 _ _ h1)]; dsimp only
  rw [bind_some_step (takeNum_numBytes 1 _ _ h13)]; dsimp only
  rw [bind_some_step (takeNum_numBytes 1 _ _ h2)]; dsimp only
  rw [bind_some_step (takeNum_numBytes 4 _ _ h3)]; dsimp only
  rw [bind_some_step (takeNum_numBytes 2 _ _ h4)]; dsimp only
  rw [bind_some_step (takeNum_numBytes 1 _ _ h5)]; dsimp only
  rw [bind_some_step (takeText_textBytes _ _ h6)]; dsimp only
  rw [bind_some_step (takeNum_numBytes 4 _ _ h7)]; dsimp only
  rw [bind_some_step (takeNum_numBytes 1 _ _ h8)]; dsimp only
  rw [bind_some_step (takeNum_numBytes 2 _ _ h9)]; dsimp only
  rw [bind_some_step (takeNum_numBytes 2 _ _ h10)]; dsimp only
  rw [bind_some_step (h14)]; dsimp only
  rfl

/-- EDIT RULE. -/
theorem EditRuleArgs.parse_bytes (slot : Nat) (en : Bool) (kind pattern m classes : Nat) (label : Text)
    (price acc ded hold : Nat) (adj : Int) (h1 : slot < 256) (h2 : kind < 256) (h3 : pattern < 256 ^ 4)
    (h4 : m < 256 ^ 2) (h5 : classes < 256) (h6 : label.length ≤ 255) (h7 : price < 256 ^ 4) (h8 : acc < 256)
    (h9 : ded < 256 ^ 2) (h10 : hold < 256 ^ 2) (h11 : -2147483648 ≤ adj) (h12 : adj ≤ 2147483647) :
    EditRuleArgs.parse (numBytes 1 slot ++ yesNoBytes en ++ numBytes 1 kind ++ numBytes 4 pattern ++ numBytes 2 m
        ++ numBytes 1 classes ++ textBytes label ++ numBytes 4 price ++ numBytes 1 acc ++ numBytes 2 ded
        ++ numBytes 2 hold ++ intBytes 4 adj)
      = some ⟨slot, if en then 1 else 0, kind, pattern, m, classes, label, price, acc, ded, hold, adj⟩ := by
  rw [yesNoBytes_eq]
  exact EditRuleArgs.parse_nums _ _ _ _ _ _ _ _ _ _ _ _ h1 (by cases en <;> decide) h2 h3 h4 h5 h6 h7 h8 h9 h10 h11 h12

/-- SET CLOCK. -/
theorem parseClock_bytes (day second : Nat) (h1 : day < 256 ^ 2) (h2 : second < 256 ^ 3) :
    parseClock (numBytes 2 day ++ numBytes 3 second) = some ⟨day, second⟩ := by
  simp [parseClock, takeNum_numBytes _ _ _ h1, takeNum_numBytes_end _ _ h2, endOf]

/-- FLOAT and LIFT. -/
theorem DrawerArgs.parse_bytes (p amount : Nat) (h1 : p < 256) (h2 : amount < 256 ^ 5) :
    DrawerArgs.parse (numBytes 1 p ++ numBytes 5 amount) = some ⟨p, amount⟩ := by
  simp [DrawerArgs.parse, takeNum_numBytes 1 _ _ h1, takeNum_numBytes_end _ _ h2, endOf]

/-- SET HEADER. -/
theorem SetHeaderArgs.parse_bytes (line : Nat) (t : Text) (h1 : line < 256) (h2 : t.length ≤ 255) :
    SetHeaderArgs.parse (numBytes 1 line ++ textBytes t) = some ⟨line, t⟩ := by
  simp [SetHeaderArgs.parse, takeNum_numBytes 1 _ _ h1, takeText_textBytes_end _ h2, endOf]

end Sys2Proof.Machine
end

