-- ==== Sys2Proof/Laws/PerInstr.lean ====
section
/-! SUPPORT. The family `Encoding`: the body of a well-formed command's packet spells that command, one lemma for each
constructor of Instr. A row that is no command packet has no body. -/

namespace Sys2Proof.Laws.Encoding

/-- A well-formed command is the one its packet body spells at its port (Tables 9-3 and 9-9). -/
def Statement (i : Instr) : Prop :=
  ∀ (code : Nat) (k : Packet) (body : List Byte), i.wf = true → i.command? = some (code, k) → i.body? = some body →
    decodeBody k.port body = some i

/-- A row that is the command of its code satisfies the statement. -/
theorem of_command (i : Instr) (code : Nat) (k : Packet) (hc : i.command? = some (code, k))
    (hd : commandOfCode (BitVec.ofNat 8 code) k = i) : Statement i := by
  intro code' k' body _ hc' hb
  obtain ⟨rfl, rfl⟩ : code = code' ∧ k = k' := by simpa [hc] using hc'
  simp only [Instr.body?, hc, Option.map_some, Option.some.injEq] at hb
  subst hb
  exact congrArg some hd

/-- A row that is no command packet satisfies the statement. -/
theorem of_no_command (i : Instr) (hc : i.command? = none) : Statement i := by
  intro _ _ _ _ h _
  simp [hc] at h

/-- The body of READ_STATUS spells it. -/
theorem readStatus (k : Packet) : Statement (.readStatus k) := of_command _ 1 k rfl rfl

/-- The body of PORT_RESET spells it. -/
theorem portReset (k : Packet) : Statement (.portReset k) := of_command _ 2 k rfl rfl

/-- The body of CONFIGURE_PORT spells it. -/
theorem configurePort (k : Packet) : Statement (.configurePort k) := of_command _ 3 k rfl rfl

/-- The body of SET_OPTION spells it. -/
theorem setOption (k : Packet) : Statement (.setOption k) := of_command _ 4 k rfl rfl

/-- The body of CLEAR_FAULT spells it. -/
theorem clearFault (k : Packet) : Statement (.clearFault k) := of_command _ 5 k rfl rfl

/-- The body of SYSTEM_RESET spells it. -/
theorem systemReset (k : Packet) : Statement (.systemReset k) := of_command _ 6 k rfl rfl

/-- The body of CONFIGURE_SCALE spells it. -/
theorem configureScale (k : Packet) : Statement (.configureScale k) := of_command _ 7 k rfl rfl

/-- The body of ZERO spells it. -/
theorem zero (k : Packet) : Statement (.zero k) := of_command _ 8 k rfl rfl

/-- The body of READ_SCALE spells it. -/
theorem readScale (k : Packet) : Statement (.readScale k) := of_command _ 9 k rfl rfl

/-- The body of OPEN_TICKET spells it. -/
theorem openTicket (k : Packet) : Statement (.openTicket k) := of_command _ 10 k rfl rfl

/-- The body of ADD_LINE spells it. -/
theorem addLine (k : Packet) : Statement (.addLine k) := of_command _ 11 k rfl rfl

/-- The body of REMOVE_LINE spells it. -/
theorem removeLine (k : Packet) : Statement (.removeLine k) := of_command _ 12 k rfl rfl

/-- The body of SET_DEDUCTION spells it. -/
theorem setDeduction (k : Packet) : Statement (.setDeduction k) := of_command _ 13 k rfl rfl

/-- The body of KEY_WEIGHT spells it. -/
theorem keyWeight (k : Packet) : Statement (.keyWeight k) := of_command _ 14 k rfl rfl

/-- The body of ACCEPT_MARGIN spells it. -/
theorem acceptMargin (k : Packet) : Statement (.acceptMargin k) := of_command _ 15 k rfl rfl

/-- The body of CAPTURE spells it. -/
theorem capture (k : Packet) : Statement (.capture k) := of_command _ 16 k rfl rfl

/-- The body of VOID_TICKET spells it. -/
theorem voidTicket (k : Packet) : Statement (.voidTicket k) := of_command _ 17 k rfl rfl

/-- The body of REOPEN_TICKET spells it. -/
theorem reopenTicket (k : Packet) : Statement (.reopenTicket k) := of_command _ 18 k rfl rfl

/-- The body of READ_TICKET spells it. -/
theorem readTicket (k : Packet) : Statement (.readTicket k) := of_command _ 19 k rfl rfl

/-- The body of LIST_TICKETS spells it. -/
theorem listTickets (k : Packet) : Statement (.listTickets k) := of_command _ 20 k rfl rfl

/-- The body of STORE_TARE spells it. -/
theorem storeTare (k : Packet) : Statement (.storeTare k) := of_command _ 21 k rfl rfl

/-- The body of DROP_TARE spells it. -/
theorem dropTare (k : Packet) : Statement (.dropTare k) := of_command _ 22 k rfl rfl

/-- The body of READ_TARE spells it. -/
theorem readTare (k : Packet) : Statement (.readTare k) := of_command _ 23 k rfl rfl

/-- The body of USE_STORED_TARE spells it. -/
theorem useStoredTare (k : Packet) : Statement (.useStoredTare k) := of_command _ 24 k rfl rfl

/-- The body of EDIT_RULE spells it. -/
theorem editRule (k : Packet) : Statement (.editRule k) := of_command _ 25 k rfl rfl

/-- The body of COMMIT_PRICES spells it. -/
theorem commitPrices (k : Packet) : Statement (.commitPrices k) := of_command _ 26 k rfl rfl

/-- The body of DISCARD_PRICES spells it. -/
theorem discardPrices (k : Packet) : Statement (.discardPrices k) := of_command _ 27 k rfl rfl

/-- The body of READ_RULE spells it. -/
theorem readRule (k : Packet) : Statement (.readRule k) := of_command _ 28 k rfl rfl

/-- The body of CLOSE_TICKET spells it. -/
theorem closeTicket (k : Packet) : Statement (.closeTicket k) := of_command _ 29 k rfl rfl

/-- The body of SET_CLOCK spells it. -/
theorem setClock (k : Packet) : Statement (.setClock k) := of_command _ 30 k rfl rfl

/-- The body of RELEASE_HOLD spells it. -/
theorem releaseHold (k : Packet) : Statement (.releaseHold k) := of_command _ 31 k rfl rfl

/-- The body of FLOAT spells it. -/
theorem float (k : Packet) : Statement (.float k) := of_command _ 32 k rfl rfl

/-- The body of LIFT spells it. -/
theorem lift (k : Packet) : Statement (.lift k) := of_command _ 33 k rfl rfl

/-- The body of READ_DRAWER spells it. -/
theorem readDrawer (k : Packet) : Statement (.readDrawer k) := of_command _ 34 k rfl rfl

/-- The body of PAY spells it. -/
theorem pay (k : Packet) : Statement (.pay k) := of_command _ 35 k rfl rfl

/-- The body of LOCK_PRINTER spells it. -/
theorem lockPrinter (k : Packet) : Statement (.lockPrinter k) := of_command _ 36 k rfl rfl

/-- The body of UNLOCK_PRINTER spells it. -/
theorem unlockPrinter (k : Packet) : Statement (.unlockPrinter k) := of_command _ 37 k rfl rfl

/-- The body of CANCEL_JOB spells it. -/
theorem cancelJob (k : Packet) : Statement (.cancelJob k) := of_command _ 38 k rfl rfl

/-- The body of PRINT_COPY spells it. -/
theorem printCopy (k : Packet) : Statement (.printCopy k) := of_command _ 39 k rfl rfl

/-- The body of SET_HEADER spells it. -/
theorem setHeader (k : Packet) : Statement (.setHeader k) := of_command _ 40 k rfl rfl

/-- The body of READ_PRINTER spells it. -/
theorem readPrinter (k : Packet) : Statement (.readPrinter k) := of_command _ 41 k rfl rfl

/-- The body of READ_TOTALS spells it. -/
theorem readTotals (k : Packet) : Statement (.readTotals k) := of_command _ 42 k rfl rfl

/-- The body of END_DAY spells it. -/
theorem endDay (k : Packet) : Statement (.endDay k) := of_command _ 43 k rfl rfl

/-- The body of SUBSCRIBE spells it. -/
theorem subscribe (k : Packet) : Statement (.subscribe k) := of_command _ 44 k rfl rfl

/-- The body of RELEASE_ATTENTION spells it. -/
theorem releaseAttention (k : Packet) : Statement (.releaseAttention k) := of_command _ 45 k rfl rfl

/-- The body of READ_ATTENTION spells it. -/
theorem readAttention (k : Packet) : Statement (.readAttention k) := of_command _ 46 k rfl rfl

/-- The body of CLEAR_OVERFLOW spells it. -/
theorem clearOverflow (k : Packet) : Statement (.clearOverflow k) := of_command _ 47 k rfl rfl

/-- A code outside Table 9-9 is read as an unknown command. -/
theorem commandOfCode_unknown (code : Byte) (k : Packet) (h : knownCode code = false) :
    commandOfCode code k = .unknownCommand k code := by
  have h : ¬(1 ≤ code.toNat ∧ code.toNat ≤ 47) := by simpa [knownCode] using h
  unfold commandOfCode
  split <;> first | rfl | omega

/-- The body of UNKNOWN_COMMAND spells it. -/
theorem unknownCommand (k : Packet) (c : Byte) : Statement (.unknownCommand k c) := by
  intro code k' body hw hc hb
  simp only [Instr.command?, Option.some.injEq, Prod.mk.injEq] at hc
  obtain ⟨rfl, rfl⟩ := hc
  simp only [Instr.body?, Instr.command?, Option.map_some, Option.some.injEq] at hb
  subst hb
  simp only [Instr.wf, Bool.and_eq_true, Bool.not_eq_true'] at hw
  rw [decodeBody, BitVec.ofNat_toNat, BitVec.setWidth_eq, commandOfCode_unknown _ _ hw.2]

/-- DISCARDED_PACKET is no command packet. -/
theorem discardedPacket (p : PortId) (body : List Byte) : Statement (.discardedPacket p body) := of_no_command _ rfl

/-- FRAME_ABANDONED is no command packet. -/
theorem frameAbandoned (p : PortId) (cause : AbandonCause) : Statement (.frameAbandoned p cause) := of_no_command _ rfl

/-- INTER_BYTE_TIMEOUT is no command packet. -/
theorem interByteTimeout (p : PortId) : Statement (.interByteTimeout p) := of_no_command _ rfl

/-- FRAME_SENT is no command packet. -/
theorem frameSent (p : PortId) : Statement (.frameSent p) := of_no_command _ rfl

/-- ATTENTION_HANDOVER is no command packet. -/
theorem attentionHandover (p : PortId) : Statement (.attentionHandover p) := of_no_command _ rfl

/-- READING_FRAME is no command packet. -/
theorem readingFrame (c : ChannelId) (raw : Int) (status : HeadStatus) (checkHolds : Bool) : Statement (.readingFrame c raw status checkHolds) := of_no_command _ rfl

/-- STALE_EXPIRY is no command packet. -/
theorem staleExpiry (c : ChannelId) : Statement (.staleExpiry c) := of_no_command _ rfl

/-- CAPTURE_TIMEOUT is no command packet. -/
theorem captureTimeout (c : ChannelId) : Statement (.captureTimeout c) := of_no_command _ rfl

/-- PRINTER_STATUS_FRAME is no command packet. -/
theorem printerStatusFrame (r : PrinterId) (status : PrinterReport) (checkHolds : Bool) : Statement (.printerStatusFrame r status checkHolds) := of_no_command _ rfl

/-- PRINTER_ANSWER is no command packet. -/
theorem printerAnswer (r : PrinterId) (answer : PrinterAnswer) (checkHolds : Bool) : Statement (.printerAnswer r answer checkHolds) := of_no_command _ rfl

/-- ANSWER_TIMER_EXPIRY is no command packet. -/
theorem answerTimerExpiry (r : PrinterId) : Statement (.answerTimerExpiry r) := of_no_command _ rfl

/-- STATUS_TIMER_EXPIRY is no command packet. -/
theorem statusTimerExpiry (r : PrinterId) : Statement (.statusTimerExpiry r) := of_no_command _ rfl

/-- ARBITER_TAKE is no command packet. -/
theorem arbiterTake (r : PrinterId) : Statement (.arbiterTake r) := of_no_command _ rfl

/-- OWED_RECEIPT_SERVICE is no command packet. -/
theorem owedReceiptService : Statement (.owedReceiptService) := of_no_command _ rfl

/-- CLOCK_ADVANCE is no command packet. -/
theorem clockAdvance : Statement (.clockAdvance) := of_no_command _ rfl

/-- HOLD_EXPIRY is no command packet. -/
theorem holdExpiry (ticket : Nat) : Statement (.holdExpiry ticket) := of_no_command _ rfl

/-- POWER_UP is no command packet. -/
theorem powerUp : Statement (.powerUp) := of_no_command _ rfl

/-- MAIN_SUPPLY_FAIL is no command packet. -/
theorem mainSupplyFail : Statement (.mainSupplyFail) := of_no_command _ rfl

/-- RESET_LINE_ASSERT is no command packet. -/
theorem resetLineAssert : Statement (.resetLineAssert) := of_no_command _ rfl

/-- RESET_LINE_RELEASE is no command packet. -/
theorem resetLineRelease : Statement (.resetLineRelease) := of_no_command _ rfl

/-- START_BYTE is no command packet. -/
theorem startByte (p : PortId) : Statement (.startByte p) := of_no_command _ rfl

/-- BATTERY_FAILURE is no command packet. -/
theorem batteryFailure : Statement (.batteryFailure) := of_no_command _ rfl

end Sys2Proof.Laws.Encoding
end

