-- ==== Sys2Proof/Laws/Settlement.lean ====
section
/-! SUPPORT. The reply of a CLOSE TICKET that passes its checks, note by note and byte by byte (R101). -/

namespace Sys2Proof.Machine

/-- The reply of a close: PRICE_CLAMPED when a line was clamped, HELD when the ticket is HELD; the total, the state, the generation
and the release time (R101). -/
theorem closeAnswer_settled (s : State) (t : Ticket) : ∃ r : Settlement, (s.settled t).settlement = some r ∧
    closeAnswer (s.settled t) = answerWith
      (notesOf [((s.settled t).lines.any fun ln => ln.pricing.any fun p => p.clamped, .priceClamped),
        (decide ((s.settled t).state = .held), .held)])
      (numBytes 5 r.total ++ numBytes 1 (if (s.settled t).state = .held then 1 else 2) ++ numBytes 2 r.generation ++
        match r.release with
        | none => List.replicate 6 0#8
        | some time => 1#8 :: (numBytes 2 time.day ++ numBytes 3 time.second)) := by
  refine ⟨_, rfl, ?_⟩
  unfold closeAnswer
  simp only [State.settled]
  rcases Option.eq_none_or_eq_some
    (s.settlementOf t (t.lines.map (Line.priced s.settings.roundingMode s.active t.customerClass))).release with h | ⟨v, h⟩
  · simp [h, optBytes, TicketState.code, Ticket.anyClamped]
  · simp [h, optBytes, TicketState.code, Ticket.anyClamped, timeBytes]

end Sys2Proof.Machine
end

