-- ==== Sys2Proof/Tests/Slice0.lean ====
section
/-! SUPPORT. The model's own tests: the forms WellFormed refuses, worked examples of the spec, and for each obligation with
hypotheses a state and operands that meet them. -/

namespace Sys2Proof.Tests

open Sys2Proof.Machine

/-! ### WellFormed refuses the ill-formed -/

/-- A packet of port 0 with tag 5. -/
def pack (params : List Byte) : Packet := { port := 0, tag := 5#8, params := params }

/-- A packet of a port with tag 5. -/
def packOf (p : PortId) (params : List Byte) : Packet := { port := p, tag := 5#8, params := params }

set_option maxRecDepth 4000 in
theorem test_wf_refuses_long_params : Instr.wf (.zero (pack (List.replicate 249 0#8))) = false := by
  decide
set_option maxRecDepth 4000 in
theorem test_wf_takes_full_params : Instr.wf (.zero (pack (List.replicate 248 0#8))) = true := by
  decide
theorem test_wf_refuses_known_code : Instr.wf (.unknownCommand (pack []) 47#8) = false := by decide
set_option maxRecDepth 4000 in
theorem test_wf_refuses_long_unknown : Instr.wf (.unknownCommand (pack (List.replicate 249 0#8)) 48#8) = false := by
  decide
theorem test_wf_takes_unknown : Instr.wf (.unknownCommand (pack []) 48#8) = true := by decide
theorem test_wf_refuses_short_body : Instr.wf (.discardedPacket 0 [0#8]) = false := by decide
set_option maxRecDepth 4000 in
theorem test_wf_refuses_long_body : Instr.wf (.discardedPacket 0 (List.replicate 251 0#8)) = false := by
  decide
theorem test_wf_takes_body : Instr.wf (.discardedPacket 0 [0#8, 0#8]) = true := by decide
theorem test_wf_refuses_hold_zero : Instr.wf (.holdExpiry 0) = false := by decide
theorem test_wf_refuses_hold_large : Instr.wf (.holdExpiry 1000000) = false := by decide
theorem test_wf_takes_hold : Instr.wf (.holdExpiry 999999) = true := by decide

/-! ### Words of the table, and bodies -/

/-- The table gives its rows no bits, so no word spells a command. -/
theorem test_no_word_spells_a_command : decodeTableWord 32 0 = none := by decide

/-- The body 05 08 02 is ZERO on channel 2 with tag 5 (Table 9-9, code 8). -/
theorem test_body_zero : decodeBody 0 [5#8, 8#8, 2#8] = some (.zero (pack [2#8])) := by decide

/-- The body 05 3C is the unknown code 60 of Table 9-15. -/
theorem test_body_unknown : decodeBody 0 [5#8, 60#8] = some (.unknownCommand (pack []) 60#8) := by decide

/-- The frame of a ZERO with tag 1 on channel 0: D7 03 01 08 00 09 00 (Table 9-2). -/
theorem test_frame_zero : frameBytes [1#8, 8#8, 0#8] = [0xD7#8, 3#8, 1#8, 8#8, 0#8, 9#8, 0#8] := by decide

/-! ### Worked examples of the spec -/

/-- Table 1-2. -/
theorem test_table_1_2 :
    [roundWeight 200 0 99, roundWeight 200 0 100, roundWeight 200 0 (-100), roundWeight 200 0 (-101),
      roundWeight 200 0 243650, roundWeight 5 0 2, roundWeight 5 0 3, roundWeight 2 0 4125, roundWeight 2 0 (-3),
      roundWeight 1 0 (-7)] = [0, 200, 0, -200, 243600, 0, 5, 4126, -2, -7] := by decide

/-- Table 6-4: the cash amounts. -/
theorem test_table_6_4_amounts :
    [cashAmount 1 582272, cashAmount 5 582272, cashAmount 5 582273, cashAmount 10 582272, cashAmount 10 582275,
      cashAmount 10 582276, cashAmount 50 582272, cashAmount 50 582275, cashAmount 50 582276, cashAmount 50 25,
      cashAmount 10 0]
    = [582272, 582270, 582275, 582270, 582270, 582280, 582250, 582250, 582300, 0, 0] := by decide

/-- Table 6-4: the cash roundings. -/
theorem test_table_6_4_roundings :
    [cashRounding 1 582272, cashRounding 5 582272, cashRounding 5 582273, cashRounding 10 582275, cashRounding 50 582276]
    = [0, -2, 2, -5, 24] := by decide

/-- An enabled BASE rule for the customer classes of a set. -/
def base (pattern m : Nat) (classes : BitVec 4) (price : Nat) (accepts : Bool) (ded hold : Nat) : Rule :=
  { Rule.cold with
    enabled := true, pattern := pattern, matchLength := m, classes := classes, price := price,
    acceptsAdjustments := accepts, defaultDeduction := ded, holdHours := hold }

/-- An enabled ADJUST rule. -/
def adjust (pattern m : Nat) (classes : BitVec 4) (amount : Int) : Rule :=
  { Rule.cold with
    enabled := true, kind := .adjust, pattern := pattern, matchLength := m, classes := classes, adjustment := amount }

/-- The bank of Table 4-4 with the three rules of Table 4-6. -/
def bank : Bank :=
  #v[Rule.cold, Rule.cold, Rule.cold, base 120000 2 15#4 230 true 0 0, Rule.cold, Rule.cold, Rule.cold, Rule.cold,
     Rule.cold, base 120100 4 6#4 242 true 20 0, Rule.cold, Rule.cold, Rule.cold, Rule.cold, adjust 120000 2 2#4 8,
     adjust 0 0 8#4 (-5), adjust 990000 2 6#4 8, Rule.cold, Rule.cold, Rule.cold, base 310000 2 15#4 7450 false 0 0,
     base 330200 4 15#4 1900 false 0 72, Rule.cold, Rule.cold, Rule.cold, Rule.cold, Rule.cold, Rule.cold, Rule.cold,
     Rule.cold, base 990000 2 15#4 4 true 0 0, base 995000 4 15#4 99995 true 0 0]

/-- The slot, adjustment, effective price and clamped flag of a lookup. -/
def figures (grade : Nat) (cls : CustomerClass) : Option (Fin 32 × Int × Nat × Bool) :=
  (bank.lookup grade cls).map fun l => (l.slot, l.adjust, l.effective, l.clamped)

/-- Table 4-5. -/
theorem test_table_4_5 :
    [figures 120105 .account, figures 120105 .walkin, figures 120105 .demolition, figures 120105 .dealer,
      figures 129000 .account, figures 310200 .demolition, figures 330210 .walkin, figures 330110 .account]
    = [some (9, 8, 250, false), some (3, 0, 230, false), some (3, -5, 225, false), some (9, 0, 242, false),
        some (3, 8, 238, false), some (20, 0, 7450, false), some (21, 0, 1900, false), none] := by decide

/-- Table 4-6. -/
theorem test_table_4_6 :
    [figures 990100 .demolition, figures 990100 .walkin, figures 995012 .account, figures 995012 .demolition]
    = [some (30, -5, 0, true), some (30, 0, 4, false), some (31, 8, 99999, true), some (31, -5, 99990, false)] := by decide

/-- A keyed or scale weighing of day 1. -/
def weigh (weight : Nat) (source : Source) : Weighing :=
  { weight := weight, margin := false, source := source, number := 1, time := { day := 1, second := 0 } }

/-- The amounts of the two lines of the worked settlement of section 5.8. -/
theorem test_worked_settlement :
    (Line.priced .nearest bank .account
        { Line.fresh 120105 with gross := some (weigh 243600 (.scale 0)), tare := some (weigh 117800 .stored),
                                 deduction := some 35 }).amount = 303493 ∧
      (Line.priced .nearest bank .account
        { Line.fresh 310200 with gross := some (weigh 4126 (.scale 2)), tare := some (weigh 384 (.scale 2)) }).amount
          = 278779 := by decide

/-- The receipt lengths of section 11.4: 19, 17 and 19 lines. -/
theorem test_receipt_lengths :
    receiptLength .settlement 2 2 1 = 19 ∧ receiptLength .payout 2 1 1 = 17 ∧ reportLength 2 5 = 19 := by decide

/-! ### A part in the middle of a day -/

/-- A line with both weighings keyed. -/
def fullLine : Line :=
  { Line.fresh 100001 with gross := some (weigh 30000 .keyed), tare := some (weigh 1000 .keyed) }

/-- A line that waits for its tare. -/
def grossLine : Line := { Line.fresh 100001 with gross := some (weigh 30000 .keyed) }

/-- A ticket of one state with its lines, its other fields empty. -/
def ticket (number : Nat) (state : TicketState) (lines : List Line) : Ticket :=
  { number := number, state := state, customerClass := .account, customer := none, plate := none,
    openedAt := { day := 1, second := 0 }, openedBy := 0, lines := lines, marginAccepted := false, settlement := none,
    payout := none, owed := none, settlementPrinted := false, voidReason := none, voidPort := none }

/-- A settlement of 582,272 cents with a release time. -/
def settled (release : Option ClockTime) : Option Settlement :=
  some { closed := { day := 1, second := 0 }, generation := 0, total := 582272, release := release }

/-- An owed SETTLEMENT receipt of stamp 1 on PR0. -/
def owedSettlement : Owed := { kind := .settlement, printer := 0, port := 1, stamp := 1, started := false }

/-- The tickets of the part: 1 OPEN with a plate and a line under capture, 2 HELD and due, 3 PAYABLE with an owed receipt,
4 PAID, 5 OPEN without lines, 6 HELD for another day, 7 OPEN and ready to close, 8 VOID. -/
def tickets : List Ticket :=
  [{ ticket 1 .opened [grossLine, { grossLine with mark := some .tare }, Line.fresh 100001] with plate := some [0x41#8] },
   { ticket 2 .held [fullLine] with settlement := settled (some { day := 1, second := 0 }) },
   { ticket 3 .payable [fullLine] with settlement := settled none, owed := some owedSettlement },
   { ticket 4 .paid [fullLine] with settlement := settled none, settlementPrinted := true },
   ticket 5 .opened [],
   { ticket 6 .held [fullLine] with settlement := settled (some { day := 2, second := 0 }) },
   ticket 7 .opened [fullLine],
   ticket 8 .voided []]

/-- A job on a printer from a source. -/
def job (id : Nat) (printer : PrinterId) (kind : JobKind) (source : JobSource) (state : JobState) (total printed : Nat) : Job :=
  { id := id, printer := printer, kind := kind, source := source, port := 1, rank := 1, age := id, state := state,
    counted := [], marks := [], markLine := [], total := total, printed := printed, frozen := none }

/-- A channel of d = 20 and Max = 60,000 in a state with a window of three readings. -/
def channelOf (state : ChannelState) (window : List Reading) : Channel :=
  { Channel.cold with
    config := { enabled := true, capacity := 60000, division := 20, windowLength := 3, staleLimit := 1000 }
    state := state, window := window, zeroRequired := false, stale := some 1000 }

/-- A reading of 1,000 units. -/
def reading : Reading := { raw := 1000, weight := 1000, readingClass := .normal }

/-- A capture of line 2 of ticket 1 from P1. -/
def waiting : Capture := { owner := .line 1 2 .tare 0, port := 1, tag := 9#8, expiry := 9000 }

/-- A printer with a status and an awaited answer of a job. -/
def printerOf (status : PrinterStatus) (awaited : Option Awaited) : Printer :=
  { Printer.start 0 with status := status, awaited := awaited }

/-- Four waiting frames. -/
def fourFrames : List Frame := List.replicate 4 (.reply { tag := 1#8, answer := .success [] })

/-- P1 with a CAPTURE in progress. -/
def busyPort : Port := { Port.start .scalehouse 0 none with busy := some { kind := .capture, tag := 9#8 } }

/-- A part in the middle of a day: P1 waits for the capture of line 2 of ticket 1 on SC1, SC0 is STABLE, SC2 in MOTION,
SC3 in NO_DATA; P3 has four frames waiting; PR0 awaits the answer to the BEGIN of job 1. -/
def site : State :=
  { State.reset with
    ports := #v[Port.start .supervisor 0 none, busyPort, Port.start .payout 1 (some { balance := 600000, paidToday := 0 }),
                { Port.start .yard 0 none with out := fourFrames }]
    channels := #v[channelOf .stable [reading, reading, reading],
                   { channelOf .motion [reading] with slot := some waiting },
                   channelOf .motion [reading, reading], channelOf .noData []]
    printers := #v[printerOf .ready (some { frame := .begin, job := 1, expiry := 2000 }), printerOf .ready none]
    tickets := tickets
    tares := [{ plate := [0x41#8], tare := weigh 1000 (.scale 0), channel := 0 }]
    active := bank, edit := some bank
    report := some { day := 1, totals := Totals.zero, labels := Vector.replicate 32 [], time := { day := 1, second := 0 },
                     owed := some { printer := 0, port := 0, stamp := 2, started := false } }
    jobs := [job 1 0 (.ticket .settlement) (.owed 3 1) .taken 12 0, job 2 1 (.copy .payout) (.copyTicket 4) .queued 14 0]
    nextJob := 3, nextAge := 3, nextStamp := 3, nextTicket := 9 }

/-- The same part with one port, channel or printer replaced. -/
def sitePort (p : PortId) (x : Port) : State := site.setPort p x
def siteChannel (c : ChannelId) (x : Channel) : State := site.setChannel c x
def sitePrinter (r : PrinterId) (x : Printer) : State := site.setPrinter r x
/-- The roles of the part's ports, and their command in progress. -/
theorem test_site_takes : site.takes (pack []) ∧ site.takes (packOf 2 []) ∧ (site.port 0).role = .supervisor ∧
    (site.port 2).role = .payout ∧ ¬site.takes (packOf 1 []) := by decide

/-- The captures of the part and their ports belong together. -/
theorem test_site_capturesStand : site.capturesStand := by
  have h : ∀ c, (site.channel c).slot = if c = 1 then some waiting else none := by decide
  refine ⟨?_, ?_, ?_, by decide⟩
  · intro c cap hc
    rw [h] at hc
    split_ifs at hc with e
    cases hc
    decide
  · intro c d a b hc hd _
    rw [h] at hc hd
    split_ifs at hc hd with e1 e2
    rw [e1, e2]
  · intro q hq
    refine ⟨1, waiting, by decide, ?_⟩
    revert hq
    revert q
    decide

/-- The line under capture is marked. -/
theorem test_site_marksStand : site.marksStand := by
  have h : ∀ c, (site.channel c).slot = if c = 1 then some waiting else none := by decide
  refine ⟨?_, ?_⟩
  · intro c cap n k role grade hc ho
    rw [h] at hc
    split_ifs at hc with e
    cases hc
    cases ho
    exact ⟨tickets[0], { grossLine with mark := some .tare }, by decide, by decide, by decide, by decide⟩
  · intro c d a b n k r1 g1 r2 g2 hc hd _ _
    rw [h] at hc hd
    split_ifs at hc hd with e1 e2
    rw [e1, e2]

/-- The pool of the part stands. -/
theorem test_site_poolStands : site.poolStands := by
  refine ⟨by decide, by decide, by decide, by decide, by decide, ?_⟩
  intro n j hj x hx h1 h2
  have hj' : j = job 1 0 (.ticket .settlement) (.owed 3 1) .taken 12 0 ∨ j = job 2 1 (.copy .payout) (.copyTicket 4) .queued 14 0 := by
    simpa [site] using hj
  have hx' : x = job 1 0 (.ticket .settlement) (.owed 3 1) .taken 12 0 ∨ x = job 2 1 (.copy .payout) (.copyTicket 4) .queued 14 0 := by
    simpa [site] using hx
  rcases hj' with rfl | rfl <;> rcases hx' with rfl | rfl <;> first | rfl | simp [job, Job.refersTo] at h1 h2

/-- The same part with a single job in its pool. -/
def siteJob (j : Job) : State := { site with jobs := [j] }

/-- A pool of a single job with an id of 1 to 255 stands. -/
theorem test_siteJob_poolStands (j : Job) (h : 1 ≤ j.id ∧ j.id ≤ 255) : (siteJob j).poolStands := by
  refine ⟨by simp [siteJob], by simp [siteJob], by simpa [siteJob] using h, by simp [siteJob, site], ?_, ?_⟩
  · intro a ha b hb _ _ _
    rw [List.mem_singleton.1 ha, List.mem_singleton.1 hb]
  · intro n a ha b hb _ _
    rw [List.mem_singleton.1 ha, List.mem_singleton.1 hb]

/-- The next state of an outcome, when it is one. -/
def next? (o : Result) : Option State :=
  match o with
  | .next t => some t
  | .fault _ => none
  | .refused _ => none

/-! ### For each obligation with hypotheses, operands and a state that meet them -/

theorem witness_StepTakesTheFrontCommand : ({ site with pending := [.powerUp] } : State).pending = Instr.powerUp :: [] := by
  decide

theorem witness_NothingTakenWhileNotRunning :
    ({ site with resetHigh := false } : State).running = false ∧ ({ site with mainSupply := false } : State).running = false ∧
    Instr.zero (pack []) ∉ [.clockAdvance, .powerUp, .mainSupplyFail, .resetLineAssert, .resetLineRelease, .batteryFailure] := by
  decide

theorem witness_PacketsDiscardedOrBusy :
    ((Instr.zero (packOf 3 [])).wf = true ∧ (Instr.zero (packOf 3 [])).command? = some (8, packOf 3 []) ∧
      site.running = true ∧ 4 ≤ (site.port 3).out.length) ∧
    (Instr.readStatus { port := 0, tag := 0#8, params := [] }).wf = true ∧
    (site.looksAt (packOf 1 []) ∧ (site.port 1).busy ≠ none ∧ (8 : Nat) ≠ 2) ∧
    (2 ≤ [0#8, 0#8].length ∧ [0#8, 0#8].length ≤ 250 ∧ [0#8, 0#8].head? = some 0#8) := by decide

set_option maxRecDepth 4000 in
theorem witness_PacketsDiscardedOrBusy_longest :
    (List.replicate 250 1#8).length ≤ 250 ∧ 4 ≤ (site.port 3).out.length := by decide

theorem witness_RefusalsBeforeTheOwner :
    ((Instr.readStatus (pack [1#8])).command? = some (1, pack [1#8]) ∧ fitsLayout (.readStatus (pack [1#8])) = false) ∧
    ((Instr.clearOverflow (pack [1#8])).command? = some (47, pack [1#8]) ∧
      fitsLayout (.clearOverflow (pack [1#8])) = false) ∧
    (fitsLayout (.zero (packOf 2 [0#8])) = true ∧ (site.port 2).role ∉ permitted 8) ∧
    knownCode 0#8 = false ∧ knownCode 48#8 = false ∧ site.takes (pack [1#8]) ∧ site.takes (packOf 2 [0#8]) := by decide

/-- A port with release on and one attention entry. -/
def readyPort : Port :=
  { Port.start .supervisor 0 none with
    release := true, attention := [{ event := .prices 1, time := { day := 1, second := 0 } }] }

theorem witness_ReceiversAndSenders :
    site.running = true ∧ (site.port 0).receiver = .hunting ∧
    ((sitePort 0 { Port.start .supervisor 0 none with receiver := .inFrame [3#8] 10 }).port 0).receiver = .inFrame [3#8] 10 ∧
    (site.port 3).out = .reply { tag := 1#8, answer := .success [] } :: fourFrames.tail ∧
    (((sitePort 0 readyPort).port 0).release = true ∧ ((sitePort 0 readyPort).port 0).busy = none ∧
      ((sitePort 0 readyPort).port 0).out = [] ∧ ((sitePort 0 readyPort).port 0).attention ≠ []) ∧
    (site.port 0).release = false := by decide

theorem witness_FramesCarryTheirCommands :
    (Instr.readStatus (pack [])).wf = true ∧ (Instr.readStatus (pack [])).command? = some (1, pack []) ∧
    (Instr.readStatus (pack [])).body? = some [5#8, 1#8] ∧
    (Instr.unknownCommand (pack [7#8]) 255#8).wf = true ∧
    (Instr.unknownCommand (pack [7#8]) 255#8).body? = some [5#8, 255#8, 7#8] := by decide

theorem witness_ReadsChangeNothing :
    site.takes (pack []) ∧ site.ticket? 1 = some tickets[0] ∧ tickets[0].lines[0]? = some grossLine ∧
    (site.port 0).role ∈ permitted 23 ∧ plateOk [0x61#8] = true ∧
    site.tares.find? (fun x => decide (x.plate = upperCase [0x61#8])) ≠ none ∧ site.edit = some bank ∧
    ((site.port 2).role = .payout ∧ (site.port 2).drawer = some { balance := 600000, paidToday := 0 }) ∧
    site.report ≠ none ∧ (site.port 0).role = .supervisor := by decide

theorem witness_PortResetClears :
    site.looksAt (packOf 1 []) ∧ site.capturesStand ∧ (site.tickets.map Ticket.number).Nodup :=
  ⟨by decide, test_site_capturesStand, by decide⟩

/-- A PORT RESET of P1 clears the mark of its capture's line, and a released lock of P0 tells P1 (R23, R153, R181). -/
theorem test_port_reset :
    (next? (exec (.portReset (packOf 1 [])) site)).map
        (fun t => ((t.ticket? 1).map fun k => k.lines.map Line.mark, (t.port 1).out.length, (t.channel 1).slot))
      = some (some [none, none, none], 1, none) ∧
    (let s : State := { sitePrinter 1 { printerOf .ready none with lock := .locked 0 } with
       ports := site.ports.set 1 { busyPort with subscription := 31#5 } }
     (next? (exec (.portReset (pack [])) s)).map (fun t => (t.port 1).attention.map Entry.event))
      = some [.printer 1 .ready .none] := by decide

theorem witness_ConfigurePortWrites :
    site.takes (pack [0#8, 3#8, 0#8, 4#8]) ∧ (site.port 0).role = .supervisor ∧
    (pack [0#8, 3#8, 0#8, 4#8]).params = numBytes 1 0 ++ numBytes 1 Role.payout.code ++ numBytes 1 0 ++ numBytes 1 4 ∧
    ((site.port 2).role = .payout ∧ (site.port 2).drawer.any fun d => decide (0 < d.balance)) ∧
    ((sitePort 2 (Port.start .payout 1 (some Drawer.empty))).port 2).drawer = some { balance := 0, paidToday := 0 } ∧
    (site.port 1).role ≠ .payout ∧ (site.port 3).role ≠ .payout := by decide

/-- Each byte of CONFIGURE PORT outside its set, and a handover to P1 from P0, which holds PR1's lock. -/
theorem witness_ConfigurePortWrites_range :
    (∀ b ∈ [[4#8, 1#8, 0#8, 4#8], [1#8, 4#8, 0#8, 4#8], [1#8, 1#8, 2#8, 4#8], [1#8, 1#8, 0#8, 0#8], [1#8, 1#8, 0#8, 5#8]],
      site.takes (pack b) ∧ next? (exec (.configurePort (pack b)) site) = some ((site.hunt 0).replied (pack b) (.stop .range 0))) ∧
    (let s : State := { sitePrinter 1 { printerOf .ready none with lock := .locked 0 } with
       ports := site.ports.set 1 { busyPort with subscription := 31#5 } }
     s.takes (pack [1#8, 0#8, 1#8, 2#8]) ∧
     (next? (exec (.configurePort (pack [1#8, 0#8, 1#8, 2#8])) s)).map (fun t =>
        ((t.port 0).role, (t.port 1).role, (t.port 1).attention.map Entry.event, (t.printer 1).lock))
      = some (.yard, .supervisor, [.printer 1 .ready .none], .none)) := by decide

theorem witness_SettingsWritten :
    site.takes (pack (numBytes 1 3 ++ numBytes 5 61)) ∧ (site.port 0).role = .supervisor ∧
    (1 < 256 ^ 5 ∧ 61 < 256 ^ 5 ∧ 9999999999 < 256 ^ 5 ∧ 10000000000 < 256 ^ 5) ∧
    (∀ c ∈ [0x20#8, 0x7E#8], 0x20 ≤ c.toNat ∧ c.toNat ≤ 0x7E) := by decide

theorem witness_RestartCauses :
    site.resetHigh = true ∧ site.mainSupply = true ∧ ({ site with mainSupply := false } : State).mainSupply = false ∧
    site.storeValid = true ∧ ({ site with signatureHolds := false } : State).storeValid = false ∧
    site.takes (pack []) ∧ (site.port 0).role = .supervisor := by decide

theorem witness_WarmRestartKeepsTheStore : (site.tickets.map Ticket.number).Nodup ∧
    (site.tickets.map fun t => t.due site.clock) = [false, true, false, false, false, false, false, false] := by decide

/-- A restart of the part: its COPY job is lost, and the receipts of ticket 3 and of the day report get jobs 1 and 2, in owed order. -/
theorem witness_RestartStartsVolatileState :
    site.restart.jobs.map (fun j => (j.id, j.age, j.source)) = [(1, 1, .owed 3 1), (2, 2, .report 2)] ∧
    (site.restart.nextJob, site.restart.nextAge) = (3, 3) ∧
    (let s : State := { site with signatureHolds := false }
     (s.restart.jobs, s.restart.nextJob, s.restart.nextAge) = ([], 1, 1)) := by decide

theorem witness_RestartStartsVolatileState_served :
    (site.tickets.map Ticket.number).Nodup ∧ site.storeValid = true ∧ site.restart.jobs.length < 12 ∧
    (∃ x ∈ site.restart.owedItems, ∃ y ∈ site.restart.owedItems, x.stamp < y.stamp ∧ site.restart.served y = true) := by decide

theorem witness_RoundedWeightIsNearest : 0 < 1 ∧ 0 < 500 := by decide

theorem witness_ArrivalsAreClassed : 1 ≤ (site.channel 0).config.windowLength ∧
    (roundWeight 20 0 (-420) < -20 * (20 : Int) ∧ roundWeight 20 0 (-400) = -20 * 20 ∧ roundWeight 20 0 60000 = 60000 ∧
      roundWeight 20 0 60180 = 60000 + 9 * 20 ∧ 60000 + 9 * (20 : Int) < roundWeight 20 0 60200) := by decide

theorem witness_ReadingFramesTaken :
    site.running = true ∧ (site.channel 1).state ≠ .off ∧ 1 ≤ (site.channel 1).config.windowLength ∧
    (site.channel 1).slot = some waiting ∧ (site.channel 1).state = .motion ∧ (site.channel 2).slot = none ∧
    (State.reset.channel 0).state = .off := by decide

/-- A reading of a raw value on a channel of d = 20 and Max = 60,000 with Z = 0. -/
def readingOf (raw : Int) (high : Bool) : Reading :=
  { raw := raw, weight := roundWeight 20 0 raw, readingClass := classify (site.channel 0).config high (roundWeight 20 0 raw) }

/-- The part after the third equal reading of SC1, on which P1's capture for an owner waits. -/
def completed (owner : CaptureOwner) (raw : Int) (high : Bool) : Option State :=
  next? (exec (.readingFrame 1 raw (if high then .overrange else .ok) true)
    (siteChannel 1 { channelOf .motion [readingOf raw high, readingOf raw high] with slot := some { waiting with owner := owner } }))

/-- Whether such a capture ended, with its channel STABLE, its slot and its port free, and the number of weighings given. -/
def ended (owner : CaptureOwner) (raw : Int) (high : Bool) : Option (Bool × Nat) :=
  (completed owner raw high).map fun t =>
    (decide ((t.channel 1).state = .stable ∧ (t.channel 1).slot = none ∧ (t.port 1).busy = none ∧ (t.port 1).out.length = 1),
      t.nextWeighing - site.nextWeighing)

theorem witness_ReadingFramesTaken_line :
    (site.ticket? 1 = some tickets[0] ∧ tickets[0].line? 2 = some { grossLine with mark := some .tare }) ∧
    [ended (.line 1 2 .tare 0) 0 false, ended (.line 1 2 .tare 0) (-20) false, ended (.line 1 2 .tare 0) (-420) false,
      ended (.line 1 2 .gross 0) 400 false, ended (.line 1 2 .gross 0) 380 false, ended (.line 1 2 .gross 0) 60180 false,
      ended (.line 1 2 .gross 0) 60200 false, ended (.line 1 2 .gross 0) 1000 true, ended (.line 1 1 .chain 7) 400 false,
      ended (.line 1 1 .chain 7) 380 false]
    = [some (true, 1), some (true, 0), some (true, 0), some (true, 1), some (true, 0), some (true, 1), some (true, 0),
        some (true, 0), some (true, 1), some (true, 0)] := by decide

theorem witness_ReadingFramesTaken_tare :
    [ended (.tare [0x41#8]) 400 false, ended (.tare [0x42#8]) 400 false, ended (.tare [0x41#8]) 380 false,
      ended (.tare [0x41#8]) 60020 false] = [some (true, 1), some (true, 1), some (true, 0), some (true, 0)] := by decide

/-- A first reading leaves SC1 in MOTION and its capture in the slot. -/
theorem witness_ReadingFramesTaken_waits :
    (next? (exec (.readingFrame 1 1000 .ok true) site)).map (fun t => ((t.channel 1).state, (t.channel 1).slot))
      = some (.motion, some waiting) := by decide

/-- A channel that becomes STABLE tells so, and a stale channel too (R10). -/
theorem test_scale_events :
    let s := (siteChannel 2 (channelOf .motion [reading, reading])).setPort 0 { Port.start .supervisor 0 none with subscription := 31#5 }
    (next? (exec (.readingFrame 2 1000 .ok true) s)).map (fun t => (t.port 0).attention.map Entry.event)
      = some [.scale 2 .stable false] ∧
    (next? (exec (.staleExpiry 2) s)).map (fun t => (t.port 0).attention.map Entry.event)
      = some [.scale 2 .noData false] := by decide

theorem witness_ConfigureScaleWrites :
    site.takes (pack (numBytes 1 0 ++ yesNoBytes true ++ numBytes 4 1000 ++ numBytes 4 2 ++ numBytes 1 2 ++ numBytes 4 199)) ∧
    (site.port 0).role = .supervisor ∧ (site.channel 0).slot = none ∧
    (2 ∈ [1, 2, 5, 10, 20, 50, 100, 200, 500] ∧ 1000 % 2 = 0 ∧ 500 ≤ 1000 / 2) ∧
    (100 ∈ [1, 2, 5, 10, 20, 50, 100, 200, 500] ∧ 1000000 % 100 = 0 ∧ 1000000 / 100 ≤ 10000) := by decide

theorem witness_ConfigureScaleWrites_refusals :
    site.takes (pack (numBytes 1 4 ++ numBytes 1 1 ++ numBytes 4 1000 ++ numBytes 4 2 ++ numBytes 1 3 ++ numBytes 4 200)) ∧
    (site.port 0).role = .supervisor ∧ (site.channel 1).slot ≠ none ∧ (site.channel 3).slot = none ∧
    (3 ∉ [1, 2, 5, 10, 20, 50, 100, 200, 500] ∧ 999 < 1000 ∧ 1000000 < 1000001 ∧ 1001 % 2 ≠ 0 ∧ 1000 / 5 < 500 ∧
      10000 < 10001 / 1) := by decide

theorem witness_ZeroSetsTheOffset :
    (site.takes (packOf 2 [0#8]) ∧ (site.port 2).role ∉ [Role.supervisor, .scalehouse]) ∧
    (site.takes (pack [4#8]) ∧ (site.port 0).role ∈ [Role.supervisor, .scalehouse] ∧ 4 ≤ 4) ∧
    (pack [3#8]).params = numBytes 1 3 ∧
    ((site.channel 0).state = .stable ∧ (site.channel 0).slot = none ∧ (site.channel 0).window.getLast? = some reading) ∧
    ((site.channel 1).slot ≠ none ∧ (site.channel 3).state = .noData) := by decide

theorem witness_ScaleTimersEndCaptures :
    site.running = true ∧ (site.channel 1).stale = some 1000 ∧ (site.channel 1).slot = some waiting ∧
    site.ticket? 1 = some tickets[0] ∧ (State.reset.channel 0).stale = none ∧ (site.channel 0).slot = none := by decide

theorem witness_CapturesWait :
    site.takes (pack (numBytes 4 1 ++ numBytes 1 1 ++ numBytes 1 2 ++ numBytes 1 2 ++ numBytes 4 999999)) ∧
    (site.port 0).role ∈ permitted 16 ∧ (site.channel 2).state = .motion ∧ (site.channel 2).zeroRequired = false ∧
    (site.channel 2).slot = none ∧ site.ticket? 1 = some tickets[0] ∧ tickets[0].state = .opened ∧
    tickets[0].line? 1 = some grossLine ∧ grossLine.mark = none ∧ grossLine.tare = none ∧ grossLine.gross ≠ none ∧
    tickets[0].lines.length < 8 ∧ tickets[0].line? 3 = some (Line.fresh 100001) ∧
    (plateOk [0x41#8] = true ∧ site.tares.length < 64) := by decide

/-- Line 2 of ticket 1 is marked, line 1 holds a gross, line 3 holds no weighing. -/
theorem witness_CapturesWait_refusals :
    site.takes (pack (numBytes 4 1 ++ numBytes 1 1 ++ numBytes 1 2 ++ numBytes 1 3 ++ numBytes 4 1000000)) ∧
    (site.port 0).role ∈ permitted 16 ∧ site.ticket? 1 = some tickets[0] ∧ tickets[0].state = .opened ∧
    (tickets[0].line? 2 = some { grossLine with mark := some .tare } ∧ grossLine.gross ≠ none ∧
      tickets[0].line? 1 = some grossLine ∧ fullLine.tare ≠ none ∧ tickets[6].line? 1 = some fullLine) ∧
    (tickets[0].line? 3 = some (Line.fresh 100001) ∧ (Line.fresh 100001).gross = none) ∧
    (grossLine.mark = none ∧ grossLine.tare = none ∧ 8 ≤ (List.replicate 8 grossLine).length) := by decide

theorem witness_ChannelChecksCaptures :
    (State.reset.channel 0).state = .off ∧
    ((siteChannel 0 { channelOf .stable [reading] with zeroRequired := true }).channel 0).zeroRequired = true ∧
    ((site.channel 1).state ≠ .off ∧ (site.channel 1).zeroRequired = false ∧ (site.channel 1).slot ≠ none) ∧
    ((site.channel 3).state = .noData ∧ (site.channel 3).zeroRequired = false ∧ (site.channel 3).slot = none) ∧
    (site.takes (pack (numBytes 4 1 ++ numBytes 1 1 ++ numBytes 1 1 ++ numBytes 1 4 ++ numBytes 4 0)) ∧
      (site.port 0).role ∈ permitted 16) ∧
    (site.takes (pack (textBytes [0x41#8] ++ numBytes 1 255)) ∧ (site.port 0).role ∈ permitted 21) := by decide

theorem witness_CapturesRecordAtOnce :
    site.takes (pack (numBytes 4 1 ++ numBytes 1 1 ++ numBytes 1 1 ++ numBytes 1 0 ++ numBytes 4 0)) ∧
    (site.port 0).role ∈ permitted 16 ∧ (site.channel 0).state = .stable ∧ (site.channel 0).zeroRequired = false ∧
    (site.channel 0).slot = none ∧ (site.channel 0).window.getLast? = some reading ∧ site.ticket? 1 = some tickets[0] ∧
    tickets[0].state = .opened ∧ tickets[0].line? 1 = some grossLine ∧ grossLine.mark = none ∧ grossLine.tare = none ∧
    tickets[0].line? 3 = some (Line.fresh 100001) ∧ (Line.fresh 100001).gross = none := by decide

theorem witness_ChainRecordsBothLines :
    site.takes (pack (numBytes 4 1 ++ numBytes 1 1 ++ numBytes 1 2 ++ numBytes 1 0 ++ numBytes 4 0)) ∧
    (site.channel 0).state = .stable ∧ (site.channel 0).window.getLast? = some reading ∧
    reading.readingClass ≠ .over ∧ reading.readingClass ≠ .under ∧
    20 * ((site.channel 0).config.division : Int) ≤ reading.weight ∧
    tickets[0].line? 1 = some grossLine ∧ grossLine.tare = none ∧ grossLine.gross ≠ none ∧ tickets[0].lines.length < 8 := by
  decide

theorem witness_OpenTicketCreates :
    site.takes (pack (numBytes 1 CustomerClass.account.code ++ textBytes [] ++ textBytes [0x61#8])) ∧
    (site.port 0).role ∈ permitted 10 ∧ plateOk [0x61#8] = true ∧ printable [] = true ∧
    (site.tickets.length < 48 ∧ ∃ t ∈ site.tickets, t.state = .opened ∧ t.plate = some (upperCase [0x61#8])) ∧
    (∀ t ∈ site.tickets, t.state = .opened → t.plate ≠ some (upperCase [0x62#8])) ∧
    (∀ t ∈ site.tickets, t.number ≠ site.nextTicket) ∧ 1 ≤ site.nextTicket ∧ site.nextTicket ≤ 999999 := by decide

/-- With the counter at 4, the numbers 4 to 8 are passed over. -/
theorem witness_OpenTicketCreates_passes :
    (∃ t ∈ site.tickets, t.number = 4) ∧ ({ site with nextTicket := 4 } : State).newTicketNumber = 9 := by decide

theorem witness_OpenTicketCreates_full : 48 ≤ (List.replicate 48 (ticket 1 .opened [])).length := by decide

/-- A class, a customer id and a plate outside their forms (R33). -/
theorem witness_OpenTicketCreates_range :
    let params : Nat → Text → Text → List Byte := fun cls customer plate => numBytes 1 cls ++ textBytes customer ++ textBytes plate
    (site.port 0).role ∈ permitted 10 ∧
    ∀ b ∈ [params 4 [] [], params 0 (List.replicate 13 0x41#8) [], params 0 [0x1F#8] [], params 0 [0x7F#8] [],
        params 0 [] (List.replicate 11 0x41#8), params 0 [] [0x20#8], params 0 [] [0x40#8], params 0 [] [0x7B#8]],
      site.takes (pack b) ∧ next? (exec (.openTicket (pack b)) site) = some ((site.hunt 0).replied (pack b) (.stop .range 0)) := by decide

theorem witness_LinesAddedAndRemoved :
    (site.takes (pack []) ∧ site.ticket? 1 = some tickets[0] ∧ tickets[0].state = .opened ∧
      (site.port 0).role ∈ permitted 11 ∧ (site.port 0).role ∈ permitted 12 ∧ tickets[0].lines.length < 8 ∧
      tickets[0].line? 2 = some { grossLine with mark := some .tare } ∧ waiting.forLine 1 2 = true ∧
      8 ≤ (List.replicate 8 grossLine).length) ∧ site.capturesStand ∧ site.marksStand :=
  ⟨by decide, test_site_capturesStand, test_site_marksStand⟩

theorem witness_LineFieldsWritten :
    site.takes (pack []) ∧ site.ticket? 1 = some tickets[0] ∧ tickets[0].state = .opened ∧ (site.port 0).role = .supervisor ∧
    (site.port 0).role ∈ permitted 13 ∧ (site.port 0).role ∈ permitted 24 ∧
    tickets[0].line? 3 = some (Line.fresh 100001) ∧ (Line.fresh 100001).mark = none ∧ (Line.fresh 100001).tare = none ∧
    (Line.fresh 100001).gross = none ∧ tickets[0].plate = some [0x41#8] ∧
    site.tares.find? (fun x => decide (x.plate = [0x41#8])) ≠ none ∧
    (∀ e ∈ site.tares, site.clock.day ≤ e.tare.time.day + site.settings.tareExpiry) := by decide

/-- The plate of ticket 1 has an expired entry on day 92; ticket 7 has no plate, and a plate of `B` no entry. -/
theorem witness_LineFieldsWritten_refusals :
    (tickets[0].line? 2 = some { grossLine with mark := some .tare } ∧ tickets[0].line? 1 = some grossLine ∧ grossLine.gross ≠ none ∧
      ({ grossLine with mark := some .tare } : Line).mark ≠ some .gross) ∧
    (tickets[6].plate = none ∧ tickets[6].line? 1 = some fullLine ∧ fullLine.tare ≠ none ∧ ∀ e ∈ site.tares, e.plate ≠ [0x42#8]) ∧
    (let s : State := { site with clock := { day := 92, second := 0 } }
     ∀ e ∈ s.tares, e.tare.time.day + s.settings.tareExpiry < s.clock.day) := by decide

theorem witness_LineFieldsWritten_common :
    site.ticket? 999999 = none ∧ site.ticket? 2 = some tickets[1] ∧ tickets[1].state ≠ .opened ∧
    (site.ticket? 5 = some tickets[4] ∧ tickets[4].state = .opened ∧ tickets[4].line? 1 = none) ∧
    (tickets[4].state ≠ .held ∧ tickets[4].state ≠ .payable) ∧ (site.ticket? 4 = some tickets[3] ∧ tickets[3].state = .paid) ∧
    ((Instr.addLine (pack [])).command? = some (11, pack []) ∧ (site.port 0).role ∈ permitted 11 ∧ site.takes (pack [])) ∧
    (fitsLayout (.capture (pack (numBytes 4 0 ++ [9#8, 9#8, 9#8, 0#8, 0#8, 0#8, 0#8]))) = true ∧
      fitsLayout (.pay (pack (numBytes 4 1000000 ++ [9#8]))) = true) := by decide

theorem witness_VoidTicketVoids :
    site.takes (pack (numBytes 4 1 ++ numBytes 1 0)) ∧ site.capturesStand ∧ (site.tickets.map Ticket.number).Nodup ∧
    site.nextStamp < 4294967295 ∧ site.ticket? 1 = some tickets[0] ∧ tickets[0].state = .opened ∧
    site.ticket? 2 = some tickets[1] ∧ tickets[1].state = .held ∧ site.ticket? 3 = some tickets[2] ∧
    tickets[2].state = .payable ∧ (site.port 0).role = .supervisor ∧
    (site.ticket? 5 = some tickets[4] ∧ tickets[4].state = .opened ∧ tickets[4].lines = []) :=
  ⟨by decide, test_site_capturesStand, by decide⟩

/-- A job in one state that serves the receipt ticket 3 owes. -/
def serving (printer : PrinterId) (state : JobState) : Job := job 1 printer (.ticket .settlement) (.owed 3 1) state 12 0

theorem witness_VoidTicketVoids_receipt :
    (∀ state, ((siteJob (serving 0 state)).servingJob? 3 owedSettlement = some (serving 0 state)) ∧
      (siteJob (serving 0 state)).poolStands) ∧
    tickets[2].owed = some owedSettlement ∧ site.snapshots.length < 8 ∧ tickets[2].settlementPrinted = false ∧
    (site.printer 0).awaited ≠ none ∧ ((sitePrinter 0 (printerOf .ready none)).printer 0).awaited = none ∧
    (∀ x ∈ (siteJob (serving 0 .queued)).jobs, x.refersTo 3 = true → x.source = .owed 3 owedSettlement.stamp) ∧
    (job 1 0 (.ticket .settlement) (.owed 3 9) .printing 12 0).refersTo 3 = true ∧
    (site.putTicket { tickets[1] with settlementPrinted := true }).ticket? 2
      = some { tickets[1] with settlementPrinted := true } ∧ tickets[1].owed = none := by
  refine ⟨fun state => ⟨?_, test_siteJob_poolStands _ ⟨le_refl 1, (by decide : 1 ≤ 255)⟩⟩, by decide⟩
  cases state <;> decide

/-- A SCALEHOUSE port may void ticket 5, without lines, and is refused with WEIGHED on tickets 1 and 2. -/
theorem witness_VoidTicketVoids_weighed :
    let s := sitePort 3 (Port.start .scalehouse 0 none)
    s.takes (packOf 3 (numBytes 4 1 ++ numBytes 1 0)) ∧ (s.port 3).role = .scalehouse ∧
      (s.ticket? 1 = some tickets[0] ∧ tickets[0].state = .opened ∧ ∃ ln ∈ tickets[0].lines, ln.gross ≠ none ∨ ln.tare ≠ none) ∧
      (s.ticket? 2 = some tickets[1] ∧ tickets[1].state = .held) := by decide

/-- The part with its owed order counter at its last value. -/
def lastStamp : State := { site with nextStamp := 4294967295 }

/-- The last stamp: the VOID_NOTICE, the PAYOUT receipt and the SETTLEMENT of a close become the youngest of the owed receipts, which
are numbered from 1 in owed order, and the job that serves ticket 3 follows its receipt (R135). -/
theorem witness_renumbering :
    let printed := lastStamp.putTicket { tickets[1] with settlementPrinted := true }
    let pool : State := { lastStamp with jobs := [serving 0 .queued] }
    let stamps : State → List (Nat × Nat) := fun t =>
      t.tickets.filterMap fun k => k.owed.map fun o => (k.number, o.stamp)
    printed.takes (pack (numBytes 4 2 ++ numBytes 1 0)) ∧ tickets[1].owed = none ∧
    (next? (exec (.voidTicket (pack (numBytes 4 2 ++ numBytes 1 0))) printed)).map (fun t => (stamps t, t.nextStamp))
      = some ([(2, 3), (3, 1)], 4) ∧
    (next? (exec (.pay (packOf 2 (numBytes 4 3 ++ numBytes 1 1))) pool)).map
        (fun t => (stamps t, t.nextStamp, t.jobs.map Job.source))
      = some ([(3, 2)], 3, [.owed 3 2]) ∧
    (next? (exec (.endDay (pack [1#8])) { pool with report := none })).map (fun t => (stamps t, t.nextStamp, t.jobs.map Job.source))
      = some ([(3, 1)], 3, [.owed 3 1]) := by decide

theorem witness_ReopenTicketReopens :
    site.takes (pack (numBytes 4 3)) ∧ site.poolStands ∧ (site.tickets.map Ticket.number).Nodup ∧
    (site.port 0).role = .supervisor ∧ site.ticket? 3 = some tickets[2] ∧ tickets[2].state = .payable ∧
    tickets[2].plate = none ∧ site.ticket? 2 = some tickets[1] ∧ tickets[1].state = .held :=
  ⟨by decide, test_site_poolStands, by decide⟩

/-- The part with the plate of its OPEN ticket 1 on its PAYABLE ticket 3 too. -/
theorem witness_ReopenTicketReopens_plate :
    let s := site.putTicket { tickets[2] with plate := some [0x41#8] }
    s.ticket? 3 = some { tickets[2] with plate := some [0x41#8] } ∧
      ∃ x ∈ s.tickets, x.number ≠ 3 ∧ x.state = .opened ∧ x.plate = some [0x41#8] := by decide

/-- A PRINTING job of the withdrawn receipt runs on from its snapshot, a QUEUED one leaves the pool, and the copy of ticket 4 stays. -/
theorem witness_ReopenTicketReopens_jobs :
    let copy := job 2 1 (.copy .payout) (.copyTicket 4) .queued 14 0
    let reopen : JobState → Option (List Job) := fun state =>
      (next? (exec (.reopenTicket (pack (numBytes 4 3))) { site with jobs := [serving 0 state, copy] })).map State.jobs
    reopen .queued = some [copy] ∧ reopen .taken = some [copy] ∧
      reopen .printing = some [{ serving 0 .printing with frozen := some tickets[2] }, copy] ∧
      (siteJob copy).servingJob? 3 owedSettlement = none := by decide

theorem witness_TaresStoredAndDropped :
    site.takes (pack (textBytes [0x41#8] ++ numBytes 1 0)) ∧ plateOk [0x41#8] = true ∧ (site.port 0).role ∈ permitted 21 ∧
    (site.channel 0).state = .stable ∧ (site.channel 0).window.getLast? = some reading ∧ site.tares.length < 64 ∧
    reading.readingClass = .normal ∧ 20 * ((site.channel 0).config.division : Int) ≤ reading.weight ∧
    (let r : Reading := { reading with readingClass := .margin }
     ((siteChannel 0 (channelOf .stable [r])).channel 0).window.getLast? = some r) ∧
    (let r : Reading := { reading with weight := 399 }
     ((siteChannel 0 (channelOf .stable [r])).channel 0).window.getLast? = some r ∧ r.weight < 20 * 20) ∧
    (site.port 0).role = .supervisor ∧ (∃ e ∈ site.tares, e.plate = upperCase [0x61#8]) := by decide

theorem witness_SchedulesEdited :
    site.takes (pack []) ∧ (site.port 0).role = .supervisor ∧ site.edit = some bank ∧ State.reset.edit = none ∧
    State.reset.takes (pack []) ∧ printable [0x41#8] = true ∧ ¬(true = true ∧ (15 : Nat) = 0) ∧
    (999999 ≤ 999999 ∧ 6 ≤ 6 ∧ 15 ≤ 15 ∧ 99999 ≤ 99999 ∧ 500 ≤ 500 ∧ 240 ≤ 240 ∧ (-9999 : Int) ≤ -9999) := by decide

theorem witness_SchedulesEdited_range :
    (Instr.editRule (pack (numBytes 1 32 ++ numBytes 1 2 ++ numBytes 1 2 ++ numBytes 4 1000000 ++ numBytes 2 7 ++ numBytes 1 16
      ++ textBytes [0x7F#8] ++ numBytes 4 100000 ++ numBytes 1 2 ++ numBytes 2 501 ++ numBytes 2 241 ++ intBytes 4 10000))).wf = true ∧
    printable [0x7F#8] = false ∧ 16 < (List.replicate 17 0x41#8).length := by decide

theorem witness_LookupPicksTheHighestSlot :
    bank.lookup 330110 .account = none ∧ (bank.lookup 120105 .account).map Lookup.slot = some 9 := by decide

theorem witness_CloseTicketCloses :
    site.takes (pack (numBytes 4 7 ++ yesNoBytes true)) ∧ (site.port 0).role ∈ permitted 29 ∧
    site.ticket? 7 = some tickets[6] ∧ tickets[6].state = .opened ∧ tickets[6].lines ≠ [] ∧
    site.ticket? 5 = some tickets[4] ∧ tickets[4].lines = [] ∧
    (tickets[0].lines[1]? = some { grossLine with mark := some .tare } ∧ grossLine.mark.isSome = false) ∧
    site.nextStamp < 4294967295 := by decide

/-- The last stamp given by a CLOSE TICKET: the receipts owed are numbered from 1, the closed ticket's last (R135). -/
theorem witness_CloseTicketCloses_last :
    let s : State := { site with active := bank.set 31 (base 0 0 15#4 250 false 0 0), nextStamp := 4294967295 }
    (next? (exec (.closeTicket (pack (numBytes 4 7 ++ yesNoBytes true))) s)).map (fun t =>
      (t.tickets.filterMap fun k => k.owed.map fun o => (k.number, o.stamp), t.nextStamp)) = some ([(3, 1), (7, 3)], 4) := by decide

/-- With a price for every grade, ticket 7 passes every check of Table 5-3. -/
def priced : State := { site with active := bank.set 31 (base 0 0 15#4 250 false 0 0) }

theorem witness_SettledTicketsArePriced : closeCheck priced.active tickets[6] = none := by decide

/-- The reply of a close of ticket 7 without a receipt: DONE with the total 72,500, PAYABLE, generation 0 and no release time (R101). -/
theorem witness_CloseTicketCloses_answer :
    closeCheck priced.active tickets[6] = none ∧
    closeAnswer (priced.settled tickets[6]) =
      .success (numBytes 5 72500 ++ numBytes 1 2 ++ numBytes 2 0 ++ List.replicate 6 0#8) := by decide

theorem witness_ClockAndHolds :
    (site.takes (pack (numBytes 2 65535 ++ numBytes 3 86399)) ∧ (site.tickets.map Ticket.number).Nodup ∧
      site.tickets.length ≤ 48 ∧ (site.port 0).role = .supervisor) ∧
    (site.ticket? 2 = some tickets[1] ∧ tickets[1].state = .held ∧ site.ticket? 999999 = none) ∧
    (site.ticket? 3 = some tickets[2] ∧ tickets[2].state ≠ .held) ∧
    ({ day := 1, second := 0 } : ClockTime).notLater site.clock = true ∧
    (site.ticket? 6 = some tickets[5] ∧ tickets[5].state = .held ∧
      ({ day := 2, second := 0 } : ClockTime).notLater site.clock = false) ∧
    (site.running = true ∧ ({ site with mainSupply := false } : State).running = false) := by decide

/-- The clock's advance to the release time of ticket 2 makes it PAYABLE, and a SET CLOCK back leaves it so (R110, R112). -/
theorem test_clock_advance_releases :
    let held := { tickets[1] with settlement := settled (some { day := 1, second := 1 }) }
    let s := { site.putTicket held with clock := { day := 1, second := 0 } }
    (next? (exec .clockAdvance s)).bind (fun t => (t.ticket? 2).map Ticket.state) = some .payable ∧
      (s.ticket? 2).map Ticket.state = some .held := by decide

theorem witness_FloatsAndLifts :
    site.takes (packOf 2 (numBytes 1 2 ++ numBytes 5 9999999999)) ∧ site.takes (pack (numBytes 1 2 ++ numBytes 5 1)) ∧
    site.takes (pack (numBytes 1 4 ++ numBytes 5 0)) ∧ 10000000000 < 256 ^ 5 ∧
    (let s := sitePort 3 (Port.start .yard 0 none)
     s.takes (packOf 3 (numBytes 1 3 ++ numBytes 5 1)) ∧ (s.port 3).role = .yard) ∧
    (site.port 2).drawer = some { balance := 600000, paidToday := 0 } ∧ (site.port 2).role = .payout ∧
    (site.port 0).role = .supervisor ∧ (site.port 0).drawer = none := by decide

theorem witness_CashAmountIsNearest : 0 < 1 ∧ 0 < 50 := by decide

theorem witness_PayPaysTheTicket :
    site.takes (packOf 2 (numBytes 4 3 ++ numBytes 1 0)) ∧ site.nextStamp < 4294967295 ∧
    (site.port 2).role ∈ permitted 35 ∧ site.ticket? 3 = some tickets[2] ∧ tickets[2].state = .payable ∧
    tickets[2].settlement = settled none ∧ (site.port 2).drawer = some { balance := 600000, paidToday := 0 } ∧
    582272 ≤ site.settings.cashLimit ∧ cashAmount site.settings.cashUnit 582272 ≤ 600000 := by decide

/-- P2's default printer is PR1: a TAKEN job on PR0 is of another printer, one on PR1 of the same. -/
theorem witness_PayPaysTheTicket_job :
    (∀ r state, (siteJob (serving r state)).servingJob? 3 owedSettlement = some (serving r state)) ∧
    (site.port 2).defaultPrinter = 1 ∧ (serving 0 .taken).printer ≠ 1 ∧ (serving 1 .taken).printer = 1 ∧
    (siteJob (job 1 0 (.copy .settlement) (.copyTicket 3) .queued 12 0)).servingJob? 3 owedSettlement = none := by
  refine ⟨fun r state => ?_, by decide⟩
  revert r
  cases state <;> decide

theorem witness_PayRefusals :
    site.takes (packOf 2 (numBytes 4 999999 ++ numBytes 1 1)) ∧ (site.port 2).role ∈ permitted 35 ∧
    site.ticket? 999999 = none ∧ (site.ticket? 2 = some tickets[1] ∧ tickets[1].state = .held) ∧
    (site.ticket? 5 = some tickets[4] ∧ tickets[4].state = .opened) ∧
    ((site.port 0).drawer = none ∧ (site.port 0).role ∈ permitted 35 ∧ site.takes (pack [])) ∧
    (let s : State := { site with settings := { site.settings with cashLimit := 582271 } }
     s.settings.cashLimit < 582272) ∧
    ((sitePort 2 (Port.start .payout 1 (some { balance := 582269, paidToday := 0 }))).port 2).drawer
      = some { balance := 582269, paidToday := 0 } ∧
    582269 < cashAmount site.settings.cashUnit 582272 := by decide

theorem witness_PayRefusals_range :
    (∀ b ∈ [numBytes 4 0 ++ numBytes 1 1, numBytes 4 1000000 ++ numBytes 1 0, numBytes 4 999999 ++ numBytes 1 2],
      site.takes (packOf 2 b) ∧ next? (exec (.pay (packOf 2 b)) site) = some ((site.hunt 2).replied (packOf 2 b) (.stop .range 0))) ∧
    (let s := sitePort 3 (Port.start .yard 0 none)
     s.takes (packOf 3 (numBytes 4 1 ++ numBytes 1 0)) ∧ (s.port 3).role ∉ permitted 35) := by decide

theorem witness_LocksTakenAndCleared :
    site.takes (pack [0#8]) ∧ (site.port 0).role = .supervisor ∧ (site.printer 0).lock = .none ∧
    site.activeJob? 1 = none ∧
    (site.activeJob? 0 = some (job 1 0 (.ticket .settlement) (.owed 3 1) .taken 12 0) ∧ (site.printer 0).awaited ≠ none) ∧
    ((sitePrinter 0 { printerOf .ready none with lock := .locked 0 }).printer 0).lock = .locked 0 ∧
    ((sitePrinter 0 { printerOf .ready none with lock := .pending 0 }).printer 0).lock = .pending 0 ∧
    ({ site with jobs := [job 1 0 (.ticket .settlement) (.owed 3 1) .printing 12 0] } : State).activeJob? 0
      = some (job 1 0 (.ticket .settlement) (.owed 3 1) .printing 12 0) := by decide

theorem witness_CopiesMadeAndCancelled :
    site.takes (pack (numBytes 4 4 ++ numBytes 1 1)) ∧ (site.port 0).role ∈ permitted 39 ∧
    (site.ticket? 4 = some tickets[3] ∧ tickets[3].copyKind? = some .payout ∧ site.jobs.length < 12) ∧
    ((∀ t, site.ticket? 999999 = some t → t.state = .opened) ∧ ∀ x ∈ site.snapshots, x.number ≠ 999999) ∧
    12 ≤ (List.replicate 12 (job 1 0 .dayReport (.report 1) .queued 1 0)).length ∧
    (job 2 1 (.copy .payout) (.copyTicket 4) .queued 14 0 ∈ site.jobs ∧ (site.jobs.map Job.id).Nodup) ∧
    (job 1 0 (.ticket .settlement) (.owed 3 1) .taken 12 0 ∈ site.jobs) ∧
    ((1 : PortId) ≠ 2 ∧ (site.port 2).role ≠ .supervisor ∧ (site.port 2).role ∈ permitted 39 ∧ site.takes (packOf 2 [2#8])) ∧
    (∀ j ∈ site.jobs, j.id ≠ 255) := by
  have h : site.ticket? 999999 = none := by decide
  exact ⟨by decide, by decide, by decide, ⟨fun t ht => (by rw [h] at ht; cases ht), by decide⟩, by decide, by decide, by decide,
    by decide, by decide⟩

/-- A part whose reprint store holds ticket 9 twice: the newest snapshot is in place 1. -/
theorem witness_CopiesMadeAndCancelled_snapshot :
    let s : State := { site with snapshots := [{ tickets[7] with number := 9 }, { tickets[3] with number := 9 }] }
    s.ticket? 9 = none ∧ s.snapshots[1]? = some { tickets[3] with number := 9 } ∧
      ({ tickets[3] with number := 9 } : Ticket).copyKind? = some .payout ∧ s.snapshots[2]? = none ∧
      newestSnapshot 9 s.snapshots = some 1 := by decide

theorem witness_CopiesMadeAndCancelled_cancel :
    let copy := job 2 1 (.copy .payout) (.copyTicket 4) .taken 14 0
    let s : State := { sitePrinter 1 { printerOf .ready none with lock := .pending 2 } with
      jobs := [copy, job 3 1 (.ticket .settlement) (.owed 3 1) .printing 12 0] }
    (copy ∈ s.jobs ∧ copy.kind.copied? ≠ none ∧ (s.jobs.map Job.id).Nodup ∧ s.takes (pack [2#8]) ∧
      ∃ x ∈ s.jobs, x.printer = copy.printer ∧ x.state = .printing) ∧
    (∀ p, (site.printer 1).lock ≠ .pending p) ∧
    (1 ≤ site.nextJob ∧ site.nextJob ≤ 255 ∧ ({ site with nextJob := 1 } : State).newJobId = 3) := by decide

/-- A PRINTING job of PAID ticket 4, which owes nothing. -/
def lastJob : Job := job 1 0 (.ticket .payout) (.owed 4 9) .printing 14 13

theorem witness_PrinterStatusFollowed_abort :
    (siteJob lastJob).poolStands ∧ (siteJob lastJob).activeJob? 0 = some lastJob ∧ lastJob.state = .printing ∧
    ((siteJob lastJob).ticket? 4 = some tickets[3] ∧ tickets[3].state = .paid ∧ tickets[3].owed = none) ∧
    ((siteJob lastJob).printer 0).status.usable = true ∧
    (let s : State := { sitePrinter 0 { printerOf .ready none with lock := .pending 2 } with jobs := [lastJob] }
     (s.printer 0).lock = .pending 2 ∧ s.activeJob? 0 = some lastJob) :=
  ⟨test_siteJob_poolStands _ (by decide), by decide⟩

/-- At such a fault the JOB event comes first, then the retirement, the lock's PRINTER event and the status change's (log 9). -/
theorem test_fault_events :
    let listening : Port := { Port.start .supervisor 0 none with subscription := 31#5 }
    let s : State := { (sitePrinter 0 { printerOf .ready none with lock := .pending 2 }).setPort 0 listening with jobs := [lastJob] }
    (next? (exec (.printerStatusFrame 0 .jammed true) s)).map (fun t => (t.port 0).attention.map Entry.event)
      = some [.job 1 .aborted 1, .ticket 4 none, .printer 0 .jammed (.locked 2), .printer 0 .jammed (.locked 2)] := by decide

theorem witness_PrinterStatusFollowed :
    site.running = true ∧ (site.printer 0).status = PrinterStatus.ofReport .ready ∧
    ((site.printer 0).status ≠ PrinterStatus.ofReport .paperLow ∧ (PrinterStatus.ofReport .paperLow).usable = true) ∧
    ((site.printer 0).status.usable = true ∧ (PrinterStatus.ofReport .jammed).usable = false ∧
      site.activeJob? 0 = some (job 1 0 (.ticket .settlement) (.owed 3 1) .taken 12 0)) ∧
    (({ site with jobs := [job 1 0 (.ticket .settlement) (.owed 3 1) .printing 12 0] } : State).activeJob? 0).map Job.state
      = some .printing ∧ site.snapshots.length < 8 ∧
    (site.printer 0).awaited = some { frame := .begin, job := 1, expiry := 2000 } ∧
    (site.printer 0).statusTimer = some 5000 ∧ (site.printer 1).awaited = none ∧
    ((sitePrinter 0 { printerOf .offline none with statusTimer := none }).printer 0).statusTimer = none := by decide

theorem witness_AnswersMoveTheJob :
    (site.running = true ∧ (site.printer 1).awaited = none ∧
      (site.printer 0).awaited = some { frame := .begin, job := 1, expiry := 2000 } ∧ (site.printer 0).closeOwed = false ∧
      site.activeJob? 0 = some (job 1 0 (.ticket .settlement) (.owed 3 1) .taken 12 0) ∧
      site.ticket? 3 = some tickets[2] ∧ tickets[2].owed = some owedSettlement ∧
      ((sitePrinter 0 { printerOf .ready (some { frame := .begin, job := 1, expiry := 2000 }) with closeOwed := true }).printer
        0).closeOwed = true) ∧
    (job 1 0 (.ticket .settlement) (.owed 3 1) .printing 12 10).printed + 1 < 12 ∧
    12 ≤ (job 1 0 (.ticket .settlement) (.owed 3 1) .printing 12 11).printed + 1 ∧ site.poolStands :=
  ⟨by decide, by decide, by decide, test_site_poolStands⟩

/-- The last line of a PAYOUT of PAID ticket 4, of a SETTLEMENT of VOID ticket 8, and of a VOID_NOTICE of ticket 8. -/
theorem witness_AnswersMoveTheJob_last :
    let voided : Ticket := { tickets[7] with voidPort := some 1 }
    let paper := job 1 0 (.ticket .settlement) (.owed 8 1) .printing 12 11
    (∀ j ∈ [lastJob, paper], (siteJob j).activeJob? 0 = some j ∧ j.total ≤ j.printed + 1) ∧
    ((siteJob lastJob).ticket? 4 = some tickets[3] ∧ tickets[3].state = .paid ∧ tickets[3].owed = none) ∧
    (((siteJob paper).putTicket voided).ticket? 8 = some voided ∧ voided.state = .voided ∧ voided.owed = none ∧
      TicketReceipt.voidNotice ≠ .settlement ∧ site.snapshots.length < 8 ∧ site.nextStamp < 4294967295) := by decide

/-- The SETTLEMENT of VOID ticket 8 printed at the last stamp: its VOID_NOTICE is the youngest of three owed receipts (R135, R146). -/
theorem witness_AnswersMoveTheJob_renumbered :
    let voided : Ticket := { tickets[7] with voidPort := some 1 }
    let s : State := { (siteJob (job 1 0 (.ticket .settlement) (.owed 8 1) .printing 12 11)).putTicket voided with
      nextStamp := 4294967295 }
    (next? (exec (.printerAnswer 0 .accepted true) s)).map (fun t => ((t.ticket? 8).map Ticket.owed, t.nextStamp))
      = some (some (some (Owed.mk .voidNotice 0 1 3 false)), 4) := by decide

/-- The answers of PR0 to the last line of ticket 4's PAYOUT: the ticket is retired. -/
theorem test_last_line_retires :
    (next? (exec (.printerAnswer 0 .accepted true) (siteJob lastJob))).map
      (fun t => ((t.ticket? 4).isNone, t.snapshots.length, t.jobs)) = some (true, 1, []) := by decide

/-- Where the retirement drops a snapshot with two copies on the printer whose lock is PENDING, the lock's PRINTER event stands
between the copies' JOB events (log 9). -/
theorem test_dropped_copies_events :
    let listening : Port := { Port.start .supervisor 0 none with subscription := 31#5 }
    let copy : Nat → Job := fun id => job id 0 (.copy .payout) (.copySnapshot 0) .queued 14 0
    let pr0 : Printer := { printerOf .ready (some { frame := .begin, job := 1, expiry := 2000 }) with lock := .pending 2 }
    let s : State := { (sitePrinter 0 pr0).setPort 0 listening with
      jobs := [lastJob, copy 2, copy 3], snapshots := List.replicate 8 (ticket 9 .paid []) }
    (next? (exec (.printerAnswer 0 .accepted true) s)).map (fun t => (t.port 0).attention.map Entry.event)
      = some [.job 1 .printed 0, .ticket 4 none, .job 2 .cancelled 14, .printer 0 .ready (.locked 2), .job 3 .cancelled 14] := by
  decide

theorem witness_AnswersMoveTheJob_report :
    (PrinterStatus.ofReport .paperOut).usable = false ∧ (PrinterStatus.ofReport .paperLow).usable = true ∧
    (site.printer 0).awaited ≠ none ∧ (site.printer 0).closeOwed = false ∧
    (next? (exec (.printerStatusFrame 0 .paperLow true) site)).isSome = true := by decide

/-- A TAKEN job of the owed day report: ACCEPTED sets the record's started flag (R143, R170). -/
theorem witness_AnswersMoveTheJob_started :
    let s := siteJob (job 1 0 .dayReport (.report 2) .taken 12 0)
    s.activeJob? 0 = some (job 1 0 .dayReport (.report 2) .taken 12 0) ∧
    (s.report.bind DayReport.owed).map ReportOwed.stamp = some 2 ∧
    (next? (exec (.printerAnswer 0 .accepted true) s)).map (fun t => (t.report.bind DayReport.owed).map ReportOwed.started)
      = some (some true) := by decide

theorem witness_ArbiterTakesTheRightJob :
    (site.running = true ∧ (site.printer 1).status.usable = true ∧ site.printerFree 1 = true ∧
      job 2 1 (.copy .payout) (.copyTicket 4) .queued 14 0 ∈ site.jobs ∧ (site.printer 1).lock = .none ∧
      ∀ x ∈ site.jobs, x.printer = 1 → x.state = .queued → x = job 2 1 (.copy .payout) (.copyTicket 4) .queued 14 0) ∧
    ((sitePrinter 1 { printerOf .ready none with lock := .locked 1 }).printer 1).lock = .locked 1 ∧
    site.printerFree 0 = false ∧
    (let s := sitePrinter 1 { printerOf .ready none with lock := .locked 2 }
     (s.printer 1).lock = .locked 2 ∧ s.printerFree 1 = true ∧
       ∀ x ∈ s.jobs, x.printer = 1 → x.state = .queued → x.port ≠ 2) := by decide

theorem witness_ServiceServesOwedReceipts :
    site.running = true ∧ 12 ≤ (List.replicate 12 (job 1 0 .dayReport (.report 1) .queued 1 0)).length ∧
    site.jobs.length ≤ 12 ∧
    (let s : State := { site with jobs := [], report := none }
     s.owedItems = [.ofTicket tickets[2] owedSettlement] ∧ s.jobs = [] ∧ tickets[2] ∈ s.tickets) := by decide

/-- With room for one job, the oldest receipt gets it: that of ticket 3, of stamp 1, and not the day report's, of stamp 2. -/
theorem witness_ServiceServesOwedReceipts_order :
    let copies := (List.range 11).map fun i => job (i + 1) 1 (.copy .payout) (.copyTicket 4) .queued 14 0
    (next? (exec .owedReceiptService { site with jobs := copies })).map (fun t => (t.jobs.drop 11).map Job.source)
      = some [.owed 3 1] := by decide

theorem witness_ReceiptsHaveTheirLength :
    (site.jobTicket? (site.ticketJob tickets[3] (.copy .payout) .payout 0 (.copyTicket 4) 0 false true) = some tickets[3]) ∧
    site.report ≠ none := by decide

theorem witness_EndDayClosesTheDay :
    site.takes (pack [1#8]) ∧ (site.port 0).role = .supervisor ∧
    (site.report.bind DayReport.owed = some { printer := 0, port := 0, stamp := 2, started := false }) ∧
    State.reset.report = none ∧ State.reset.takes (pack [1#8]) ∧ State.reset.nextStamp < 4294967295 := by decide

theorem witness_AttentionCommands :
    site.takes (pack [31#8]) ∧ site.takes (pack [32#8]) ∧ (pack [31#8]).params = numBytes 1 31 ∧
    (pack [255#8]).params = numBytes 1 255 ∧ (pack [1#8]).params = yesNoBytes true := by decide

/-- An attention entry of SC0. -/
def scaleEntry : Entry := { event := .scale 0 .motion false, time := { day := 1, second := 0 } }

theorem witness_EventsAreOffered :
    (Port.start .yard 0 none).subscription.getLsbD (Event.scale 0 .stable false).kind.code = false ∧
    (let q : Port := { Port.start .yard 0 none with subscription := 1#5, attention := [scaleEntry] }
     q.subscription.getLsbD (Event.scale 0 .stable false).kind.code = true ∧
       ∃ x ∈ q.attention, x.event = .scale 0 .motion false) ∧
    (List.replicate 15 scaleEntry).length < 16 ∧ 16 ≤ (List.replicate 16 scaleEntry).length := by decide

/-- A receipt without a total and a day report without marks have blank lines there (Table 7-6). -/
theorem test_blank_lines : (ReceiptLine.total none).text = [] ∧ (ReceiptLine.markLine []).text = [] := by decide

/-! ### The invariants' hypotheses: the part right after reset steps -/

theorem witness_invariants_step : step State.reset = .next State.reset.idle := rfl

/-- Every mark of the part has its capture. -/
theorem test_site_marksHeld : site.marksHeld := by
  have hm : ∀ t ∈ site.tickets, ∀ k : Fin 4,
      (t.line? k.val).bind Line.mark = if t.number = 1 ∧ k = 2 then some .tare else none := by decide
  have hl : ∀ t ∈ site.tickets, t.lines.length ≤ 3 := by decide
  intro t ht k ln side hk hs
  have hb : (t.line? k).bind Line.mark = some side := by rw [hk]; exact hs
  have h4 : k < 4 := by
    by_contra hn
    have h0 : t.line? k = none := by
      have := hl t ht
      rw [Ticket.line?, if_neg (by omega)]
      exact List.getElem?_eq_none (by omega)
    rw [h0] at hk
    cases hk
  have h := hm t ht ⟨k, h4⟩
  rw [hb] at h
  split_ifs at h with e
  cases h
  have hk2 : k = 2 := congrArg Fin.val e.2
  exact ⟨1, waiting, .tare, 0, by decide, by rw [e.1, hk2]; rfl, rfl⟩

/-- The stamps of the part stand, at the counter's last value too. -/
theorem test_site_stampsStand : site.stampsStand ∧ lastStamp.stampsStand := by
  have h : site.distinctNames := ⟨by decide, by decide, by decide, by decide, by decide⟩
  exact ⟨⟨h, by decide, by decide, by decide⟩, ⟨h, by decide, by decide, by decide⟩⟩

end Sys2Proof.Tests
end

section
/-! SUPPORT. The ledger of the part: the counters, figures, names, stamps and captures that the invariants of ranges and captures speak
of, and the few ways in which a step can change them. -/

namespace Sys2Proof.Machine

/-! ### The ledger -/

/-- What the invariants `inRange`, `stampsStand` and `capturesStand` read of the state. `names` holds each ticket's number with the
stamp it owes, `waiting` the length of each output queue, and `held` the port and the command in progress of each waiting capture. -/
structure Ledger where
  nextTicket : Nat
  nextWeighing : Nat
  nextStamp : Nat
  nextJob : Nat
  nextAge : Nat
  dayNumber : Nat
  generation : Nat
  clock : ClockTime
  settings : Settings
  totals : Totals
  names : List (Nat × Option Nat)
  plates : List Text
  reportStamp : Option Nat
  drawer : PortId → Option Drawer
  busy : PortId → Option Progress
  waiting : PortId → Nat
  held : ChannelId → Option (PortId × Progress)

/-- A ticket's number and the stamp it owes. -/
def Ticket.entry (t : Ticket) : Nat × Option Nat := (t.number, t.owed.map Owed.stamp)

/-- The stamp that the day report owes. -/
def DayReport.stamp? (rep : DayReport) : Option Nat := rep.owed.map ReportOwed.stamp

/-- A capture's port and command in progress (R17, R180). -/
def Capture.hold (cap : Capture) : PortId × Progress := (cap.port, { kind := cap.owner.progress, tag := cap.tag })

/-- The ledger of a state. -/
def State.ledger (s : State) : Ledger :=
  { nextTicket := s.nextTicket, nextWeighing := s.nextWeighing, nextStamp := s.nextStamp, nextJob := s.nextJob,
    nextAge := s.nextAge, dayNumber := s.dayNumber, generation := s.generation, clock := s.clock, settings := s.settings,
    totals := s.totals, names := s.tickets.map Ticket.entry, plates := s.tares.map TareEntry.plate,
    reportStamp := s.report.bind DayReport.stamp?, drawer := fun p => (s.port p).drawer,
    busy := fun p => (s.port p).busy, waiting := fun p => (s.port p).out.length,
    held := fun c => (s.channel c).slot.map Capture.hold }

/-- The numbers of the tickets in the table. -/
def Ledger.numbers (a : Ledger) : List Nat := a.names.map Prod.fst

/-- The stamps owed. -/
def Ledger.stamps (a : Ledger) : List Nat := a.names.filterMap Prod.snd ++ a.reportStamp.toList

/-- The stamp a ticket owes written in its place. -/
def Ledger.setStamp (a : Ledger) (n : Nat) (o : Option Nat) : Ledger :=
  { a with names := a.names.map fun x => if x.1 = n then (n, o) else x }

/-- Every stamp given anew, from 1 upward in the order of the old ones, and the counter after the last (R135). -/
def Ledger.restamp (a : Ledger) : Ledger :=
  { a with
    names := a.names.map fun x => (x.1, x.2.map (rankOf a.stamps))
    reportStamp := a.reportStamp.map (rankOf a.stamps)
    nextStamp := a.stamps.length + 1 }

/-- The owed order counter advanced past the stamp just given; after the last stamp every stamp is given anew (R135). -/
def Ledger.advanceStamp (a : Ledger) : Ledger :=
  if a.nextStamp < Config.maxStamp then { a with nextStamp := a.nextStamp + 1 } else a.restamp

/-- A number that the search of R31 may end at: some number from the counter on, free unless as many as there are tickets, and one
more, are all taken. -/
def Ledger.mayOpen (a : Ledger) (n : Nat) : Prop :=
  ∃ i ≤ a.names.length, n = advanceNumber^[i] a.nextTicket ∧
    (n ∈ a.numbers → i = a.names.length ∧ ∀ j ≤ i, advanceNumber^[j] a.nextTicket ∈ a.numbers)

/-- A drawer that a port may come to have in the place of one (R115 to R117, R122, R169). -/
def drawerFollows (old new : Option Drawer) : Prop :=
  ∀ d, new = some d → d = Drawer.empty ∨ ∃ e, old = some e ∧ (d.balance ≤ e.balance ∨ d.balance ≤ Config.maxBalance) ∧
    (d.paidToday ≤ e.paidToday ∨ d.paidToday ≤ Config.maxFigure)

/-! ### The moves of the ledger -/

/-- One change that the part's operations make to the ledger, apart from the reply of a packet and the placing of a capture. -/
inductive Ledger.Move : Ledger → Ledger → Prop
  | weighed (a : Ledger) : Move a { a with nextWeighing := advanceNumber a.nextWeighing }
  | opened (a : Ledger) (n : Nat) (room : a.names.length < Config.maxTickets) (free : a.mayOpen n) :
      Move a { a with names := a.names ++ [(n, none)], nextTicket := advanceNumber n }
  | replaced (a : Ledger) (n : Nat) (o : Option Nat) (kept : a.numbers.Nodup → o = none ∨ (n, o) ∈ a.names) :
      Move a (a.setStamp n o)
  | owes (a : Ledger) (n : Nat) : Move a (a.setStamp n (some a.nextStamp)).advanceStamp
  | retired (a : Ledger) (n : Nat) : Move a { a with names := a.names.filter fun x => decide (x.1 ≠ n) }
  | dayEnded (a : Ledger) :
      Move a ({ a with
        reportStamp := some a.nextStamp, totals := Totals.zero, dayNumber := advanceDay a.dayNumber
        drawer := fun p => (a.drawer p).map fun d => { d with paidToday := 0 } } : Ledger).advanceStamp
  | reportDone (a : Ledger) : Move a { a with reportStamp := none }
  | tareDropped (a : Ledger) (plate : Text) : Move a { a with plates := a.plates.filter fun x => decide (x ≠ plate) }
  | tareStored (a : Ledger) (plate : Text) :
      Move a { a with plates := a.plates.filter (fun x => decide (x ≠ plate)) ++ [plate] }
  | jobMade (a : Ledger) (i : Nat) :
      Move a { a with nextJob := advanceJob (advanceJob^[i] a.nextJob), nextAge := a.nextAge + 1 }
  | committed (a : Ledger) : Move a { a with generation := advanceGeneration a.generation }
  | clockRan (a : Ledger) : Move a { a with clock := a.clock.next }
  | clockSet (a : Ledger) (time : ClockTime) (ok : clockOk time = true) : Move a { a with clock := time }
  | optionSet (a : Ledger) (setting : Setting) (v w : Nat) (x : Settings) (h : a.settings.write? setting v = some (x, w)) :
      Move a { a with settings := x }
  | voidCounted (a : Ledger) : Move a { a with totals := a.totals.countVoid }
  | paid (a : Ledger) (lines : List Line) (method : PayMethod) (amount : Nat) (rounding : Int) (hit : Bool) :
      Move a { a with totals := (a.totals.feed lines method amount rounding).orSaturated hit }
  | drawerSet (a : Ledger) (p : PortId) (d : Option Drawer) (h : drawerFollows (a.drawer p) d) :
      Move a { a with drawer := Function.update a.drawer p d }
  | freed (a : Ledger) (c : ChannelId) (p : PortId) (g : Progress) (h : a.held c = some (p, g)) :
      Move a { a with held := Function.update a.held c none, busy := Function.update a.busy p none }
  | ended (a : Ledger) (c : ChannelId) (p : PortId) (g : Progress) (h : a.held c = some (p, g)) :
      Move a { a with
        held := Function.update a.held c none, busy := Function.update a.busy p none
        waiting := Function.update a.waiting p (a.waiting p + 1) }
  | cleared (a : Ledger) (p : PortId) (h : ∀ c g, a.held c ≠ some (p, g)) :
      Move a { a with busy := Function.update a.busy p none }
  | sent (a : Ledger) (p : PortId) : Move a { a with waiting := Function.update a.waiting p (a.waiting p - 1) }
  | handedOver (a : Ledger) (p : PortId) (idle : a.busy p = none) :
      Move a { a with waiting := Function.update a.waiting p 1 }
  | started (a : Ledger) :
      Move a { a with busy := fun _ => none, waiting := fun _ => 0, held := fun _ => none, nextJob := 1, nextAge := 1 }
  | coldStarted (a : Ledger) : Move a State.reset.ledger

/-- Any number of changes of the ledger, one after another. -/
abbrev Ledger.Moves : Ledger → Ledger → Prop := Relation.ReflTransGen Ledger.Move

/-- What a step does to the ledger: changes alone; changes and the reply of a packet that found fewer than 4 frames waiting, at a port
without a command in progress or with no other frame put in its queue; or a capture placed in a free slot. -/
inductive Ledger.Turn : Ledger → Ledger → Prop
  | moved {a b : Ledger} (h : a.Moves b) : Turn a b
  | replied {a b : Ledger} (p : PortId) (room : a.waiting p < 4) (still : a.busy p = none ∨ b.waiting p = a.waiting p)
      (h : a.Moves b) : Turn a { b with waiting := Function.update b.waiting p (b.waiting p + 1) }
  | placed {a b : Ledger} (c : ChannelId) (p : PortId) (g : Progress) (h : a.Moves b) (room : b.waiting p < 4)
      (idle : b.busy p = none) (free : b.held c = none) :
      Turn a { b with held := Function.update b.held c (some (p, g)), busy := Function.update b.busy p (some g) }

/-- The operations that lead from one state to another make changes of the ledger alone. -/
def State.Moves (s t : State) : Prop := s.ledger.Moves t.ledger

theorem State.Moves.refl (s : State) : s.Moves s := Relation.ReflTransGen.refl

theorem State.Moves.of_eq {s t : State} (h : t.ledger = s.ledger) : s.Moves t := by
  rw [State.Moves, h]

theorem State.Moves.trans {s t u : State} (h : s.Moves t) (k : t.Moves u) : s.Moves u := Relation.ReflTransGen.trans h k

theorem State.Moves.single {s t : State} (h : s.ledger.Move t.ledger) : s.Moves t := Relation.ReflTransGen.single h

/-- A change of the ledger that leads to the ledger of a state. -/
theorem State.Moves.step {s t : State} {b : Ledger} (h : s.ledger.Move b) (e : t.ledger = b) : s.Moves t :=
  State.Moves.single (by rw [e]; exact h)

/-- Operations done for every item of a list. -/
theorem State.Moves.foldl {α : Type} {f : State → α → State} (h : ∀ (s : State) x, s.Moves (f s x)) (l : List α) (s : State) :
    s.Moves (l.foldl f s) := by
  induction l generalizing s with
  | nil => exact .refl s
  | cons x xs ih => exact (h s x).trans (ih _)

/-! ### Operations that leave the ledger -/

/-- Two states whose ledger items are the same one by one have the same ledger. -/
theorem State.ledger_congr {s t : State} (h : t = { s with
      pending := t.pending, mainSupply := t.mainSupply, resetHigh := t.resetHigh, timebase := t.timebase, clockDue := t.clockDue
      signatureHolds := t.signatureHolds, sumError := t.sumError, storeLost := t.storeLost, ports := t.ports
      channels := t.channels, printers := t.printers, active := t.active, edit := t.edit, snapshots := t.snapshots
      headers := t.headers, jobs := t.jobs })
    (hp : ∀ p, (t.port p).drawer = (s.port p).drawer ∧ (t.port p).busy = (s.port p).busy ∧ (t.port p).out = (s.port p).out)
    (hc : ∀ c, (t.channel c).slot.map Capture.hold = (s.channel c).slot.map Capture.hold) : t.ledger = s.ledger := by
  have h1 : t.ledger.drawer = s.ledger.drawer := funext fun p => (hp p).1
  have h2 : t.ledger.busy = s.ledger.busy := funext fun p => (hp p).2.1
  have h3 : t.ledger.waiting = s.ledger.waiting := funext fun p => congrArg List.length (hp p).2.2
  have h4 : t.ledger.held = s.ledger.held := funext hc
  have h5 : t.ledger = { s.ledger with
      drawer := t.ledger.drawer, busy := t.ledger.busy, waiting := t.ledger.waiting, held := t.ledger.held } := by
    rw [h]; rfl
  rw [h5, h1, h2, h3, h4]

/-- The pool, the printers and the ports' attention are no part of the ledger. -/
theorem State.PoolStep.ledger {s t : State} (h : s.PoolStep t) : t.ledger = s.ledger :=
  State.ledger_congr (by rw [h.1]) (fun p => ⟨h.drawer p, h.busy p, h.out p⟩) fun c => by
    unfold State.channel; rw [h.channels]

@[simp] theorem State.ledger_raise (s : State) (e : Event) : (s.raise e).ledger = s.ledger := (s.poolStep_raise e).ledger

@[simp] theorem State.ledger_setPrinter (s : State) (r : PrinterId) (x : Printer) : (s.setPrinter r x).ledger = s.ledger := rfl

@[simp] theorem State.ledger_putJob (s : State) (j : Job) : (s.putJob j).ledger = s.ledger := rfl

@[simp] theorem State.ledger_reach (s : State) (time : Nat) : (s.reach time).ledger = s.ledger := rfl

/-- A port whose drawer, command in progress and output queue stay. -/
theorem State.ledger_setPort (s : State) (p : PortId) (x : Port)
    (h : x.drawer = (s.port p).drawer ∧ x.busy = (s.port p).busy ∧ x.out = (s.port p).out) :
    (s.setPort p x).ledger = s.ledger := by
  refine State.ledger_congr rfl (fun q => ?_) fun c => rfl
  rw [State.port_setPort]
  split_ifs with e
  · exact e ▸ h
  · exact ⟨rfl, rfl, rfl⟩

@[simp] theorem State.ledger_hunt (s : State) (p : PortId) : (s.hunt p).ledger = s.ledger :=
  s.ledger_setPort p _ ⟨rfl, rfl, rfl⟩

/-- A channel whose slot stays. -/
theorem State.ledger_setChannel (s : State) (c : ChannelId) (x : Channel) (h : x.slot = (s.channel c).slot) :
    (s.setChannel c x).ledger = s.ledger := by
  refine State.ledger_congr rfl (fun p => ⟨rfl, rfl, rfl⟩) fun d => ?_
  rw [State.channel_setChannel]
  split_ifs with e
  · rw [h, e]
  · rfl

theorem State.ledger_changeChannel (s : State) (c : ChannelId) (x : Channel) (h : x.slot = (s.channel c).slot) :
    (s.changeChannel c x).ledger = s.ledger := by
  unfold State.changeChannel
  split_ifs
  · exact s.ledger_setChannel c x h
  · rw [State.ledger_raise, s.ledger_setChannel c x h]

/-- The line numbers of waiting captures are no part of the ledger (R36). -/
theorem State.ledger_renumberCaptures (s : State) (n k : Nat) : (s.renumberCaptures n k).ledger = s.ledger := by
  refine State.ledger_congr rfl (fun p => ⟨rfl, rfl, rfl⟩) fun c => ?_
  have hc : (s.renumberCaptures n k).channel c = { s.channel c with
      slot := (s.channel c).slot.map fun cap => { cap with owner := cap.owner.renumber n k } } := by
    simp [State.renumberCaptures, State.channel]
  rw [hc, Option.map_map]
  congr 1
  funext cap
  have ho : (cap.owner.renumber n k).progress = cap.owner.progress := by
    cases cap.owner with
    | tare plate => rfl
    | line m j role grade => simp only [CaptureOwner.renumber]; split_ifs <;> rfl
  simp [Capture.hold, ho]

/-! ### Operations that change one item -/

theorem State.ledger_giveWeighing (s : State) :
    s.giveWeighing.ledger = { s.ledger with nextWeighing := advanceNumber s.ledger.nextWeighing } := rfl

/-- A ticket record replaced writes the stamp it owes under its number. -/
theorem State.ledger_putTicket (s : State) (t : Ticket) :
    (s.putTicket t).ledger = s.ledger.setStamp t.number (t.owed.map Owed.stamp) := by
  have h : (s.putTicket t).ledger.names = (s.ledger.setStamp t.number (t.owed.map Owed.stamp)).names := by
    simp only [State.ledger, Ledger.setStamp, State.putTicket_tickets, List.map_map]
    refine List.map_congr_left fun x _ => ?_
    by_cases e : x.number = t.number <;> simp [Ticket.entry, e]
  calc (s.putTicket t).ledger = { s.ledger with names := (s.putTicket t).ledger.names } := rfl
    _ = _ := by rw [h]; rfl

theorem State.ledger_moveTicket (s : State) (t : Ticket) :
    (s.moveTicket t).ledger = s.ledger.setStamp t.number (t.owed.map Owed.stamp) := by
  rw [State.moveTicket, State.ledger_raise, State.ledger_putTicket]

/-- The stamps of the owed receipts are the ledger's. -/
theorem State.ledger_stamps (s : State) : s.ledger.stamps = s.owedItems.map OwedItem.stamp := by
  unfold State.owedItems
  rw [List.map_append, List.map_filterMap]
  unfold Ledger.stamps
  congr 1
  · simp only [State.ledger, List.filterMap_map]
    refine List.filterMap_congr fun t _ => ?_
    simp only [Function.comp_apply, Ticket.entry]
    cases t.owed <;> rfl
  · simp only [State.ledger]
    cases s.report with
    | none => rfl
    | some rep => cases h : rep.owed <;> simp [DayReport.stamp?, h, OwedItem.stamp]

/-- The stamps given anew (R135). -/
theorem State.ledger_advanceStamp (s : State) : s.advanceStamp.ledger = s.ledger.advanceStamp := by
  unfold State.advanceStamp Ledger.advanceStamp
  rw [show s.ledger.nextStamp = s.nextStamp from rfl]
  split_ifs
  · rfl
  · rw [Ledger.restamp, State.ledger_stamps]
    have hn : s.restamp.ledger.names =
        s.ledger.names.map fun x => (x.1, x.2.map (rankOf (s.owedItems.map OwedItem.stamp))) := by
      simp only [State.ledger, State.restamp, List.map_map]
      refine List.map_congr_left fun t _ => ?_
      simp only [Function.comp_apply, Ticket.entry, Option.map_map]
      rfl
    have hr : s.restamp.ledger.reportStamp = s.ledger.reportStamp.map (rankOf (s.owedItems.map OwedItem.stamp)) := by
      simp only [State.ledger, State.restamp]
      cases s.report with
      | none => rfl
      | some rep => cases h : rep.owed <;> simp [DayReport.stamp?, h]
    calc s.restamp.ledger = { s.ledger with
            names := s.restamp.ledger.names, reportStamp := s.restamp.ledger.reportStamp
            nextStamp := (s.owedItems.map OwedItem.stamp).length + 1 } := rfl
      _ = _ := by rw [hn, hr]

/-- A receipt owed by a ticket takes the counter's stamp, and the counter goes on (R135). -/
theorem State.moves_owe (s : State) (t : Ticket) (kind : TicketReceipt) (port : PortId) : s.Moves (s.owe t kind port) :=
  .step (.owes _ t.number) (by rw [State.owe, State.ledger_advanceStamp, State.ledger_putTicket]; rfl)

/-- A record that keeps its number, and its owed stamp or owes nothing, replaced in its place. -/
theorem State.moves_putTicket {s : State} {t u : Ticket} (hu : u ∈ s.tickets)
    (h : t.owed = none ∨ t.entry = u.entry) : s.Moves (s.putTicket t) := by
  refine .step (.replaced _ t.number (t.owed.map Owed.stamp) fun _ => ?_) (s.ledger_putTicket t)
  rcases h with h | h
  · exact .inl (by rw [h]; rfl)
  · exact .inr (show t.entry ∈ s.tickets.map Ticket.entry from h ▸ List.mem_map_of_mem hu)

theorem State.moves_moveTicket {s : State} {t u : Ticket} (hu : u ∈ s.tickets)
    (h : t.owed = none ∨ t.entry = u.entry) : s.Moves (s.moveTicket t) :=
  (State.moves_putTicket hu h).trans (.of_eq (State.ledger_raise _ _))

/-- A record that owes nothing replaces any. -/
theorem State.moves_putTicket_none (s : State) {t : Ticket} (h : t.owed = none) : s.Moves (s.putTicket t) :=
  .step (.replaced _ t.number (t.owed.map Owed.stamp) fun _ => .inl (by rw [h]; rfl)) (s.ledger_putTicket t)

@[simp] theorem Ticket.entry_changeLine (t : Ticket) (k : Nat) (f : Line → Line) : (t.changeLine k f).entry = t.entry := by
  simp [Ticket.entry]

end Sys2Proof.Machine
end

section
/-! SUPPORT. The shared operations of the part as changes of its ledger: tickets, captures, the pool, the print engine and restarts. -/

namespace Sys2Proof.Machine

/-! ### Tickets (R30, R54, R110) -/

/-- In a table without two tickets of one number, an entry written in its own place changes nothing. -/
theorem Ledger.setStamp_eq_self {a : Ledger} {n : Nat} {o : Option Nat} (hn : a.numbers.Nodup) (h : (n, o) ∈ a.names) :
    a.setStamp n o = a := by
  have hm : (a.names.map fun x => if x.1 = n then (n, o) else x) = a.names := by
    refine (List.map_congr_left fun x hx => ?_).trans (List.map_id _)
    split_ifs with e
    · exact (List.inj_on_of_nodup_map hn hx h e).symm
    · rfl
  rw [Ledger.setStamp, hm]

/-- An entry written keeps the numbers. -/
@[simp] theorem Ledger.setStamp_numbers (a : Ledger) (n : Nat) (o : Option Nat) : (a.setStamp n o).numbers = a.numbers := by
  unfold Ledger.numbers Ledger.setStamp
  rw [List.map_map]
  refine List.map_congr_left fun x _ => ?_
  simp only [Function.comp_apply]
  split_ifs with e
  · exact e.symm
  · rfl

/-- A list of tickets of the table released in order. -/
theorem State.moves_releaseDue_of (s : State) (ts : List Ticket)
    (h : s.ledger.numbers.Nodup → ∀ t ∈ ts, t.entry ∈ s.ledger.names) : s.Moves (s.releaseDue ts) := by
  unfold State.releaseDue
  induction ts generalizing s with
  | nil => exact .refl s
  | cons t ts ih =>
    rw [List.foldl_cons]
    split_ifs
    · have e : (s.releaseTicket t).ledger = s.ledger.setStamp t.number (t.owed.map Owed.stamp) := s.ledger_moveTicket _
      have h1 : s.Moves (s.releaseTicket t) := .step (.replaced _ _ _ fun hn => .inr (h hn t List.mem_cons_self)) e
      refine h1.trans (ih _ fun hn u hu => ?_)
      rw [e, Ledger.setStamp_numbers] at hn
      rw [e, Ledger.setStamp_eq_self hn (h hn t List.mem_cons_self)]
      exact h hn u (List.mem_cons_of_mem _ hu)
    · exact ih s fun hn u hu => h hn u (List.mem_cons_of_mem _ hu)

/-- Tickets of the table released in order (R110). -/
theorem State.moves_releaseDue (s : State) (ts : List Ticket) (h : ∀ t ∈ ts, t ∈ s.tickets) : s.Moves (s.releaseDue ts) :=
  s.moves_releaseDue_of ts fun _ t ht => List.mem_map_of_mem (h t ht)

/-- Dropping the oldest snapshot is no change of the ledger. -/
theorem State.ledger_dropOldest (s : State) : s.dropOldest.ledger = s.ledger := s.dropOldest_eq.ledger

/-- A retired ticket leaves the table (R54). -/
theorem State.moves_retire (s : State) (t : Ticket) : s.Moves (s.retire t) := by
  refine .step (.retired _ t.number) ?_
  unfold State.retire
  dsimp only
  rw [State.ledger_dropOldest, State.ledger_raise]
  have h : (s.tickets.filter fun x => decide (x.number ≠ t.number)).map Ticket.entry =
      (s.tickets.map Ticket.entry).filter fun x => decide (x.1 ≠ t.number) := by
    rw [List.filter_map]; rfl
  simp only [State.ledger, h]
  rfl

theorem State.moves_retireIfDone (s : State) (n : Nat) : s.Moves (s.retireIfDone n) := by
  unfold State.retireIfDone
  split
  · exact .refl s
  · split_ifs
    · exact s.moves_retire _
    · exact .refl s

/-! ### The capture slot (R23, R47) -/

/-- A mark set or cleared keeps every number and stamp. -/
theorem State.moves_setMark (s : State) (owner : CaptureOwner) (m : Option Side) : s.Moves (s.setMark owner m) := by
  cases owner with
  | tare plate => exact .refl s
  | line n k role grade =>
    cases h : s.ticket? n with
    | none => simp only [State.setMark, h]; exact .refl s
    | some t => rw [State.setMark_line h]; exact State.moves_putTicket (State.ticket?_mem h) (.inr (Ticket.entry_changeLine _ _ _))

/-- A waiting capture stands in the ledger. -/
theorem State.ledger_held {s : State} {c : ChannelId} {cap : Capture} (h : (s.channel c).slot = some cap) :
    s.ledger.held c = some (cap.port, { kind := cap.owner.progress, tag := cap.tag }) := by
  simp only [State.ledger, h]; rfl

/-- A reply joins an output queue. -/
theorem State.ledger_reply (s : State) (p : PortId) (tag : Byte) (a : Answer) :
    (s.reply p tag a).ledger =
      { s.ledger with waiting := Function.update s.ledger.waiting p (s.ledger.waiting p + 1) } := by
  simp only [State.ledger]
  congr 1
  · funext q; simp only [State.port_reply]; split_ifs with e <;> simp [e]
  · funext q; simp only [State.port_reply]; split_ifs with e <;> simp [e]
  · funext q
    simp only [State.port_reply, Function.update_apply, eq_comm (a := q)]
    split_ifs <;> simp

/-- A mark and a port written in either order. -/
theorem State.setMark_setPort (s : State) (owner : CaptureOwner) (m : Option Side) (p : PortId) (x : Port) :
    (s.setPort p x).setMark owner m = (s.setMark owner m).setPort p x := by
  cases owner with
  | tare plate => rfl
  | line n k role grade =>
    simp only [State.setMark, State.ticket?_setPort]
    split <;> rfl

/-- A mark and a reply given in either order. -/
theorem State.setMark_reply (s : State) (owner : CaptureOwner) (m : Option Side) (p : PortId) (tag : Byte) (a : Answer) :
    (s.reply p tag a).setMark owner m = (s.setMark owner m).reply p tag a := by
  rw [State.reply, State.enqueue, State.setMark_setPort, State.reply, State.enqueue, State.port_setMark]

/-- The state after a waiting capture has left its slot and its port, its owner's mark left aside. -/
def State.released (s : State) (c : ChannelId) (cap : Capture) : State :=
  (s.setChannel c { s.channel c with slot := none }).setPort cap.port { s.port cap.port with busy := none }

/-- Freeing a slot is the release of its port, and its owner's mark cleared. -/
theorem State.freeSlot_eq_released {s : State} {c : ChannelId} {cap : Capture} (h : (s.channel c).slot = some cap) :
    s.freeSlot c = (s.released c cap).setMark cap.owner none := by
  rw [State.freeSlot_some h, State.released, State.setMark_setPort]

theorem State.ledger_released (s : State) (c : ChannelId) (cap : Capture) :
    (s.released c cap).ledger = { s.ledger with
      held := Function.update s.ledger.held c none, busy := Function.update s.ledger.busy cap.port none } := by
  simp only [State.ledger, State.released]
  congr 1
  · funext p; simp only [State.port_setPort, State.port_setChannel]; split_ifs with e <;> simp [e]
  · funext p; simp only [State.port_setPort, State.port_setChannel, Function.update_apply, eq_comm (a := p)]
    split_ifs <;> rfl
  · funext p; simp only [State.port_setPort, State.port_setChannel]; split_ifs with e <;> simp [e]
  · funext d; simp only [State.channel_setPort, State.channel_setChannel, Function.update_apply, eq_comm (a := d)]
    split_ifs <;> rfl

theorem State.moves_freeSlot (s : State) (c : ChannelId) : s.Moves (s.freeSlot c) := by
  cases h : (s.channel c).slot with
  | none => rw [State.freeSlot_none h]; exact .refl s
  | some cap =>
    rw [State.freeSlot_eq_released h]
    exact (State.Moves.step (.freed _ c _ _ (State.ledger_held h)) (s.ledger_released c cap)).trans (State.moves_setMark _ _ _)

theorem State.moves_endCapture (s : State) (c : ChannelId) (a : Answer) : s.Moves (s.endCapture c a) := by
  cases h : (s.channel c).slot with
  | none => rw [State.endCapture_none a h]; exact .refl s
  | some cap =>
    rw [State.endCapture_some a h, State.freeSlot_eq_released h, ← State.setMark_reply]
    refine (State.Moves.step (.ended _ c _ _ (State.ledger_held h)) ?_).trans (State.moves_setMark _ _ _)
    rw [State.ledger_reply, State.ledger_released]

/-- Captures ended one after another. -/
theorem State.moves_endCaptures (s : State) (which : Capture → Bool) {finishOne : State → ChannelId → State}
    (h : ∀ t c, State.Moves t (finishOne t c)) : s.Moves (s.endCaptures which finishOne) :=
  State.endCaptures_induct (fun t => s.Moves t) s which finishOne (.refl s) fun t c _ ht _ _ => ht.trans (h t c)

/-! ### The completion of a capture (R20, R44 to R46, R61) -/

@[simp] theorem Ticket.entry_recordWeighing (t : Ticket) (k : Nat) (role : CaptureRole) (grade : Nat) (w : Weighing) :
    (t.recordWeighing k role grade w).entry = t.entry := by
  cases role with
  | gross => exact Ticket.entry_changeLine _ _ _
  | tare => exact Ticket.entry_changeLine _ _ _
  | chain => exact Ticket.entry_changeLine t k _

/-- A tare entry stored takes the place of one of its plate (R61). -/
theorem State.moves_storeTare (s : State) (e : TareEntry) : s.Moves (s.storeTare e) := by
  refine .step (.tareStored _ e.plate) ?_
  have h : (s.tares.filter (fun x => decide (x.plate ≠ e.plate)) ++ [e]).map TareEntry.plate =
      (s.tares.map TareEntry.plate).filter (fun x => decide (x ≠ e.plate)) ++ [e.plate] := by
    rw [List.map_append, List.filter_map]; rfl
  simp only [State.ledger, State.storeTare, h]
  rfl

theorem State.moves_giveWeighing (s : State) : s.Moves s.giveWeighing := .step (.weighed _) s.ledger_giveWeighing

theorem State.moves_completeCapture (s : State) (owner : CaptureOwner) (c : ChannelId) (r : Reading) :
    s.Moves (s.completeCapture owner c r).1 := by
  unfold State.completeCapture
  split_ifs
  · exact s.moves_setMark _ _
  · cases owner with
    | tare plate =>
      dsimp only
      split
      · exact s.moves_setMark _ _
      · exact (s.moves_storeTare _).trans (State.moves_giveWeighing _)
    | line n k role grade =>
      dsimp only
      split
      · exact .refl s
      · rename_i t ht
        split
        · exact .refl s
        · split
          · exact s.moves_setMark _ _
          · exact (State.moves_putTicket (State.ticket?_mem ht) (.inr (Ticket.entry_recordWeighing _ _ _ _ _))).trans
              (State.moves_giveWeighing _)

/-- A completion reads and writes no port, so a reply can be given before it as well as after. -/
theorem State.completeCapture_reply (s : State) (owner : CaptureOwner) (c : ChannelId) (r : Reading) (p : PortId) (tag : Byte)
    (a : Answer) :
    ((s.reply p tag a).completeCapture owner c r).1 = (s.completeCapture owner c r).1.reply p tag a := by
  unfold State.completeCapture
  split_ifs
  · exact s.setMark_reply _ _ _ _ _
  · cases owner with
    | tare plate =>
      dsimp only
      rw [show tareTest (s.reply p tag a) plate ((s.reply p tag a).channel c).config.division r
        = tareTest s plate (s.channel c).config.division r from rfl]
      split <;> rfl
    | line n k role grade =>
      simp only [State.ticket?_reply, State.channel_reply]
      cases s.ticket? n with
      | none => rfl
      | some t =>
        dsimp only
        cases t.line? k with
        | none => rfl
        | some ln =>
          dsimp only
          split
          · exact s.setMark_reply (.line n k role grade) none _ _ _
          · rfl

theorem State.moves_completeWaiting (s : State) (c : ChannelId) : s.Moves (s.completeWaiting c) := by
  unfold State.completeWaiting
  split
  · rename_i cap r hs _
    dsimp only
    rw [← State.completeCapture_reply, ← State.endCapture_some _ hs]
    exact (s.moves_endCapture c _).trans (State.moves_completeCapture _ _ _ _)
  · exact .refl s

/-! ### The scale channels (R6 to R8, R21) -/

theorem State.moves_changeChannel (s : State) (c : ChannelId) (x : Channel) (h : x.slot = (s.channel c).slot) :
    s.Moves (s.changeChannel c x) := .of_eq (s.ledger_changeChannel c x h)

theorem State.moves_arrive (s : State) (c : ChannelId) (raw : Int) (high : Bool) : s.Moves (s.arrive c raw high) := by
  unfold State.arrive
  dsimp only
  have h := s.moves_changeChannel c ((s.channel c).join s.timebase raw high) rfl
  split_ifs
  · exact h.trans (State.moves_completeWaiting _ c)
  · exact h

/-- A channel changed, and its waiting capture ended (R22). -/
theorem State.moves_changeAndEnd (s : State) (c : ChannelId) (x : Channel) (a : Answer) (h : x.slot = (s.channel c).slot) :
    s.Moves ((s.changeChannel c x).endCapture c a) :=
  (s.moves_changeChannel c x h).trans (State.moves_endCapture _ c a)

theorem State.moves_headFault (s : State) (c : ChannelId) : s.Moves (s.headFault c) :=
  s.moves_changeAndEnd c _ _ (by rfl)

theorem State.moves_expireStale (s : State) (c : ChannelId) : s.Moves (s.expireStale c) := by
  unfold State.expireStale
  split
  · exact .refl s
  · rename_i time _
    exact (State.Moves.of_eq (s.ledger_reach time)).trans (State.moves_changeAndEnd _ c _ _ (by rfl))

theorem State.moves_expireCapture (s : State) (c : ChannelId) : s.Moves (s.expireCapture c) := by
  unfold State.expireCapture
  split
  · exact .refl s
  · exact (State.Moves.of_eq (s.ledger_reach _)).trans (State.moves_endCapture _ c _)

/-! ### The pool and the owed-receipt service (R133, R137) -/

/-- The search for a job id ends at a number that the counter reaches. -/
theorem freeJobId_reached (jobs : List Job) (fuel n : Nat) : ∃ i, freeJobId jobs fuel n = advanceJob^[i] n := by
  obtain ⟨i, h, _⟩ := freeJobId_passesOver jobs fuel n
  exact ⟨i, h⟩

theorem State.moves_addJob (s : State) (j : Job) : s.Moves (s.addJob j) := by
  obtain ⟨i, hi⟩ := freeJobId_reached s.jobs 255 s.nextJob
  refine .step (.jobMade _ i) ?_
  rw [show s.ledger.nextJob = s.nextJob from rfl, ← hi]
  rfl

theorem State.moves_serveOne (s : State) (x : OwedItem) : s.Moves (s.serveOne x) := by
  unfold State.serveOne
  split_ifs
  · exact s.moves_addJob _
  · exact .refl s

theorem State.moves_runService (s : State) : s.Moves s.runService := .foldl State.moves_serveOne _ s

/-! ### The print engine (R130 to R149) -/

theorem State.PoolStep.moves {s t : State} (h : s.PoolStep t) : s.Moves t := .of_eq h.ledger

theorem State.moves_abortJob (s : State) (j : Job) : s.Moves (s.abortJob j) := by
  have h1 : ∀ t : State, t.Moves (match j.source with
      | .owed n _ => t.retireIfDone n
      | .copyTicket _ => t
      | .copySnapshot _ => t
      | .report _ => t) := fun t => by
    split
    · exact t.moves_retireIfDone _
    all_goals exact .refl t
  exact (s.poolStep_leavePool j .aborted).moves.trans ((h1 _).trans (State.poolStep_settleLock _ _).moves)

theorem State.moves_printerFault (s : State) (r : PrinterId) : s.Moves (s.printerFault r) := by
  unfold State.printerFault
  split
  · exact .refl s
  · split
    · exact (s.poolStep_requeue _).moves
    · exact s.moves_abortJob _
    · exact .refl s

theorem State.moves_setStatus (s : State) (r : PrinterId) (v : PrinterStatus) : s.Moves (s.setStatus r v) := by
  unfold State.setStatus
  dsimp only
  split_ifs
  · exact .refl s
  · exact (s.poolStep_setPrinter r _).moves.trans
      ((State.moves_printerFault _ r).trans (State.poolStep_raisePrinter _ r).moves)
  · exact (s.poolStep_setPrinter r _).moves.trans (State.poolStep_raisePrinter _ r).moves

theorem State.moves_statusReport (s : State) (r : PrinterId) (v : PrinterReport) : s.Moves (s.statusReport r v) :=
  (s.poolStep_setPrinter r _).moves.trans (State.moves_setStatus _ r _)

/-- A DONE job's ticket keeps its number, and the stamp it owes or none (R146). -/
theorem Ticket.afterPrint_entry (t : Ticket) (kind : TicketReceipt) (stamp : Nat) :
    (t.afterPrint kind stamp).owed = none ∨ (t.afterPrint kind stamp).entry = t.entry := by
  unfold Ticket.afterPrint Ticket.entry
  cases t.owed with
  | none => exact .inl rfl
  | some o => dsimp only; split_ifs <;> simp

theorem State.moves_oweVoidNotice (s : State) (t : Ticket) : s.Moves (s.oweVoidNotice t) := by
  unfold State.oweVoidNotice
  split
  · exact .refl s
  · exact s.moves_owe _ _ _

theorem State.moves_ticketPrinted (s : State) (n : Nat) (kind : TicketReceipt) (stamp : Nat) :
    s.Moves (s.ticketPrinted n kind stamp) := by
  unfold State.ticketPrinted
  split
  · exact .refl s
  · rename_i t ht
    have h := State.moves_putTicket (s := s) (State.ticket?_mem ht) (Ticket.afterPrint_entry t kind stamp)
    dsimp only
    split_ifs
    · exact h.trans ((State.moves_oweVoidNotice _ _).trans (State.moves_retireIfDone _ _))
    · exact h.trans (State.moves_retireIfDone _ _)

theorem State.moves_reportPrinted (s : State) (stamp : Nat) : s.Moves (s.reportPrinted stamp) := by
  unfold State.reportPrinted
  split
  · exact .refl s
  · split
    · exact .refl s
    · split_ifs
      · exact .step (.reportDone _) rfl
      · exact .refl s

theorem State.moves_sourceEffects (s : State) (j : Job) : s.Moves (s.sourceEffects j) := by
  unfold State.sourceEffects
  split
  · exact s.moves_ticketPrinted _ _ _
  · exact s.moves_reportPrinted _
  · exact .refl s

theorem State.poolStep_sendEnd (s : State) (r : PrinterId) : s.PoolStep (s.sendEnd r) := s.poolStep_setPrinter r _

theorem State.poolStep_sendAwaited (s : State) (r : PrinterId) (f : PrinterFrame) (job : Nat) :
    s.PoolStep (s.sendAwaited r f job) := s.poolStep_setPrinter r _

theorem State.poolStep_clearAwaited (s : State) (r : PrinterId) : s.PoolStep (s.clearAwaited r) := s.poolStep_setPrinter r _

theorem State.moves_finishJob (s : State) (j : Job) : s.Moves (s.finishJob j) :=
  ((s.poolStep_sendEnd _).trans (State.poolStep_leavePool _ j .printed)).moves.trans
    ((State.moves_sourceEffects _ j).trans (State.poolStep_settleLock _ _).moves)

/-- The started flag is no part of the ledger (R136, R143). -/
theorem State.moves_setStarted (s : State) (j : Job) : s.Moves (s.setStarted j) := by
  unfold State.setStarted
  split
  · split
    · exact .refl s
    · rename_i t ht
      split
      · exact .refl s
      · rename_i o ho
        split_ifs
        · exact State.moves_putTicket (State.ticket?_mem ht) (.inr (by simp [Ticket.entry, ho]))
        · exact .refl s
  · split
    · exact .refl s
    · rename_i rep hr
      split
      · exact .refl s
      · rename_i o ho
        split_ifs
        · refine .of_eq ?_
          simp only [State.ledger, hr, Option.bind_some, DayReport.stamp?, ho, Option.map_some]
          rfl
        · exact .refl s
  · exact .refl s
  · exact .refl s

theorem State.moves_startPrinting (s : State) (j : Job) : s.Moves (s.startPrinting j) :=
  (s.poolStep_putJob _).moves.trans ((State.moves_setStarted _ _).trans (State.poolStep_sendAwaited _ _ _ _).moves)

theorem State.moves_lineAccepted (s : State) (j : Job) : s.Moves (s.lineAccepted j) := by
  unfold State.lineAccepted
  dsimp only
  split_ifs
  · exact ((s.poolStep_putJob _).trans (State.poolStep_sendAwaited _ _ _ _)).moves
  · exact s.moves_finishJob _

theorem State.moves_answerUsable (s : State) (r : PrinterId) (f : PrinterFrame) (accepted : Bool) :
    s.Moves (s.answerUsable r f accepted) := by
  unfold State.answerUsable
  split
  · exact .refl s
  · split
    · exact s.moves_startPrinting _
    · split_ifs
      · exact s.moves_lineAccepted _
      · exact (s.poolStep_sendAwaited _ _ _).moves
    · exact .refl s

theorem State.moves_answerReport (s : State) (r : PrinterId) (a : PrinterAnswer) : s.Moves (s.answerReport r a) := by
  cases a with
  | accepted => exact .refl s
  | report v => exact s.moves_statusReport r v

theorem State.moves_answer (s : State) (r : PrinterId) (a : PrinterAnswer) : s.Moves (s.answer r a) := by
  unfold State.answer
  split
  · exact s.moves_answerReport r a
  · dsimp only
    split_ifs
    · exact ((s.poolStep_clearAwaited r).trans (State.poolStep_sendEnd _ r)).moves.trans (State.moves_answerReport _ r a)
    · exact (s.poolStep_clearAwaited r).moves.trans
        ((State.moves_answerReport _ r a).trans (State.moves_answerUsable _ r _ _))
    · exact (s.poolStep_clearAwaited r).moves.trans (State.moves_answerReport _ r a)

theorem State.moves_expireAnswer (s : State) (r : PrinterId) : s.Moves (s.expireAnswer r) := by
  unfold State.expireAnswer
  split
  · exact .refl s
  · rename_i w _
    dsimp only
    refine (State.Moves.of_eq (s.ledger_reach w.expiry)).trans ((State.poolStep_clearAwaited _ r).moves.trans ?_)
    split_ifs
    · exact (State.poolStep_sendEnd _ r).moves.trans (State.moves_setStatus _ r _)
    · exact State.moves_setStatus _ r _

theorem State.moves_expireStatus (s : State) (r : PrinterId) : s.Moves (s.expireStatus r) := by
  unfold State.expireStatus
  split
  · exact .refl s
  · exact (State.Moves.of_eq (s.ledger_reach _)).trans
      ((State.poolStep_setPrinter _ r _).moves.trans (State.moves_setStatus _ r _))

theorem State.moves_arbiterTake (s : State) (r : PrinterId) : s.Moves (s.arbiterTake r) := by
  unfold State.arbiterTake
  split
  · exact .refl s
  · exact ((s.poolStep_putJob _).trans (State.poolStep_sendAwaited _ _ _ _)).moves

/-! ### The station lines (R175, R176, R192) -/

/-- The head of an output queue sent (R176). -/
theorem State.moves_frameSent (s : State) (p : PortId) : s.Moves (s.frameSent p) := by
  refine .step (.sent _ p) ?_
  simp only [State.ledger, State.frameSent]
  congr 1
  · funext q; simp only [State.port_setPort]; split_ifs with e <;> simp [e]
  · funext q; simp only [State.port_setPort]; split_ifs with e <;> simp [e]
  · funext q
    simp only [State.port_setPort, Function.update_apply, eq_comm (a := q)]
    split_ifs <;> simp

/-- A handover puts one frame into an empty output queue (R192). -/
theorem State.moves_handover (s : State) (p : PortId) : s.Moves (s.handover p) := by
  unfold State.handover Port.handover
  split_ifs with h
  · obtain ⟨⟨-, hb⟩, -⟩ : ((s.port p).release = true ∧ (s.port p).busy = none) ∧ (s.port p).out = [] := by
      simpa [Port.handsOver] using h
    split
    · exact .of_eq (s.ledger_setPort p _ ⟨rfl, rfl, rfl⟩)
    · refine .step (.handedOver _ p hb) ?_
      simp only [State.ledger]
      congr 1
      · funext q; simp only [State.port_setPort]; split_ifs with e <;> simp [e]
      · funext q; simp only [State.port_setPort]; split_ifs with e <;> simp [e]
      · funext q
        simp only [State.port_setPort, Function.update_apply, eq_comm (a := q)]
        split_ifs <;> simp
  · exact .of_eq (s.ledger_setPort p _ ⟨rfl, rfl, rfl⟩)

theorem State.moves_expireFrame (s : State) (p : PortId) : s.Moves (s.expireFrame p) := by
  unfold State.expireFrame
  split
  · exact .refl s
  · exact .of_eq (by rw [State.ledger_hunt, State.ledger_reach])

/-! ### The clock (R107, R110) -/

theorem State.Moves.whileRunning {f : State → State} (s : State) (h : ∀ t : State, t.Moves (f t)) : s.Moves (s.whileRunning f) := by
  unfold State.whileRunning
  split_ifs
  · exact h s
  · exact .refl s

theorem State.moves_clockAdvance (s : State) : s.Moves s.clockAdvance :=
  (State.Moves.step (.clockRan _) rfl : s.Moves s.advanceClock).trans
    (.whileRunning _ fun t => t.moves_releaseDue _ fun _ h => h)

theorem State.moves_expireHold (s : State) (n : Nat) : s.Moves (s.expireHold n) := by
  unfold State.expireHold
  split
  · exact .refl s
  · split
    · exact .refl s
    · split_ifs
      · exact s.moves_releaseDue _ fun _ h => List.mem_of_mem_take h
      · exact .refl s

/-! ### Restarts (R182, R195, R197 to R199) -/

/-- The volatile items of the ledger at their start values (Table 11-2). -/
theorem State.ledger_volatileStart (s : State) : s.volatileStart.ledger = { s.ledger with
    busy := fun _ => none, waiting := fun _ => 0, held := fun _ => none, nextJob := 1, nextAge := 1 } := by
  have h : (s.tickets.map Ticket.unmarked).map Ticket.entry = s.tickets.map Ticket.entry := by
    rw [List.map_map]; rfl
  simp only [State.ledger, State.volatileStart, h]
  congr 1
  · funext p; simp [State.port, Port.restarted, Port.start]
  · funext p; simp [State.port, Port.restarted, Port.start]
  · funext p; simp [State.port, Port.restarted, Port.start]
  · funext c; simp [State.channel, Channel.restarted]

theorem State.moves_volatileStart (s : State) : s.Moves s.volatileStart := .step (.started _) s.ledger_volatileStart

theorem State.moves_warmStart (s : State) : s.Moves s.warmStart :=
  s.moves_volatileStart.trans ((State.moves_releaseDue _ _ fun _ h => h).trans (State.moves_runService _))

/-- A cold start gives the ledger of the part right after reset. -/
theorem State.ledger_coldStart (s : State) : s.coldStart.ledger = State.reset.ledger := by
  rw [State.coldStart, State.ledger_volatileStart]
  simp only [State.ledger, State.coldRetained, State.reset]
  congr 1
  · funext p; fin_cases p <;> rfl
  · funext p; fin_cases p <;> rfl
  · funext c; simp [State.channel, Channel.cold]

theorem State.moves_restart (s : State) : s.Moves s.restart := by
  unfold State.restart
  split_ifs
  · exact s.moves_warmStart
  · exact .step (.coldStarted _) s.ledger_coldStart

end Sys2Proof.Machine
end

section
/-! SUPPORT. Every command of a station and every step as what it does to the ledger of the part. -/

namespace Sys2Proof.Machine

/-! ### Commands in general (Table 9-10, R32) -/

/-- A command carried out changes the ledger by moves alone, or leaves its reply out for a capture that waits. -/
def State.Runs (s : State) (e : Effect) : Prop := s.Moves e.1 ∨ (e.2 = none ∧ s.ledger.Turn e.1.ledger)

/-- A property that a refusal has, and that what a ticket request does with its ticket has, is had by the request (R32). -/
theorem State.withTicket_induct {P : Effect → Prop} (s : State) (inRange : Bool) (n : Nat) (allowed : TicketState → Bool)
    (run : Ticket → Effect) (hr : ∀ r, P (s.refuse r)) (h : ∀ t, s.ticket? n = some t → P (run t)) :
    P (s.withTicket inRange n allowed run) := by
  unfold State.withTicket
  split_ifs
  · split
    · exact hr _
    · rename_i t ht
      split_ifs
      · exact h t ht
      · exact hr _
  · exact hr _

/-- The same of a request that names a line. -/
theorem State.withLine_induct {P : Effect → Prop} (s : State) (inRange : Bool) (n k : Nat) (allowed : TicketState → Bool)
    (run : Ticket → Line → Effect) (hr : ∀ r, P (s.refuse r)) (h : ∀ t ln, s.ticket? n = some t → P (run t ln)) :
    P (s.withLine inRange n k allowed run) := by
  refine s.withTicket_induct _ _ _ _ hr fun t ht => ?_
  split
  · exact hr _
  · exact h t _ ht

/-- A ticket request whose effect on its ticket makes moves. -/
theorem State.moves_withTicket (s : State) (inRange : Bool) (n : Nat) (allowed : TicketState → Bool)
    (run : Ticket → Effect) (h : ∀ t, s.ticket? n = some t → s.Moves (run t).1) :
    s.Moves (s.withTicket inRange n allowed run).1 :=
  s.withTicket_induct (P := fun e => s.Moves e.1) _ _ _ _ (fun _ => .refl s) h

theorem State.moves_withLine (s : State) (inRange : Bool) (n k : Nat) (allowed : TicketState → Bool)
    (run : Ticket → Line → Effect) (h : ∀ t ln, s.ticket? n = some t → s.Moves (run t ln).1) :
    s.Moves (s.withLine inRange n k allowed run).1 :=
  s.withLine_induct (P := fun e => s.Moves e.1) _ _ _ _ _ (fun _ => .refl s) h

/-- A packet that is not discarded finds fewer than 4 frames waiting (R176). -/
theorem State.room_of_discards {s : State} {p : PortId} {tag : Byte} (h : ¬s.discards p tag = true) : s.ledger.waiting p < 4 := by
  have h1 : ¬Config.discardAt ≤ (s.port p).out.length := fun e => h (by simp [State.discards, e])
  exact Nat.lt_of_not_le h1

/-- What a packet does to the ledger, when its effect on a port that admits it is known. -/
theorem takeCommand_turn {α : Type} {bypass : Bool} {allowed : Role → Bool} {parse : List Byte → Option α}
    {run : α → State → Effect} {k : Packet} {s t : State}
    (h : ∀ a (u : State), u.ledger.waiting k.port < 4 → (bypass = false → u.ledger.busy k.port = none) → u.Runs (run a u))
    (hb : bypass = true → ∀ a (u : State), (run a u).1.ledger.waiting k.port = u.ledger.waiting k.port)
    (ht : takeCommand bypass allowed parse run k s = .next t) : s.ledger.Turn t.ledger := by
  unfold takeCommand at ht
  cases ht
  unfold State.whileRunning
  have hq : s.Moves (s.hunt k.port) := .of_eq (s.ledger_hunt _)
  dsimp only
  split_ifs with _ _ hd
  · exact .moved hq
  · exact .moved hq
  · have room := State.room_of_discards hd
    have reply : ∀ a, s.ledger.Turn ((s.hunt k.port).reply k.port k.tag a).ledger := fun a => by
      rw [State.ledger_reply]
      exact .replied k.port room (.inr (by rw [State.ledger_hunt])) hq
    unfold State.passPacket
    split
    · exact reply _
    rename_i hbusy
    split
    · exact reply _
    rename_i a _
    split
    · have idle : bypass = false → s.ledger.busy k.port = none := fun e => by
        rw [e, State.hunt_port_busy] at hbusy
        simpa [State.ledger] using hbusy
      have hr := h a (s.hunt k.port) (by rwa [State.ledger_hunt]) (by rwa [State.ledger_hunt])
      split
      · rename_i v answer he
        rcases hr with hr | ⟨hn, -⟩
        · rw [State.ledger_reply]
          rw [he] at hr
          refine .replied k.port room ?_ (hq.trans hr)
          cases hbp : bypass with
          | false => exact .inl (idle hbp)
          | true =>
            have hw := hb hbp a (s.hunt k.port)
            rw [he, State.ledger_hunt] at hw
            exact .inr hw
        · rw [he] at hn; cases hn
      · rename_i v he
        rcases hr with hr | ⟨-, hr⟩
        · rw [he] at hr; exact .moved (hq.trans hr)
        · rwa [he, State.ledger_hunt] at hr
    · exact reply _
  · exact .moved (.refl)

/-- What a packet of a command that no command in progress lets pass does to the ledger, when its effect makes moves. -/
theorem takeCommand_turn_of_moves {α : Type} {allowed : Role → Bool} {parse : List Byte → Option α}
    {run : α → State → Effect} {k : Packet} {s t : State} (h : ∀ a (u : State), u.Moves (run a u).1)
    (ht : takeCommand false allowed parse run k s = .next t) : s.ledger.Turn t.ledger :=
  takeCommand_turn (fun a u _ _ => .inl (h a u)) (fun e => by cases e) ht

/-! ### Captures and tares (chapters 1 and 3) -/

/-- The ledger after a capture has been placed in a slot: the slot's hold and the command in progress. -/
theorem State.ledger_placeCapture (s : State) (c : ChannelId) (owner : CaptureOwner) (mark : Option Side) (k : Packet) :
    (s.placeCapture c owner mark k).ledger = { (s.setMark owner mark).ledger with
      held := Function.update (s.setMark owner mark).ledger.held c (some (k.port, { kind := owner.progress, tag := k.tag }))
      busy := Function.update (s.setMark owner mark).ledger.busy k.port (some { kind := owner.progress, tag := k.tag }) } := by
  simp only [State.ledger, State.placeCapture]
  congr 1
  · funext p; simp only [State.port_setPort, State.port_setChannel]; split_ifs with e <;> simp [e]
  · funext p
    simp only [State.port_setPort, State.port_setChannel, Function.update_apply, eq_comm (a := p)]
    split_ifs <;> rfl
  · funext p; simp only [State.port_setPort, State.port_setChannel]; split_ifs with e <;> simp [e]
  · funext d
    simp only [State.channel_setPort, State.channel_setChannel, Function.update_apply, eq_comm (a := d)]
    split_ifs <;> rfl

/-- A capture request is refused, completed at once, or placed in a slot that its channel's checks have found free (R16, R17). -/
theorem State.runs_requestCapture (s : State) (c : ChannelId) (owner : CaptureOwner) (mark : Option Side) (k : Packet)
    (room : s.ledger.waiting k.port < 4) (idle : s.ledger.busy k.port = none) : s.Runs (s.requestCapture c owner mark k) := by
  unfold State.requestCapture
  split
  · exact .inl (.refl s)
  · rename_i hc
    split
    · exact .inl (s.moves_completeCapture owner c _)
    · have hs : (s.channel c).slot = none := by
        unfold Channel.captureCheck at hc
        split_ifs at hc with _ _ h
        simpa using h
      refine .inr ⟨rfl, ?_⟩
      dsimp only
      rw [State.ledger_placeCapture]
      refine .placed c k.port _ (s.moves_setMark owner mark) ?_ ?_ ?_
      · simpa [State.ledger] using room
      · simpa [State.ledger] using idle
      · simp [State.ledger, hs]

theorem runs_capture (k : Packet) (a : CaptureArgs) (s : State) (room : s.ledger.waiting k.port < 4)
    (idle : s.ledger.busy k.port = none) : s.Runs (capture k a s) := by
  unfold capture
  split
  · refine s.withLine_induct _ _ _ _ _ (fun _ => .inl (.refl s)) fun t ln _ => ?_
    split
    · exact .inl (.refl s)
    · exact s.runs_requestCapture _ _ _ _ room idle
  · exact .inl (.refl s)

theorem runs_storeTare (k : Packet) (a : PlateByteArgs) (s : State) (room : s.ledger.waiting k.port < 4)
    (idle : s.ledger.busy k.port = none) : s.Runs (storeTare k a s) := by
  unfold storeTare
  split
  · dsimp only
    split_ifs
    · exact .inl (.refl s)
    · exact s.runs_requestCapture _ _ _ _ room idle
  · exact .inl (.refl s)

theorem moves_dropTare (plate : Text) (s : State) : s.Moves (dropTare plate s).1 := by
  unfold dropTare
  split_ifs
  · split
    · exact .refl s
    · refine .step (.tareDropped _ (upperCase plate)) ?_
      have h : (s.tares.filter fun e => decide (e.plate ≠ upperCase plate)).map TareEntry.plate =
          (s.tares.map TareEntry.plate).filter fun x => decide (x ≠ upperCase plate) := by
        rw [List.filter_map]; rfl
      simp only [State.ledger, State.finish_eq, h]
      rfl
  · exact .refl s

theorem moves_useStoredTare (a : TicketLineArgs) (s : State) : s.Moves (useStoredTare a s).1 := by
  refine s.moves_withLine _ _ _ _ _ fun t ln ht => ?_
  split
  · exact .refl s
  · split
    · exact .refl s
    · split_ifs
      · exact .refl s
      · exact .refl s
      · exact .refl s
      · exact State.moves_putTicket (State.ticket?_mem ht) (.inr (Ticket.entry_changeLine _ _ _))

theorem moves_configureScale (a : ConfigureScaleArgs) (s : State) : s.Moves (configureScale a s).1 := by
  unfold configureScale
  split
  · split_ifs
    · exact .refl s
    · exact .refl s
    · exact s.moves_changeChannel _ _ rfl
  · exact .refl s

theorem moves_zeroScale (channel : Nat) (s : State) : s.Moves (zeroScale channel s).1 := by
  unfold zeroScale
  split
  · exact .refl s
  · dsimp only
    split
    · exact .refl s
    split
    · exact .refl s
    split
    · exact .refl s
    split
    · exact .refl s
    split
    · exact .refl s
    split
    · exact .refl s
    · exact s.moves_changeChannel _ _ rfl

/-! ### Tickets (chapter 2) -/

/-- The search of R31 ends at a number that the counter reaches, free unless the whole search has met taken ones. -/
theorem freeTicketNumber_reached (tickets : List Ticket) (fuel n : Nat) :
    ∃ i ≤ fuel, freeTicketNumber tickets fuel n = advanceNumber^[i] n ∧
      (freeTicketNumber tickets fuel n ∈ tickets.map Ticket.number →
        i = fuel ∧ ∀ j ≤ i, advanceNumber^[j] n ∈ tickets.map Ticket.number) := by
  induction fuel generalizing n with
  | zero => exact ⟨0, le_rfl, rfl, fun h => ⟨rfl, fun j hj => by rw [Nat.le_zero.1 hj]; exact h⟩⟩
  | succ fuel ih =>
    unfold freeTicketNumber
    split_ifs with h
    · obtain ⟨i, hi, he, hf⟩ := ih (advanceNumber n)
      refine ⟨i + 1, by omega, by rw [he, Function.iterate_succ_apply], fun hm => ?_⟩
      obtain ⟨hl, hj⟩ := hf hm
      refine ⟨by omega, fun j hji => ?_⟩
      cases j with
      | zero => simpa using h
      | succ j => rw [Function.iterate_succ_apply]; exact hj j (by omega)
    · exact ⟨0, Nat.zero_le _, rfl, fun hm => absurd (by simpa using hm) h⟩

theorem State.newTicketNumber_mayOpen (s : State) : s.ledger.mayOpen s.newTicketNumber := by
  have hn : s.ledger.numbers = s.tickets.map Ticket.number := by
    simp only [Ledger.numbers, State.ledger, List.map_map]; rfl
  have hl : s.ledger.names.length = s.tickets.length := by simp [State.ledger]
  obtain ⟨i, hi, he, hf⟩ := freeTicketNumber_reached s.tickets s.tickets.length s.nextTicket
  exact ⟨i, by rw [hl]; exact hi, he, by rw [hn, hl]; exact hf⟩

theorem moves_openTicket (port : PortId) (a : OpenTicketArgs) (s : State) : s.Moves (openTicket port a s).1 := by
  unfold openTicket
  split
  · exact .refl s
  · dsimp only
    split_ifs with _ hl
    · exact .refl s
    · exact .refl s
    · exact .refl s
    · refine .step (.opened _ s.newTicketNumber (by simpa [State.ledger] using hl) s.newTicketNumber_mayOpen) ?_
      rw [State.finish_eq, State.ledger_raise]
      simp only [State.ledger, State.appendTicket, List.map_append, List.map_cons, List.map_nil]
      rfl

theorem moves_addLine (a : AddLineArgs) (s : State) : s.Moves (addLine a s).1 := by
  refine s.moves_withTicket _ _ _ _ fun t ht => ?_
  split_ifs
  · exact .refl s
  · exact State.moves_putTicket (State.ticket?_mem ht) (.inr rfl)

theorem State.moves_removeLine (s : State) (n k : Nat) : s.Moves (s.removeLine n k) := by
  unfold State.removeLine
  split
  · exact .refl s
  · rename_i t ht
    exact (State.moves_putTicket (t := { t with lines := t.lines.eraseIdx (k - 1) }) (State.ticket?_mem ht) (.inr rfl)).trans
      (.of_eq (State.ledger_renumberCaptures _ _ _))

theorem moves_removeLine (a : TicketLineArgs) (s : State) : s.Moves (removeLine a s).1 := by
  refine s.moves_withLine _ _ _ _ _ fun t ln _ => ?_
  dsimp only [State.finish_eq]
  split_ifs
  · exact (s.moves_endCaptures _ fun u c => u.moves_endCapture c _).trans (State.moves_removeLine _ _ _)
  · exact s.moves_removeLine _ _

theorem moves_setDeduction (a : SetDeductionArgs) (s : State) : s.Moves (setDeduction a s).1 :=
  s.moves_withLine _ _ _ _ _ fun _ _ ht => State.moves_putTicket (State.ticket?_mem ht) (.inr (Ticket.entry_changeLine _ _ _))

theorem moves_keyWeight (a : KeyWeightArgs) (s : State) : s.Moves (keyWeight a s).1 := by
  unfold keyWeight
  split
  · exact .refl s
  · refine s.moves_withLine _ _ _ _ _ fun t ln ht => ?_
    split_ifs
    · exact .refl s
    · exact .refl s
    · exact (State.moves_putTicket (State.ticket?_mem ht) (.inr (Ticket.entry_changeLine _ _ _))).trans
        (State.moves_giveWeighing _)

theorem moves_acceptMargin (n : Nat) (s : State) : s.Moves (acceptMargin n s).1 :=
  s.moves_withTicket _ _ _ _ fun _ ht => State.moves_putTicket (State.ticket?_mem ht) (.inr rfl)

theorem State.moves_withdrawAtVoid (s : State) (t : Ticket) : s.Moves (s.withdrawAtVoid t) := by
  unfold State.withdrawAtVoid
  split
  · exact .refl s
  · split
    · exact s.moves_putTicket_none rfl
    · split_ifs
      · exact .refl s
      · exact (s.moves_putTicket_none rfl).trans (State.poolStep_cancelOne _ _).moves

theorem State.moves_oweNoticeAtVoid (s : State) (n : Nat) (port : PortId) : s.Moves (s.oweNoticeAtVoid n port) := by
  unfold State.oweNoticeAtVoid
  split
  · exact .refl s
  · split_ifs
    · exact s.moves_owe _ _ _
    · exact .refl s

theorem State.moves_cancelTicketCaptures (s : State) (n : Nat) : s.Moves (s.cancelTicketCaptures n) :=
  s.moves_endCaptures _ fun u c => u.moves_endCapture c _

theorem State.moves_voidTicket (s : State) (n : Nat) (port : PortId) (reason : Nat) : s.Moves (s.voidTicket n port reason) := by
  unfold State.voidTicket
  dsimp only
  refine (s.moves_cancelTicketCaptures n).trans ?_
  split
  · exact .refl _
  · rename_i t ht
    let u : State := { s.cancelTicketCaptures n with totals := (s.cancelTicketCaptures n).totals.countVoid }
    have h1 : (s.cancelTicketCaptures n).Moves u := .step (.voidCounted _) rfl
    have hm : t ∈ (s.cancelTicketCaptures n).tickets := State.ticket?_mem ht
    have he : (t.voidedBy port reason).entry = t.entry := rfl
    have h2 : u.Moves (u.moveTicket (t.voidedBy port reason)) := State.moves_moveTicket (s := u) hm (.inr he)
    exact h1.trans (h2.trans ((State.moves_withdrawAtVoid _ _).trans
      ((State.moves_oweNoticeAtVoid _ _ _).trans (State.moves_retireIfDone _ _))))

theorem moves_voidTicket (port : PortId) (a : TicketByteArgs) (s : State) : s.Moves (voidTicket port a s).1 := by
  refine s.moves_withTicket _ _ _ _ fun t _ => ?_
  split_ifs
  · exact .refl s
  · exact s.moves_voidTicket _ _ _

theorem State.poolStep_withdrawAtReopen (s : State) (t : Ticket) : s.PoolStep (s.withdrawAtReopen t) := by
  unfold State.withdrawAtReopen
  split
  · exact .refl s
  · split
    · exact .refl s
    · split_ifs
      · exact s.poolStep_putJob _
      · exact s.poolStep_cancelOne _

theorem moves_reopenTicket (n : Nat) (s : State) : s.Moves (reopenTicket n s).1 := by
  refine s.moves_withTicket _ _ _ _ fun t _ => ?_
  split_ifs
  · exact .refl s
  · exact (s.poolStep_withdrawAtReopen t).moves.trans
      (((State.moves_putTicket_none _ rfl).trans (.of_eq (State.ledger_raise _ _))).trans (State.poolStep_cancelWhere _ _).moves)

/-! ### Settlement and payout (chapters 5 and 6) -/

theorem moves_closeTicket (port : PortId) (a : TicketByteArgs) (s : State) : s.Moves (closeTicket port a s).1 := by
  refine s.moves_withTicket _ _ _ _ fun t ht => ?_
  split
  · exact .refl s
  · have h := State.moves_moveTicket (s := s) (t := s.settled t) (State.ticket?_mem ht) (.inr rfl)
    dsimp only
    split_ifs
    · exact h.trans (State.moves_owe _ _ _ _)
    · exact h

theorem moves_setClock (time : ClockTime) (s : State) : s.Moves (setClock time s).1 := by
  unfold setClock
  split_ifs with h
  · exact (State.Moves.step (.clockSet _ time h) rfl : s.Moves { s with clock := time }).trans
      (State.moves_releaseDue _ _ fun _ h => h)
  · exact .refl s

theorem moves_releaseHold (n : Nat) (s : State) : s.Moves (releaseHold n s).1 :=
  s.moves_withTicket _ _ _ _ fun _ ht => State.moves_moveTicket (State.ticket?_mem ht) (.inr rfl)

/-- A port whose drawer alone, of the ledger's items, is written. -/
theorem State.moves_setDrawerOf (s : State) (p : PortId) (x : Port) (hb : x.busy = (s.port p).busy) (ho : x.out = (s.port p).out)
    (hd : drawerFollows (s.port p).drawer x.drawer) : s.Moves (s.setPort p x) := by
  refine .step (.drawerSet _ p x.drawer hd) ?_
  simp only [State.ledger]
  congr 1
  · funext q
    simp only [State.port_setPort, Function.update_apply, eq_comm (a := q)]
    split_ifs <;> rfl
  · funext q; simp only [State.port_setPort]; split_ifs with e
    · rw [← e, hb]
    · rfl
  · funext q; simp only [State.port_setPort]; split_ifs with e
    · rw [← e, ho]
    · rfl

theorem moves_floatDrawer (port : PortId) (a : DrawerArgs) (s : State) : s.Moves (floatDrawer port a s).1 := by
  unfold floatDrawer
  split
  · split_ifs
    · exact .refl s
    · split
      · exact .refl s
      · rename_i d hd
        split_ifs with hl
        · exact .refl s
        · refine s.moves_setDrawerOf _ _ rfl rfl fun d' h => ?_
          cases h
          exact .inr ⟨d, hd, .inr (Nat.le_of_not_lt hl), .inl le_rfl⟩
  · exact .refl s

theorem moves_liftDrawer (a : DrawerArgs) (s : State) : s.Moves (liftDrawer a s).1 := by
  unfold liftDrawer
  split
  · split
    · exact .refl s
    · rename_i d hd
      split_ifs
      · exact .refl s
      · refine s.moves_setDrawerOf _ _ rfl rfl fun d' h => ?_
        cases h
        exact .inr ⟨d, hd, .inl (Nat.sub_le _ _), .inl le_rfl⟩
  · exact .refl s

theorem State.poolStep_convertJob (s : State) (t : Ticket) (o : Owed) (j : Job) : s.PoolStep (s.convertJob t o j) := by
  unfold State.convertJob
  dsimp only
  split
  · exact s.poolStep_putJob _
  · split_ifs
    · exact s.poolStep_putJob _
    · exact (s.poolStep_putJob _).trans (State.poolStep_closeReceipt _ _)
  · exact .refl s

/-- A PAYOUT receipt owed takes the counter's stamp, and the counter goes on (R125, R138). -/
theorem State.moves_owePayout (s : State) (t : Ticket) (port : PortId) : s.Moves (s.owePayout t port) := by
  refine .step (.owes _ t.number) ?_
  unfold State.owePayout
  dsimp only
  rw [State.ledger_advanceStamp]
  congr 1
  have h := s.ledger_putTicket { t with owed := some (s.newOwed .payout (s.port port).defaultPrinter port) }
  split
  · exact h
  · split
    · exact h
    · rw [(State.poolStep_convertJob _ _ _ _).ledger]; exact h

theorem State.moves_payTicket {s : State} {t : Ticket} (ht : t ∈ s.tickets) (port : PortId) (method : PayMethod) (amount : Nat)
    (rounding : Int) (hit : Bool) : s.Moves (s.payTicket t port method amount rounding hit) := by
  let u : State := { s with totals := (s.totals.feed t.lines method amount rounding).orSaturated hit }
  have h1 : s.Moves u := .step (.paid _ t.lines method amount rounding hit) rfl
  have he : (s.paidTicket t port method amount rounding).entry = t.entry := rfl
  have h2 : u.Moves (u.moveTicket (s.paidTicket t port method amount rounding)) := State.moves_moveTicket (s := u) ht (.inr he)
  exact h1.trans (h2.trans (State.moves_owePayout _ _ _))

/-- A cash payment takes the drawer down, and its paid today up to the limit (R114, R122). -/
theorem Drawer.payOut_follows (d : Drawer) (amount : Nat) : drawerFollows (some d) (some (d.payOut amount).1) := by
  intro d' h
  cases h
  refine .inr ⟨d, rfl, .inl (Nat.sub_le _ _), .inr ?_⟩
  unfold Drawer.payOut addCapped
  split_ifs with h
  · exact le_rfl
  · exact Nat.le_of_not_lt h

theorem State.moves_payCash {s : State} {t : Ticket} (ht : t ∈ s.tickets) (port : PortId) (total : Nat) :
    s.Moves (s.payCash port t total).1 := by
  unfold State.payCash
  split
  · exact .refl s
  · rename_i d hd
    dsimp only
    split_ifs
    · exact .refl s
    · exact .refl s
    · have h1 : s.Moves (s.setDrawer port (d.payOut (cashAmount s.settings.cashUnit total)).1) :=
        s.moves_setDrawerOf _ _ rfl rfl (hd ▸ d.payOut_follows _)
      exact h1.trans (State.moves_payTicket (s := s.setDrawer port _) ht _ _ _ _ _)

theorem moves_pay (port : PortId) (a : TicketByteArgs) (s : State) : s.Moves (pay port a s).1 := by
  unfold pay
  split
  · split
    · exact .refl s
    · rename_i t ht
      split_ifs
      · exact .refl s
      · exact .refl s
      · split
        · exact State.moves_payCash (State.ticket?_mem ht) _ _
        · exact State.moves_payTicket (State.ticket?_mem ht) _ _ _ _ _
  · exact .refl s

/-- END DAY gives the day report the counter's stamp, and starts the totals and each paid today at 0 (R168, R169). -/
theorem State.moves_endDay (s : State) (port : PortId) (printer : PrinterId) : s.Moves (s.endDay port printer) := by
  refine .step (.dayEnded _) ?_
  rw [State.endDay, State.ledger_advanceStamp]
  congr 1
  simp only [State.ledger]
  congr 1
  · funext p; simp [State.port, Port.zeroPaid]
  · funext p; simp [State.port, Port.zeroPaid]
  · funext p; simp [State.port, Port.zeroPaid]

theorem moves_endDay (port : PortId) (printer : Nat) (s : State) : s.Moves (endDay port printer s).1 := by
  unfold endDay
  split
  · exact .refl s
  · split_ifs
    · exact .refl s
    · exact s.moves_endDay _ _

/-! ### Prices, printers and copies (chapters 4 and 7) -/

theorem moves_editRule (a : EditRuleArgs) (s : State) : s.Moves (editRule a s).1 := by
  unfold editRule
  split
  · exact .of_eq rfl
  · exact .refl s

theorem moves_commitPrices (u : Unit) (s : State) : s.Moves (commitPrices u s).1 := by
  unfold commitPrices
  split
  · exact .refl s
  · exact .step (.committed _) (State.ledger_raise _ _)

theorem moves_discardPrices (u : Unit) (s : State) : s.Moves (discardPrices u s).1 := by
  unfold discardPrices
  split
  · exact .refl s
  · exact .of_eq rfl

theorem moves_lockPrinter (port : PortId) (printer : Nat) (s : State) : s.Moves (lockPrinter port printer s).1 := by
  unfold lockPrinter
  split
  · exact .refl s
  · split
    · exact .refl s
    · exact .refl s
    · split
      · exact (s.poolStep_setLock _ _).moves
      · split_ifs
        · exact (s.poolStep_setLock _ _).moves
        · split
          · exact (s.poolStep_setLock _ _).moves
          · exact ((s.poolStep_requeue _).trans (State.poolStep_setLock _ _ _)).moves
          · exact (s.poolStep_setLock _ _).moves

theorem moves_unlockPrinter (printer : Nat) (s : State) : s.Moves (unlockPrinter printer s).1 := by
  unfold unlockPrinter
  split
  · exact .refl s
  · split
    · exact .refl s
    · exact (s.poolStep_setLock _ _).moves
    · exact (s.poolStep_setLock _ _).moves

theorem moves_cancelJob (port : PortId) (id : Nat) (s : State) : s.Moves (cancelJob port id s).1 := by
  unfold cancelJob
  split
  · exact .refl s
  split
  · exact .refl s
  split
  · exact .refl s
  split
  · exact .refl s
  · exact .refl s
  · split
    · exact .refl s
    · exact (s.poolStep_cancelOne _).moves

theorem moves_printCopy (port : PortId) (a : TicketByteArgs) (s : State) : s.Moves (printCopy port a s).1 := by
  unfold printCopy
  split
  · split
    · exact .refl s
    · split_ifs
      · exact .refl s
      · exact s.moves_addJob _
  · exact .refl s

theorem moves_setHeader (a : SetHeaderArgs) (s : State) : s.Moves (setHeader a s).1 := by
  unfold setHeader
  split
  · split_ifs
    · exact .refl s
    · exact .of_eq rfl
  · exact .refl s

/-! ### The part as a whole (chapters 9, 10 and 11) -/

theorem moves_setOption (a : SetOptionArgs) (s : State) : s.Moves (setOption a s).1 := by
  unfold setOption
  split
  · exact .refl s
  · split
    · exact .refl s
    · rename_i setting _ _ x v hw
      exact .step (.optionSet _ setting a.value v x hw) rfl

theorem moves_clearFault (u : Unit) (s : State) : s.Moves (clearFault u s).1 := by
  unfold clearFault
  exact .of_eq rfl

/-- A role written keeps, makes or removes the port's drawer (R115). -/
theorem Port.drawerFor_follows (q : Port) (role : Role) : drawerFollows q.drawer (q.drawerFor role) := by
  intro d h
  unfold Port.drawerFor at h
  split_ifs at h with _ hq
  · exact .inr ⟨d, h, .inl le_rfl, .inl le_rfl⟩
  · cases h; exact .inl rfl

theorem State.moves_withRole (s : State) (p : PortId) (role : Role) (r : PrinterId) :
    s.Moves (s.setPort p { (s.port p).withRole role with defaultPrinter := r }) :=
  s.moves_setDrawerOf p { (s.port p).withRole role with defaultPrinter := r } rfl rfl ((s.port p).drawerFor_follows role)

theorem State.moves_configurePort (s : State) (requester : PortId) (x : PortChange) : s.Moves (s.configurePort requester x) := by
  unfold State.configurePort
  have h1 := s.moves_withRole x.port x.role x.printer
  dsimp only
  split
  · exact h1
  · split_ifs
    · exact h1.trans ((State.moves_withRole _ requester _ _).trans (State.poolStep_releaseLocks _ _).moves)
    · exact h1

theorem moves_configurePort (requester : PortId) (a : ConfigurePortArgs) (s : State) :
    s.Moves (configurePort requester a s).1 := by
  unfold configurePort
  split
  · exact .refl s
  · split
    · exact .refl s
    · exact s.moves_configurePort _ _

/-- After a port's capture has been abandoned, no slot holds a capture of that port (R181). -/
theorem State.abandonCapture_held (s : State) (p : PortId) (c : ChannelId) (g : Progress) :
    (s.abandonCapture p).ledger.held c ≠ some (p, g) := by
  have h := s.channel_endCaptures (fun cap => decide (cap.port = p)) (fun s c => s.freeSlot c) State.channel_freeSlot c
  change (s.abandonCapture p).channel c = _ at h
  intro e
  simp only [State.ledger, h] at e
  split_ifs at e with hs
  · cases e
  · cases hc : (s.channel c).slot with
    | none => rw [hc] at e; cases e
    | some cap =>
      rw [hc] at e hs
      simp only [Option.map_some, Capture.hold, Option.some.injEq, Prod.mk.injEq] at e
      exact hs (by simp [e.1])

/-- Abandoning a capture sends nothing (R23, R181). -/
theorem State.abandonCapture_out (s : State) (p q : PortId) : ((s.abandonCapture p).port q).out = (s.port q).out := by
  refine State.endCaptures_induct (fun t => (t.port q).out = (s.port q).out) s _ _ rfl fun t c cap ht hc _ => ?_
  rw [State.port_freeSlot hc]
  split_ifs <;> exact ht

/-- A port whose command in progress and attention items are cleared. -/
theorem State.ledger_setPort_cleared (s : State) (p : PortId) :
    (s.setPort p (s.port p).cleared).ledger = { s.ledger with busy := Function.update s.ledger.busy p none } := by
  simp only [State.ledger]
  congr 1
  · funext q; simp only [State.port_setPort]; split_ifs with e <;> simp [e, Port.cleared]
  · funext q
    simp only [State.port_setPort, Function.update_apply, eq_comm (a := q)]
    split_ifs <;> rfl
  · funext q; simp only [State.port_setPort]; split_ifs with e <;> simp [e, Port.cleared]

theorem State.ledger_portReset (s : State) (p : PortId) : (s.portReset p).ledger =
    { (s.abandonCapture p).ledger with busy := Function.update (s.abandonCapture p).ledger.busy p none } := by
  have h : (s.portReset p).ledger = _ := State.ledger_setPort_cleared ((s.abandonCapture p).releaseLocks p) p
  rw [h, ((s.abandonCapture p).poolStep_releaseLocks p).ledger]

/-- PORT RESET abandons the port's capture and clears its command in progress (R181). -/
theorem State.moves_portReset (s : State) (p : PortId) : s.Moves (s.portReset p) :=
  (s.moves_endCaptures _ fun u c => u.moves_freeSlot c).trans
    (.step (.cleared _ p (s.abandonCapture_held p)) (s.ledger_portReset p))

/-- PORT RESET puts no frame in a queue before its reply (R181). -/
theorem State.portReset_waiting (s : State) (p : PortId) : (s.portReset p).ledger.waiting = s.ledger.waiting := by
  rw [s.ledger_portReset p]
  exact funext fun q => congrArg List.length (s.abandonCapture_out p q)

/-- A port's items beside its drawer, its command in progress and its output queue written. -/
theorem State.moves_setPort (s : State) (p : PortId) (x : Port)
    (h : x.drawer = (s.port p).drawer ∧ x.busy = (s.port p).busy ∧ x.out = (s.port p).out) : s.Moves (s.setPort p x) :=
  .of_eq (s.ledger_setPort p x h)

theorem moves_subscribe (port : PortId) (set : Nat) (s : State) : s.Moves (subscribe port set s).1 := by
  unfold subscribe
  split_ifs
  · exact .refl s
  · exact s.moves_setPort _ _ ⟨rfl, rfl, rfl⟩

theorem moves_releaseAttention (port : PortId) (value : Nat) (s : State) : s.Moves (releaseAttention port value s).1 := by
  unfold releaseAttention
  split
  · exact .refl s
  · exact s.moves_setPort _ _ ⟨rfl, rfl, rfl⟩

theorem moves_readAttention (port : PortId) (x : Unit) (s : State) : s.Moves (readAttention port x s).1 :=
  s.moves_setPort port { s.port port with attention := (s.port port).attention.drop 4 } ⟨rfl, rfl, rfl⟩

theorem moves_clearOverflow (port : PortId) (x : Unit) (s : State) : s.Moves (clearOverflow port x s).1 :=
  s.moves_setPort port { s.port port with overflow := false } ⟨rfl, rfl, rfl⟩

theorem moves_systemReset (x : Unit) (s : State) : s.Moves (systemReset x s).1 := s.moves_restart

/-! ### The commands that only read -/

theorem moves_readStatus (port : PortId) (x : Unit) (s : State) : s.Moves (readStatus port x s).1 := .refl s

theorem moves_readScale (channel : Nat) (s : State) : s.Moves (readScale channel s).1 := by
  unfold readScale; split <;> exact .refl s

theorem moves_readTicket (a : TicketByteArgs) (s : State) : s.Moves (readTicket a s).1 := by
  refine s.moves_withTicket _ _ _ _ fun t _ => ?_
  split_ifs
  · exact .refl s
  · split <;> exact .refl s

theorem moves_listTickets (place : Nat) (s : State) : s.Moves (listTickets place s).1 := by
  unfold listTickets; split_ifs <;> exact .refl s

theorem moves_readTare (a : PlateByteArgs) (s : State) : s.Moves (readTare a s).1 := by
  unfold readTare
  split_ifs
  · exact .refl s
  · exact .refl s
  · exact .refl s
  · split <;> exact .refl s

theorem moves_readRule (a : TwoByteArgs) (s : State) : s.Moves (readRule a s).1 := by
  unfold readRule
  split
  · split <;> exact .refl s
  · exact .refl s

theorem moves_readDrawer (port : PortId) (named : Nat) (s : State) : s.Moves (readDrawer port named s).1 := by
  unfold readDrawer
  split
  · exact .refl s
  · split_ifs
    · exact .refl s
    · split <;> exact .refl s

theorem moves_readPrinter (printer : Nat) (s : State) : s.Moves (readPrinter printer s).1 := by
  unfold readPrinter; split <;> exact .refl s

theorem moves_readTotals (a : TwoByteArgs) (s : State) : s.Moves (readTotals a s).1 := by
  unfold readTotals
  split
  · exact .refl s
  · split_ifs
    · exact .refl s
    · split
      · exact .refl s
      · split <;> exact .refl s

/-! ### Packets and steps -/

/-- A packet of an unknown code is answered at its port (R177). -/
theorem takeUnknown_turn {k : Packet} {s t : State} (h : takeUnknown k s = .next t) : s.ledger.Turn t.ledger := by
  unfold takeUnknown State.whileRunning at h
  cases h
  have hq : s.Moves (s.hunt k.port) := .of_eq (s.ledger_hunt _)
  dsimp only
  split
  · split
    · exact .moved hq
    split
    · exact .moved hq
    · rename_i hd
      unfold State.answerUnknown
      split <;>
        · rw [State.ledger_reply]
          exact .replied k.port (State.room_of_discards hd) (.inr (by rw [State.ledger_hunt])) hq
  · exact .moved (.refl)

theorem portReset_turn {k : Packet} {s t : State} (h : execPortReset k s = .next t) : s.ledger.Turn t.ledger :=
  takeCommand_turn (run := portReset k.port) (fun _ u _ _ => .inl (u.moves_portReset k.port))
    (fun _ _ u => congrFun (u.portReset_waiting k.port) k.port) h

/-- Every packet that a receiver has taken. -/
theorem takePacket_turn {i : Instr} {s t : State} (h : takePacket i s = .next t) : s.ledger.Turn t.ledger := by
  cases i with
  | readStatus k => exact takeCommand_turn_of_moves (moves_readStatus k.port) h
  | portReset k => exact portReset_turn h
  | configurePort k => exact takeCommand_turn_of_moves (moves_configurePort k.port) h
  | setOption k => exact takeCommand_turn_of_moves moves_setOption h
  | clearFault k => exact takeCommand_turn_of_moves moves_clearFault h
  | systemReset k => exact takeCommand_turn_of_moves moves_systemReset h
  | configureScale k => exact takeCommand_turn_of_moves moves_configureScale h
  | zero k => exact takeCommand_turn_of_moves moves_zeroScale h
  | readScale k => exact takeCommand_turn_of_moves moves_readScale h
  | openTicket k => exact takeCommand_turn_of_moves (moves_openTicket k.port) h
  | addLine k => exact takeCommand_turn_of_moves moves_addLine h
  | removeLine k => exact takeCommand_turn_of_moves moves_removeLine h
  | setDeduction k => exact takeCommand_turn_of_moves moves_setDeduction h
  | keyWeight k => exact takeCommand_turn_of_moves moves_keyWeight h
  | acceptMargin k => exact takeCommand_turn_of_moves moves_acceptMargin h
  | capture k => exact takeCommand_turn (fun a u hr hi => runs_capture k a u hr (hi rfl)) (fun e => by cases e) h
  | voidTicket k => exact takeCommand_turn_of_moves (moves_voidTicket k.port) h
  | reopenTicket k => exact takeCommand_turn_of_moves moves_reopenTicket h
  | readTicket k => exact takeCommand_turn_of_moves moves_readTicket h
  | listTickets k => exact takeCommand_turn_of_moves moves_listTickets h
  | storeTare k => exact takeCommand_turn (fun a u hr hi => runs_storeTare k a u hr (hi rfl)) (fun e => by cases e) h
  | dropTare k => exact takeCommand_turn_of_moves moves_dropTare h
  | readTare k => exact takeCommand_turn_of_moves moves_readTare h
  | useStoredTare k => exact takeCommand_turn_of_moves moves_useStoredTare h
  | editRule k => exact takeCommand_turn_of_moves moves_editRule h
  | commitPrices k => exact takeCommand_turn_of_moves moves_commitPrices h
  | discardPrices k => exact takeCommand_turn_of_moves moves_discardPrices h
  | readRule k => exact takeCommand_turn_of_moves moves_readRule h
  | closeTicket k => exact takeCommand_turn_of_moves (moves_closeTicket k.port) h
  | setClock k => exact takeCommand_turn_of_moves moves_setClock h
  | releaseHold k => exact takeCommand_turn_of_moves moves_releaseHold h
  | float k => exact takeCommand_turn_of_moves (moves_floatDrawer k.port) h
  | lift k => exact takeCommand_turn_of_moves moves_liftDrawer h
  | readDrawer k => exact takeCommand_turn_of_moves (moves_readDrawer k.port) h
  | pay k => exact takeCommand_turn_of_moves (moves_pay k.port) h
  | lockPrinter k => exact takeCommand_turn_of_moves (moves_lockPrinter k.port) h
  | unlockPrinter k => exact takeCommand_turn_of_moves moves_unlockPrinter h
  | cancelJob k => exact takeCommand_turn_of_moves (moves_cancelJob k.port) h
  | printCopy k => exact takeCommand_turn_of_moves (moves_printCopy k.port) h
  | setHeader k => exact takeCommand_turn_of_moves moves_setHeader h
  | readPrinter k => exact takeCommand_turn_of_moves moves_readPrinter h
  | readTotals k => exact takeCommand_turn_of_moves moves_readTotals h
  | endDay k => exact takeCommand_turn_of_moves (moves_endDay k.port) h
  | subscribe k => exact takeCommand_turn_of_moves (moves_subscribe k.port) h
  | releaseAttention k => exact takeCommand_turn_of_moves (moves_releaseAttention k.port) h
  | readAttention k => exact takeCommand_turn_of_moves (moves_readAttention k.port) h
  | clearOverflow k => exact takeCommand_turn_of_moves (moves_clearOverflow k.port) h
  | unknownCommand k code => exact takeUnknown_turn h
  | discardedPacket | frameAbandoned | interByteTimeout | frameSent | attentionHandover | readingFrame | staleExpiry
  | captureTimeout | printerStatusFrame | printerAnswer | answerTimerExpiry | statusTimerExpiry | arbiterTake
  | owedReceiptService | clockAdvance | holdExpiry | powerUp | mainSupplyFail | resetLineAssert | resetLineRelease
  | startByte | batteryFailure => cases h; exact .moved .refl

/-- A state reached by moves, as the outcome of a row. -/
theorem turn_of_moves {s t u : State} (h : s.Moves u) (e : (Host.Outcome.next u : Result) = .next t) : s.ledger.Turn t.ledger := by
  cases e; exact .moved h

/-- A body that the receiver has taken. -/
theorem takeBody_turn {p : PortId} {body : List Byte} {s t : State} (h : takeBody p body s = .next t) :
    s.ledger.Turn t.ledger := by
  have hq : s.Moves (s.whileRunning fun s => s.hunt p) := .whileRunning s fun u => .of_eq (u.ledger_hunt p)
  unfold takeBody at h
  split at h
  · exact turn_of_moves hq h
  · split at h
    · exact turn_of_moves hq h
    · exact takePacket_turn h

theorem takeStartByte_turn {p : PortId} {s t : State} (h : takeStartByte p s = .next t) : s.ledger.Turn t.ledger := by
  have hr : ∀ x, s.Moves (s.setReceiver p x) := fun x => s.moves_setPort p _ ⟨rfl, rfl, rfl⟩
  unfold takeStartByte at h
  dsimp only at h
  split at h
  · exact turn_of_moves (hr _) h
  · split at h
    · exact turn_of_moves (hr _) h
    · exact turn_of_moves (.of_eq (s.ledger_hunt p)) h
    · exact takeBody_turn h

theorem State.moves_readingFrame (s : State) (c : ChannelId) (raw : Int) (status : HeadStatus) (checkHolds : Bool) :
    s.Moves (if !checkHolds || !rawInRange raw || decide ((s.channel c).state = .off) then s
      else match status with
        | .ok => s.arrive c raw false
        | .overrange => s.arrive c raw true
        | .fault => s.headFault c
        | .other => s) := by
  split
  · exact .refl s
  · cases status with
    | ok => exact s.moves_arrive c raw false
    | overrange => exact s.moves_arrive c raw true
    | fault => exact s.moves_headFault c
    | other => exact .refl s

/-- An operation that is done only when a test passes. -/
theorem State.Moves.ite {s t : State} (b : Bool) (h : s.Moves t) : s.Moves (if b then t else s) := by
  cases b
  · exact .refl s
  · exact h

/-- A command's row is the packet taken; the row of an unknown code first reads its code (R177). -/
theorem exec_eq_takePacket {i : Instr} (hc : i.command?.isSome = true) (hu : ∀ k code, i ≠ .unknownCommand k code) (s : State) :
    exec i s = takePacket i s := by
  cases i with
  | unknownCommand k code => exact absurd rfl (hu k code)
  | discardedPacket | frameAbandoned | interByteTimeout | frameSent | attentionHandover | readingFrame | staleExpiry
  | captureTimeout | printerStatusFrame | printerAnswer | answerTimerExpiry | statusTimerExpiry | arbiterTake
  | owedReceiptService | clockAdvance | holdExpiry | powerUp | mainSupplyFail | resetLineAssert | resetLineRelease
  | startByte | batteryFailure => cases hc
  | readStatus | portReset | configurePort | setOption | clearFault | systemReset | configureScale | zero | readScale
  | openTicket | addLine | removeLine | setDeduction | keyWeight | acceptMargin | capture | voidTicket | reopenTicket
  | readTicket | listTickets | storeTare | dropTare | readTare | useStoredTare | editRule | commitPrices | discardPrices
  | readRule | closeTicket | setClock | releaseHold | float | lift | readDrawer | pay | lockPrinter | unlockPrinter
  | cancelJob | printCopy | setHeader | readPrinter | readTotals | endDay | subscribe | releaseAttention | readAttention
  | clearOverflow => rfl

/-- Every row. -/
theorem exec_turn {i : Instr} {s t : State} (h : exec i s = .next t) : s.ledger.Turn t.ledger := by
  cases i with
  | unknownCommand k code => exact takePacket_turn h
  | discardedPacket p body => exact takeBody_turn h
  | frameAbandoned p cause => exact turn_of_moves (.whileRunning s fun u => .of_eq (u.ledger_hunt p)) h
  | interByteTimeout p => exact turn_of_moves (.whileRunning s fun u => u.moves_expireFrame p) h
  | frameSent p => exact turn_of_moves (.whileRunning s fun u => u.moves_frameSent p) h
  | attentionHandover p => exact turn_of_moves (.whileRunning s fun u => u.moves_handover p) h
  | readingFrame c raw status ok => exact turn_of_moves (.whileRunning s fun u => u.moves_readingFrame c raw status ok) h
  | staleExpiry c => exact turn_of_moves (.whileRunning s fun u => u.moves_expireStale c) h
  | captureTimeout c => exact turn_of_moves (.whileRunning s fun u => u.moves_expireCapture c) h
  | printerStatusFrame r v ok => exact turn_of_moves (.whileRunning s fun u => .ite ok (u.moves_statusReport r v)) h
  | printerAnswer r a ok => exact turn_of_moves (.whileRunning s fun u => .ite ok (u.moves_answer r a)) h
  | answerTimerExpiry r => exact turn_of_moves (.whileRunning s fun u => u.moves_expireAnswer r) h
  | statusTimerExpiry r => exact turn_of_moves (.whileRunning s fun u => u.moves_expireStatus r) h
  | arbiterTake r => exact turn_of_moves (.whileRunning s fun u => u.moves_arbiterTake r) h
  | owedReceiptService => exact turn_of_moves (.whileRunning s State.moves_runService) h
  | clockAdvance => exact turn_of_moves s.moves_clockAdvance h
  | holdExpiry n => exact turn_of_moves (.whileRunning s fun u => u.moves_expireHold n) h
  | powerUp =>
    have e : s.Moves { s with mainSupply := true } := .of_eq rfl
    refine turn_of_moves (e.trans ?_) h
    split
    · exact State.moves_restart _
    · exact State.moves_volatileStart _
  | mainSupplyFail =>
    have e : s.Moves { s with mainSupply := false } := .of_eq rfl
    exact turn_of_moves (e.trans (State.moves_volatileStart _)) h
  | resetLineAssert => exact turn_of_moves (u := { s with resetHigh := false }) (.of_eq rfl) h
  | resetLineRelease =>
    have e : s.Moves { s with resetHigh := true } := .of_eq rfl
    refine turn_of_moves (e.trans ?_) h
    exact State.Moves.ite _ (State.moves_restart _)
  | startByte p =>
    change (if s.running then takeStartByte p s else .next s) = .next t at h
    split at h
    · exact takeStartByte_turn h
    · exact turn_of_moves (.refl s) h
  | batteryFailure =>
    refine turn_of_moves ?_ h
    split
    · exact .refl s
    · exact .of_eq rfl
  | readStatus | portReset | configurePort | setOption | clearFault | systemReset | configureScale | zero | readScale
  | openTicket | addLine | removeLine | setDeduction | keyWeight | acceptMargin | capture | voidTicket | reopenTicket
  | readTicket | listTickets | storeTare | dropTare | readTare | useStoredTare | editRule | commitPrices | discardPrices
  | readRule | closeTicket | setClock | releaseHold | float | lift | readDrawer | pay | lockPrinter | unlockPrinter
  | cancelJob | printCopy | setHeader | readPrinter | readTotals | endDay | subscribe | releaseAttention | readAttention
  | clearOverflow =>
    exact takePacket_turn ((exec_eq_takePacket rfl (fun _ _ => Instr.noConfusion) s).symm.trans h)

/-- The part's own steps that a millisecond brings about (log 3). -/
theorem State.moves_ownSteps (s : State) : s.Moves s.ownSteps := by
  unfold State.ownSteps
  have stale : ∀ (u : State) c, u.Moves (u.tickStale c) := fun u c => by
    unfold State.tickStale; split
    · exact .refl u
    · split
      · exact u.moves_expireStale c
      · exact .refl u
  have capture : ∀ (u : State) c, u.Moves (u.tickCapture c) := fun u c => by
    unfold State.tickCapture; split
    · exact .refl u
    · split
      · exact u.moves_expireCapture c
      · exact .refl u
  have frame : ∀ (u : State) p, u.Moves (u.tickFrame p) := fun u p => by
    unfold State.tickFrame; split
    · exact .refl u
    · split
      · exact u.moves_expireFrame p
      · exact .refl u
  have answer : ∀ (u : State) r, u.Moves (u.tickAnswer r) := fun u r => by
    unfold State.tickAnswer; split
    · exact .refl u
    · split
      · exact u.moves_expireAnswer r
      · exact .refl u
  have status : ∀ (u : State) r, u.Moves (u.tickStatus r) := fun u r => by
    unfold State.tickStatus; split
    · exact .refl u
    · split
      · exact u.moves_expireStatus r
      · exact .refl u
  exact (State.Moves.foldl stale _ s).trans ((State.Moves.foldl capture _ _).trans ((State.Moves.foldl frame _ _).trans
    ((State.Moves.foldl answer _ _).trans ((State.Moves.foldl status _ _).trans
    ((State.moves_releaseDue _ _ fun _ h => h).trans ((State.moves_runService _).trans
    ((State.Moves.foldl State.moves_arbiterTake _ _).trans (State.Moves.foldl State.moves_handover _ _))))))))

/-- One millisecond with no command waiting. -/
theorem State.moves_idle (s : State) : s.Moves s.idle := by
  let u : State := { s with timebase := s.timebase + 1 }
  have h1 : s.Moves u := .of_eq rfl
  have h2 : u.Moves u.tickClock := .ite _ u.moves_clockAdvance
  exact h1.trans (h2.trans (.whileRunning _ State.moves_ownSteps))

/-- Every step is a turn of the ledger. -/
theorem step_turn {s t : State} (h : step s = .next t) : s.ledger.Turn t.ledger := by
  unfold step at h
  split at h
  · exact turn_of_moves s.moves_idle h
  · rename_i rest _
    exact exec_turn (s := { s with pending := rest }) h

end Sys2Proof.Machine
end

section
/-! SUPPORT. The three invariants said of the ledger, and kept by each of its turns: the captures, the ranges and the stamps. -/

namespace Sys2Proof.Machine

/-- What every move keeps is kept by any number of moves. -/
theorem Ledger.Moves.keep {P : Ledger → Prop} (hP : ∀ a b : Ledger, a.Move b → P a → P b) {a b : Ledger} (h : a.Moves b) (ha : P a) :
    P b := by
  induction h with
  | refl => exact ha
  | tail _ hm ih => exact hP _ _ hm ih

@[simp] theorem Ledger.advanceStamp_held (a : Ledger) : a.advanceStamp.held = a.held := by
  unfold Ledger.advanceStamp; split_ifs <;> rfl
@[simp] theorem Ledger.advanceStamp_busy (a : Ledger) : a.advanceStamp.busy = a.busy := by
  unfold Ledger.advanceStamp; split_ifs <;> rfl
@[simp] theorem Ledger.advanceStamp_waiting (a : Ledger) : a.advanceStamp.waiting = a.waiting := by
  unfold Ledger.advanceStamp; split_ifs <;> rfl

/-! ### Captures (R17, R176, R180) -/

/-- `State.capturesStand`, said of the ledger. -/
structure Ledger.CapturesStand (a : Ledger) : Prop where
  port : ∀ c p g, a.held c = some (p, g) → a.busy p = some g
  one : ∀ c d p g h, a.held c = some (p, g) → a.held d = some (p, h) → c = d
  slot : ∀ p, a.busy p ≠ none → ∃ c g, a.held c = some (p, g)
  five : ∀ p, a.waiting p ≤ 5
  four : ∀ p, a.busy p ≠ none → a.waiting p ≤ 4

/-- A hold of the ledger is that of a waiting capture. -/
theorem State.ledger_held_eq {s : State} {c : ChannelId} {p : PortId} {g : Progress} (h : s.ledger.held c = some (p, g)) :
    ∃ cap, (s.channel c).slot = some cap ∧ cap.port = p ∧ { kind := cap.owner.progress, tag := cap.tag } = g := by
  obtain ⟨cap, hs, hc⟩ := Option.map_eq_some_iff.1 h
  cases hc
  exact ⟨cap, hs, rfl, rfl⟩

theorem State.capturesStand_iff (s : State) : s.capturesStand ↔ s.ledger.CapturesStand := by
  constructor
  · rintro ⟨h1, h2, h3, h4⟩
    refine ⟨fun c p g h => ?_, fun c d p g g' h h' => ?_, fun p h => ?_, fun p => (h4 p).1, fun p => (h4 p).2⟩
    · obtain ⟨cap, hs, rfl, rfl⟩ := State.ledger_held_eq h
      exact h1 c cap hs
    · obtain ⟨cap, hs, rfl, -⟩ := State.ledger_held_eq h
      obtain ⟨cap', hs', e, -⟩ := State.ledger_held_eq h'
      exact h2 c d cap cap' hs hs' e.symm
    · obtain ⟨c, cap, hs, rfl⟩ := h3 p h
      exact ⟨c, _, State.ledger_held hs⟩
  · intro h
    refine ⟨fun c cap hs => h.port c _ _ (State.ledger_held hs), fun c d x y hx hy e => ?_, fun p hp => ?_,
      fun p => ⟨h.five p, h.four p⟩⟩
    · exact h.one c d x.port _ _ (State.ledger_held hx) (by rw [State.ledger_held hy, ← e])
    · obtain ⟨c, g, hc⟩ := h.slot p hp
      obtain ⟨cap, hs, e, -⟩ := State.ledger_held_eq hc
      exact ⟨c, cap, hs, e⟩

/-- The holds, the commands in progress and the lengths of the output queues are all that the captures' invariant reads. -/
theorem Ledger.CapturesStand.congr {a b : Ledger} (h : a.CapturesStand) (e1 : b.held = a.held) (e2 : b.busy = a.busy)
    (e3 : b.waiting = a.waiting) : b.CapturesStand := by
  obtain ⟨h1, h2, h3, h4, h5⟩ := h
  constructor <;> simpa only [e1, e2, e3]

/-- A capture that leaves its slot and its port, with one frame more at the most for that port. -/
theorem Ledger.CapturesStand.release {a b : Ledger} (h : a.CapturesStand) {c : ChannelId} {p : PortId} {g : Progress}
    (hc : a.held c = some (p, g)) (e1 : b.held = Function.update a.held c none) (e2 : b.busy = Function.update a.busy p none)
    (e3 : ∀ q, b.waiting q = a.waiting q ∨ q = p ∧ b.waiting q = a.waiting q + 1) : b.CapturesStand := by
  have held : ∀ d q k, b.held d = some (q, k) → d ≠ c ∧ a.held d = some (q, k) := fun d q k hd => by
    rw [e1, Function.update_apply] at hd
    split_ifs at hd with e
    exact ⟨e, hd⟩
  have busy : ∀ q, b.busy q ≠ none → q ≠ p ∧ a.busy q ≠ none := fun q hq => by
    rw [e2, Function.update_apply] at hq
    split_ifs at hq with e
    · exact absurd rfl hq
    · exact ⟨e, hq⟩
  have hp : a.busy p ≠ none := by rw [h.port c p g hc]; exact Option.some_ne_none g
  refine ⟨fun d q k hd => ?_, fun d e q k l hd he => h.one d e q k l (held d q k hd).2 (held e q l he).2, fun q hq => ?_,
    fun q => ?_, fun q hq => ?_⟩
  · obtain ⟨hne, hd⟩ := held d q k hd
    have hq : q ≠ p := fun e => hne (h.one d c p k g (e ▸ hd) hc)
    rw [e2, Function.update_of_ne hq]
    exact h.port d q k hd
  · obtain ⟨hq, hb⟩ := busy q hq
    obtain ⟨d, k, hd⟩ := h.slot q hb
    refine ⟨d, k, ?_⟩
    rw [e1, Function.update_of_ne, hd]
    rintro rfl
    rw [hc] at hd
    cases hd
    exact hq rfl
  · rcases e3 q with e | ⟨rfl, e⟩
    · exact e ▸ h.five q
    · have := h.four q hp; omega
  · obtain ⟨hq, hb⟩ := busy q hq
    rcases e3 q with e | ⟨e, -⟩
    · exact e ▸ h.four q hb
    · exact absurd e hq

/-- Every move keeps the captures' invariant. -/
theorem Ledger.Move.capturesStand {a b : Ledger} (m : a.Move b) (h : a.CapturesStand) : b.CapturesStand := by
  cases m with
  | freed c p g hc => exact h.release hc rfl rfl fun _ => .inl rfl
  | ended c p g hc =>
    refine h.release hc rfl rfl fun q => ?_
    by_cases e : q = p
    · subst e; exact .inr ⟨rfl, Function.update_self _ _ _⟩
    · exact .inl (Function.update_of_ne e _ _)
  | cleared p hp =>
    have busy : ∀ q, Function.update a.busy p none q ≠ none → a.busy q ≠ none := fun q hq e => hq (by
      rw [Function.update_apply]; split_ifs
      · rfl
      · exact e)
    refine ⟨fun c q g hc => ?_, h.one, fun q hq => h.slot q (busy q hq), h.five, fun q hq => h.four q (busy q hq)⟩
    have hq : q ≠ p := fun e => hp c g (e ▸ hc)
    exact (Function.update_of_ne hq _ _).trans (h.port c q g hc)
  | sent p =>
    have le : ∀ q, Function.update a.waiting p (a.waiting p - 1) q ≤ a.waiting q := fun q => by
      rw [Function.update_apply]; split_ifs with e
      · rw [e]; exact Nat.sub_le _ _
      · exact le_rfl
    exact ⟨h.port, h.one, h.slot, fun q => (le q).trans (h.five q), fun q hq => (le q).trans (h.four q hq)⟩
  | handedOver p idle =>
    have le : ∀ q, Function.update a.waiting p 1 q ≤ max 1 (a.waiting q) := fun q => by
      rw [Function.update_apply]; split_ifs
      · exact le_max_left _ _
      · exact le_max_right _ _
    exact ⟨h.port, h.one, h.slot, fun q => (le q).trans (max_le (by decide) (h.five q)),
      fun q hq => (le q).trans (max_le (by decide) (h.four q hq))⟩
  | started => exact ⟨by simp, by simp, by simp, by simp, by simp⟩
  | coldStarted =>
    have held : ∀ c, State.reset.ledger.held c = none := by decide
    have busy : ∀ p, State.reset.ledger.busy p = none := by decide
    have waiting : ∀ p, State.reset.ledger.waiting p = 0 := by decide
    exact ⟨by simp [held], by simp [held], by simp [busy], by simp [waiting], by simp [waiting]⟩
  | owes n => exact h.congr (by simp; rfl) (by simp; rfl) (by simp; rfl)
  | dayEnded => exact h.congr (by simp) (by simp) (by simp)
  | weighed | opened | replaced | retired | reportDone | tareDropped | tareStored | jobMade | committed | clockRan | clockSet
  | optionSet | voidCounted | paid | drawerSet => exact h.congr rfl rfl rfl

/-- A port without a command in progress with room for a reply keeps both while nothing replies to a packet: only the end of a waiting
capture puts frames in a queue, and its port has a command in progress. -/
theorem Ledger.Move.room {a b : Ledger} (m : a.Move b) (p : PortId)
    (h : a.CapturesStand ∧ a.busy p = none ∧ a.waiting p < 4) : b.CapturesStand ∧ b.busy p = none ∧ b.waiting p < 4 := by
  obtain ⟨hs, idle, room⟩ := h
  refine ⟨m.capturesStand hs, ?_⟩
  cases m with
  | freed c q g hc => exact ⟨by simp [Function.update_apply, idle], room⟩
  | ended c q g hc =>
    have hq : p ≠ q := fun e => by rw [← e] at hc; rw [hs.port c p g hc] at idle; cases idle
    exact ⟨(Function.update_of_ne hq _ _).trans idle, by simpa [Function.update_of_ne hq] using room⟩
  | cleared q hp => exact ⟨by simp [Function.update_apply, idle], room⟩
  | sent q =>
    refine ⟨idle, ?_⟩
    simp only [Function.update_apply]
    split_ifs with e
    · subst e; omega
    · exact room
  | handedOver q _ =>
    refine ⟨idle, ?_⟩
    simp only [Function.update_apply]
    split_ifs <;> omega
  | started => exact ⟨rfl, Nat.zero_lt_succ 3⟩
  | coldStarted =>
    have : ∀ p, State.reset.ledger.busy p = none ∧ State.reset.ledger.waiting p < 4 := by decide
    exact this p
  | owes n => simpa [Ledger.setStamp] using ⟨idle, room⟩
  | dayEnded => simpa using ⟨idle, room⟩
  | weighed | opened | replaced | retired | reportDone | tareDropped | tareStored | jobMade | committed | clockRan | clockSet
  | optionSet | voidCounted | paid | drawerSet => exact ⟨idle, room⟩

/-- A reply to a port with fewer than 4 frames waiting. -/
theorem Ledger.CapturesStand.reply {a : Ledger} (h : a.CapturesStand) {p : PortId} (room : a.waiting p < 4) :
    Ledger.CapturesStand { a with waiting := Function.update a.waiting p (a.waiting p + 1) } := by
  have le : ∀ q, Function.update a.waiting p (a.waiting p + 1) q ≤ max 4 (a.waiting q) := fun q => by
    rw [Function.update_apply]; split_ifs
    · exact le_max_of_le_left room
    · exact le_max_right _ _
  exact ⟨h.port, h.one, h.slot, fun q => (le q).trans (max_le (by decide) (h.five q)),
    fun q hq => (le q).trans (max_le le_rfl (h.four q hq))⟩

/-- A capture placed in a free slot for a port without a command in progress. -/
theorem Ledger.CapturesStand.place {a : Ledger} (h : a.CapturesStand) {c : ChannelId} {p : PortId} (g : Progress)
    (room : a.waiting p < 4) (idle : a.busy p = none) (free : a.held c = none) :
    Ledger.CapturesStand { a with
      held := Function.update a.held c (some (p, g)), busy := Function.update a.busy p (some g) } := by
  have noHold : ∀ d k, a.held d ≠ some (p, k) := fun d k hd => by rw [h.port d p k hd] at idle; cases idle
  have held : ∀ d q k, Function.update a.held c (some (p, g)) d = some (q, k) →
      (d = c ∧ q = p ∧ k = g) ∨ (a.held d = some (q, k) ∧ q ≠ p) := fun d q k hd => by
    rw [Function.update_apply] at hd
    split_ifs at hd with e
    · cases hd; exact .inl ⟨e, rfl, rfl⟩
    · exact .inr ⟨hd, fun e' => noHold d k (e' ▸ hd)⟩
  have busy : ∀ q, Function.update a.busy p (some g) q ≠ none → q = p ∨ (q ≠ p ∧ a.busy q ≠ none) := fun q hq => by
    by_cases e : q = p
    · exact .inl e
    · exact .inr ⟨e, by rwa [Function.update_of_ne e] at hq⟩
  refine ⟨fun d q k hd => ?_, fun d e q k l hd he => ?_, fun q hq => ?_, h.five, fun q hq => ?_⟩
  · rcases held d q k hd with ⟨-, rfl, rfl⟩ | ⟨hd, hq⟩
    · exact Function.update_self _ _ _
    · exact (Function.update_of_ne hq _ _).trans (h.port d q k hd)
  · rcases held d q k hd with ⟨e1, e2, -⟩ | ⟨hd, hq⟩ <;> rcases held e q l he with ⟨e3, e4, -⟩ | ⟨he, hq'⟩
    · rw [e1, e3]
    · exact absurd e2 hq'
    · exact absurd e4 hq
    · exact h.one d e q k l hd he
  · rcases busy q hq with rfl | ⟨-, hb⟩
    · exact ⟨c, g, Function.update_self _ _ _⟩
    · obtain ⟨d, k, hd⟩ := h.slot q hb
      refine ⟨d, k, (Function.update_of_ne ?_ _ _).trans hd⟩
      rintro rfl
      rw [free] at hd
      cases hd
  · rcases busy q hq with rfl | ⟨-, hb⟩
    · exact room.le
    · exact h.four q hb

/-- Every turn keeps the captures' invariant. -/
theorem Ledger.Turn.capturesStand {a b : Ledger} (h : a.Turn b) (ha : a.CapturesStand) : b.CapturesStand := by
  cases h with
  | moved h => exact h.keep (fun _ _ m => m.capturesStand) ha
  | @replied b p room still h =>
    have hb : b.CapturesStand := h.keep (fun _ _ m => m.capturesStand) ha
    refine hb.reply ?_
    rcases still with idle | e
    · exact (h.keep (fun _ _ m => m.room p) ⟨ha, idle, room⟩).2.2
    · rw [e]; exact room
  | placed c p g h room idle free =>
    exact Ledger.CapturesStand.place (h.keep (fun _ _ m => m.capturesStand) ha) g room idle free

/-- Settles O58: every step is a turn of the ledger, and every turn keeps the captures' invariant. -/
theorem capturesKept : Obligations.CapturesKept := by
  intro s t hs h
  rw [State.capturesStand_iff] at hs ⊢
  exact (step_turn h).capturesStand hs

end Sys2Proof.Machine
end

section
/-! SUPPORT. The ranges of the counters, the clock, the settings and the figures, and the stamps owed, said of the ledger and kept by
each of its turns. -/

namespace Sys2Proof.Machine

/-! ### Ranges of values -/

/-- The settings lie in the ranges of Table 9-14. -/
def Settings.InRange (x : Settings) : Prop :=
  x.cashUnit ∈ [1, 5, 10, 50] ∧ x.cashLimit ≤ 9999999999 ∧ (1 ≤ x.captureTimeout ∧ x.captureTimeout ≤ 60) ∧
    (1 ≤ x.tareExpiry ∧ x.tareExpiry ≤ 365)

/-- The clock lies in its range (R107). -/
def ClockTime.InRange (t : ClockTime) : Prop := 1 ≤ t.day ∧ t.day ≤ 65535 ∧ t.second ≤ 86399

/-- The accumulators lie within their limits (R161, Table 8-1). -/
structure Totals.InRange (t : Totals) : Prop where
  slots : ∀ i : Fin 32, t.slots[i].weight ≤ 99999999999 ∧ t.slots[i].amount ≤ 99999999999
  paidCount : t.paidCount ≤ 999999
  voidCount : t.voidCount ≤ 999999
  cash : t.cash ≤ 99999999999
  voucher : t.voucher ≤ 99999999999
  rounding : -9999999999 ≤ t.rounding ∧ t.rounding ≤ 9999999999

/-- A drawer lies within its limits (R114). -/
def Drawer.InRange (d : Drawer) : Prop := d.balance ≤ 9999999999 ∧ d.paidToday ≤ 99999999999

/-- A ticket or weighing number (R25, R31). -/
def numberInRange (n : Nat) : Prop := 1 ≤ n ∧ n ≤ 999999

theorem advanceNumber_inRange {n : Nat} (h : numberInRange n) : numberInRange (advanceNumber n) := by
  obtain ⟨h1, h2⟩ := h
  unfold advanceNumber Config.maxNumber numberInRange
  split_ifs <;> omega

theorem advanceNumber_iterate_inRange {n : Nat} (h : numberInRange n) (i : Nat) : numberInRange (advanceNumber^[i] n) := by
  induction i with
  | zero => exact h
  | succ i ih => rw [Function.iterate_succ_apply']; exact advanceNumber_inRange ih

theorem advanceJob_inRange {n : Nat} (h : 1 ≤ n ∧ n ≤ 255) : 1 ≤ advanceJob n ∧ advanceJob n ≤ 255 := by
  unfold advanceJob
  split_ifs <;> omega

theorem advanceJob_iterate_inRange {n : Nat} (h : 1 ≤ n ∧ n ≤ 255) (i : Nat) :
    1 ≤ advanceJob^[i] n ∧ advanceJob^[i] n ≤ 255 := by
  induction i with
  | zero => exact h
  | succ i ih => rw [Function.iterate_succ_apply']; exact advanceJob_inRange ih

theorem ClockTime.next_inRange {t : ClockTime} (h : t.InRange) : t.next.InRange := by
  obtain ⟨h1, h2, h3⟩ := h
  unfold ClockTime.next Config.maxSecond Config.maxDay
  split_ifs
  · exact ⟨h1, h2, by dsimp only; omega⟩
  · exact ⟨by dsimp only; omega, by dsimp only; omega, Nat.zero_le _⟩
  · exact ⟨h1, h2, h3⟩

theorem ClockTime.inRange_of_clockOk {t : ClockTime} (h : clockOk t = true) : t.InRange := by
  simp only [clockOk, Bool.and_eq_true, decide_eq_true_eq] at h
  obtain ⟨⟨h1, h2⟩, h3⟩ := h
  exact ⟨h1, h2, h3⟩

/-- A value clamped lies between the limits (R11, R186). -/
theorem clamp_bounds {low high : Nat} (v : Nat) (h : low ≤ high) : low ≤ clamp low high v ∧ clamp low high v ≤ high := by
  unfold clamp
  split_ifs <;> omega

/-- A setting written keeps the settings in their ranges (R186). -/
theorem Settings.write?_inRange {x y : Settings} {setting : Setting} {v w : Nat} (h : x.InRange)
    (e : x.write? setting v = some (y, w)) : y.InRange := by
  obtain ⟨h1, h2, h3, h4⟩ := h
  cases setting with
  | roundingMode =>
    obtain ⟨m, -, e⟩ := Option.map_eq_some_iff.1 e
    cases e
    exact ⟨h1, h2, h3, h4⟩
  | cashUnit =>
    simp only [Settings.write?] at e
    split_ifs at e with hv
    cases e
    exact ⟨hv, h2, h3, h4⟩
  | cashLimit => cases e; exact ⟨h1, (clamp_bounds v (Nat.zero_le _)).2, h3, h4⟩
  | captureTimeout => cases e; exact ⟨h1, h2, clamp_bounds v (by decide), h4⟩
  | tareExpiry => cases e; exact ⟨h1, h2, h3, clamp_bounds v (by decide)⟩

/-! ### The accumulators (R162 to R164) -/

/-- A capped addition stays within its limit (R163). -/
theorem addCapped_le (limit a x : Nat) : (addCapped limit a x).1 ≤ limit := by
  unfold addCapped
  split_ifs with h
  · exact le_rfl
  · exact Nat.le_of_not_lt h

theorem addRounding_bounds (a r : Int) : -9999999999 ≤ (addRounding a r).1 ∧ (addRounding a r).1 ≤ 9999999999 := by
  unfold addRounding Config.maxRounding
  split_ifs <;> (dsimp only; omega)

theorem Totals.zero_inRange : Totals.zero.InRange := by
  refine ⟨fun i => ?_, by decide, by decide, by decide, by decide, by decide⟩
  simp [Totals.zero]

theorem Totals.countVoid_inRange {t : Totals} (h : t.InRange) : t.countVoid.InRange :=
  { h with voidCount := addCapped_le _ _ _ }

theorem Totals.countPaid_inRange {t : Totals} (h : t.InRange) : t.countPaid.InRange :=
  { h with paidCount := addCapped_le _ _ _ }

theorem Totals.addRounding_inRange {t : Totals} (h : t.InRange) (r : Int) : (t.addRounding r).InRange :=
  { h with rounding := addRounding_bounds _ _ }

theorem Totals.addPaid_inRange {t : Totals} (h : t.InRange) (method : PayMethod) (amount : Nat) :
    (t.addPaid method amount).InRange := by
  cases method with
  | cash => exact { h with cash := addCapped_le _ _ _ }
  | voucher => exact { h with voucher := addCapped_le _ _ _ }

theorem Totals.addLine_inRange {t : Totals} (h : t.InRange) (p : Pricing) : (t.addLine p).InRange := by
  refine { h with slots := fun i => ?_ }
  have e : (t.addLine p).slots[i] = if p.slot = i then
      { weight := (addCapped Config.maxFigure t.slots[p.slot].weight p.payable).1
        amount := (addCapped Config.maxFigure t.slots[p.slot].amount p.amount).1 } else t.slots[i] := by
    simp [Totals.addLine, Vector.getElem_set, Fin.ext_iff]
  rw [e]
  split_ifs
  · exact ⟨addCapped_le _ _ _, addCapped_le _ _ _⟩
  · exact h.slots i

theorem Totals.addLines_inRange {t : Totals} (h : t.InRange) (lines : List Line) : (t.addLines lines).InRange := by
  unfold Totals.addLines
  induction lines generalizing t with
  | nil => exact h
  | cons ln lns ih =>
    rw [List.foldl_cons]
    refine ih ?_
    split
    · exact h
    · exact Totals.addLine_inRange h _

/-- A payment fed to the totals keeps them within their limits (R162, R163). -/
theorem Totals.feed_inRange {t : Totals} (h : t.InRange) (lines : List Line) (method : PayMethod) (amount : Nat) (rounding : Int)
    (hit : Bool) : ((t.feed lines method amount rounding).orSaturated hit).InRange :=
  { Totals.countPaid_inRange (Totals.addRounding_inRange
      (Totals.addPaid_inRange (Totals.addLines_inRange h lines) method amount) rounding) with }

/-! ### The ranges of the ledger -/

/-- `State.inRange`, said of the ledger. -/
structure Ledger.InRange (a : Ledger) : Prop where
  ticket : numberInRange a.nextTicket
  weighing : numberInRange a.nextWeighing
  stamp : 1 ≤ a.nextStamp
  job : 1 ≤ a.nextJob ∧ a.nextJob ≤ 255
  age : 1 ≤ a.nextAge
  day : 1 ≤ a.dayNumber ∧ a.dayNumber ≤ 9999
  generation : a.generation ≤ 65535
  clock : a.clock.InRange
  settings : a.settings.InRange
  totals : a.totals.InRange
  drawer : ∀ p d, a.drawer p = some d → d.InRange

theorem State.inRange_iff (s : State) : s.inRange ↔ s.ledger.InRange := by
  constructor
  · rintro ⟨h1, h2, h3, h4, h5, h6, h7, h8, h9, h10, ⟨h11, h12, h13, h14, h15⟩, h16⟩
    exact ⟨h1, h2, h3, h4, h5, h6, h7, h8, h9, ⟨h10, h11, h12, h13, h14, h15⟩, h16⟩
  · rintro ⟨h1, h2, h3, h4, h5, h6, h7, h8, h9, ⟨h10, h11, h12, h13, h14, h15⟩, h16⟩
    exact ⟨h1, h2, h3, h4, h5, h6, h7, h8, h9, h10, ⟨h11, h12, h13, h14, h15⟩, h16⟩

theorem Ledger.InRange.advanceStamp {a : Ledger} (h : a.InRange) : a.advanceStamp.InRange := by
  unfold Ledger.advanceStamp
  split_ifs
  · exact { h with stamp := Nat.le_add_left 1 _ }
  · exact { h with stamp := Nat.le_add_left 1 _ }

/-- A drawer that follows one in range is in range. -/
theorem Drawer.inRange_of_follows {old new : Option Drawer} (h : ∀ d, old = some d → d.InRange) (f : drawerFollows old new)
    {d : Drawer} (hd : new = some d) : d.InRange := by
  rcases f d hd with rfl | ⟨e, he, hb, hp⟩
  · exact ⟨Nat.zero_le _, Nat.zero_le _⟩
  · obtain ⟨h1, h2⟩ := h e he
    exact ⟨hb.elim (fun k => k.trans h1) id, hp.elim (fun k => k.trans h2) id⟩

/-- The ledger right after reset lies in its ranges. -/
theorem Ledger.reset_inRange : State.reset.ledger.InRange := by
  have drawer : ∀ p, ∀ d ∈ State.reset.ledger.drawer p, d.balance ≤ 9999999999 ∧ d.paidToday ≤ 99999999999 := by decide
  exact ⟨⟨by decide, by decide⟩, ⟨by decide, by decide⟩, by decide, by decide, by decide, by decide, by decide,
    ⟨by decide, by decide, by decide⟩, ⟨by decide, by decide, by decide, by decide⟩, Totals.zero_inRange,
    fun p d h => drawer p d h⟩

/-- Every move keeps the ranges. -/
theorem Ledger.Move.inRange {a b : Ledger} (m : a.Move b) (h : a.InRange) : b.InRange := by
  cases m with
  | weighed => exact { h with weighing := advanceNumber_inRange h.weighing }
  | opened n room free =>
    obtain ⟨i, -, rfl, -⟩ := free
    exact { h with ticket := advanceNumber_inRange (advanceNumber_iterate_inRange h.ticket i) }
  | owes n => exact Ledger.InRange.advanceStamp { h with }
  | dayEnded =>
    refine Ledger.InRange.advanceStamp { h with totals := Totals.zero_inRange, day := ?_, drawer := fun p d hd => ?_ }
    · obtain ⟨h1, h2⟩ := h.day
      dsimp only [advanceDay]
      split_ifs <;> omega
    · obtain ⟨e, he, rfl⟩ := Option.map_eq_some_iff.1 hd
      exact ⟨(h.drawer p e he).1, Nat.zero_le _⟩
  | jobMade i => exact { h with job := advanceJob_inRange (advanceJob_iterate_inRange h.job i), age := Nat.le_add_left 1 _ }
  | committed =>
    refine { h with generation := ?_ }
    have := h.generation
    dsimp only [advanceGeneration]
    split_ifs <;> omega
  | clockRan => exact { h with clock := ClockTime.next_inRange h.clock }
  | clockSet time ok => exact { h with clock := ClockTime.inRange_of_clockOk ok }
  | optionSet setting v w x e => exact { h with settings := Settings.write?_inRange h.settings e }
  | voidCounted => exact { h with totals := Totals.countVoid_inRange h.totals }
  | paid lines method amount rounding hit =>
    exact { h with totals := Totals.feed_inRange h.totals lines method amount rounding hit }
  | drawerSet p d f =>
    refine { h with drawer := fun q e he => ?_ }
    dsimp only at he
    rw [Function.update_apply] at he
    split_ifs at he
    · exact Drawer.inRange_of_follows (h.drawer p) f he
    · exact h.drawer q e he
  | started => exact { h with job := ⟨le_rfl, Nat.le_add_left 1 254⟩, age := le_rfl }
  | coldStarted => exact Ledger.reset_inRange
  | replaced | retired | reportDone | tareDropped | tareStored | freed | ended | cleared | sent | handedOver => exact { h with }

/-- Every turn keeps the ranges. -/
theorem Ledger.Turn.inRange {a b : Ledger} (h : a.Turn b) (ha : a.InRange) : b.InRange := by
  cases h with
  | moved h => exact h.keep (fun _ _ m => m.inRange) ha
  | replied p room still h => exact { h.keep (fun _ _ m => m.inRange) ha with }
  | placed c p g h room idle free => exact { h.keep (fun _ _ m => m.inRange) ha with }

/-! ### The stamps owed (R135) -/

/-- The stamps owed are different, from 1 on, and below a bound. -/
def Ledger.StampsBelow (a : Ledger) (m : Nat) : Prop := a.stamps.Nodup ∧ ∀ x ∈ a.stamps, 1 ≤ x ∧ x < m

/-- `State.distinctNames`, said of the ledger. -/
structure Ledger.NamesStand (a : Ledger) : Prop where
  few : a.names.length ≤ 48
  distinct : a.numbers.Nodup
  inRange : ∀ n ∈ a.numbers, numberInRange n
  next : numberInRange a.nextTicket
  plates : a.plates.Nodup

/-- `State.stampsStand`, said of the ledger. -/
structure Ledger.StampsStand (a : Ledger) : Prop where
  names : a.NamesStand
  counter : 1 ≤ a.nextStamp ∧ a.nextStamp ≤ 4294967295
  older : a.StampsBelow a.nextStamp

theorem State.ledger_numbers (s : State) : s.ledger.numbers = s.tickets.map Ticket.number := by
  simp only [Ledger.numbers, State.ledger, List.map_map]; rfl

theorem State.distinctNames_iff (s : State) : s.distinctNames ↔ s.ledger.NamesStand := by
  have hl : s.ledger.names.length = s.tickets.length := List.length_map _
  have hm : (∀ n ∈ s.ledger.numbers, numberInRange n) ↔ ∀ t ∈ s.tickets, 1 ≤ t.number ∧ t.number ≤ 999999 := by
    rw [State.ledger_numbers]; exact List.forall_mem_map
  constructor
  · rintro ⟨h1, h2, h3, h4, h5⟩
    exact ⟨hl ▸ h1, s.ledger_numbers ▸ h2, hm.2 h3, h4, h5⟩
  · rintro ⟨h1, h2, h3, h4, h5⟩
    exact ⟨hl ▸ h1, s.ledger_numbers ▸ h2, hm.1 h3, h4, h5⟩

theorem State.stampsStand_iff (s : State) : s.stampsStand ↔ s.ledger.StampsStand := by
  have hm : (∀ x ∈ s.ledger.stamps, 1 ≤ x ∧ x < s.nextStamp) ↔ ∀ x ∈ s.owedItems, 1 ≤ x.stamp ∧ x.stamp < s.nextStamp := by
    rw [State.ledger_stamps]; exact List.forall_mem_map
  constructor
  · rintro ⟨h1, h2, h3, h4⟩
    exact ⟨s.distinctNames_iff.1 h1, h2, s.ledger_stamps ▸ h3, hm.2 h4⟩
  · rintro ⟨h1, h2, h3, h4⟩
    exact ⟨s.distinctNames_iff.2 h1, h2, s.ledger_stamps ▸ h3, hm.1 h4⟩

/-- Fewer stamps owed keep below the bound. -/
theorem Ledger.StampsBelow.sublist {a b : Ledger} {m : Nat} (h : a.StampsBelow m) (hs : b.stamps.Sublist a.stamps) :
    b.StampsBelow m := ⟨h.1.sublist hs, fun x hx => h.2 x (hs.subset hx)⟩

/-- One stamp at the bound joins some of the stamps below it. -/
theorem Ledger.StampsBelow.cons {a b : Ledger} {m : Nat} {rest : List Nat} (h : a.StampsBelow m) (hm : 1 ≤ m)
    (hs : rest.Sublist a.stamps) (hb : b.stamps.Perm (m :: rest)) : b.StampsBelow (m + 1) := by
  refine ⟨hb.nodup_iff.2 (List.nodup_cons.2 ⟨fun hx => ?_, h.1.sublist hs⟩), fun x hx => ?_⟩
  · exact absurd (h.2 m (hs.subset hx)).2 (lt_irrefl m)
  · rcases List.mem_cons.1 (hb.subset hx) with rfl | hx
    · exact ⟨hm, Nat.lt_succ_self _⟩
    · obtain ⟨h1, h2⟩ := h.2 x (hs.subset hx)
      exact ⟨h1, Nat.lt_succ_of_lt h2⟩

/-- Without its stamp under one number, a list of entries holds fewer stamps. -/
theorem clearStamp_sublist (n : Nat) (l : List (Nat × Option Nat)) :
    ((l.map fun x => if x.1 = n then (n, none) else x).filterMap Prod.snd).Sublist (l.filterMap Prod.snd) := by
  induction l with
  | nil => exact .refl _
  | cons x xs ih =>
    obtain ⟨k, o⟩ := x
    rw [List.map_cons]
    split_ifs
    · cases o with
      | none => simpa using ih
      | some v => simpa using ih.cons v
    · cases o with
      | none => simpa using ih
      | some v => simpa using ih

/-- A stamp written under one number of different numbers: nothing has changed, or the stamp has joined some of those there. -/
theorem writeStamp_perm (n m : Nat) {l : List (Nat × Option Nat)} (hn : (l.map Prod.fst).Nodup) :
    (l.map fun x => if x.1 = n then (n, some m) else x) = l ∨ ∃ rest, rest.Sublist (l.filterMap Prod.snd) ∧
      ((l.map fun x => if x.1 = n then (n, some m) else x).filterMap Prod.snd).Perm (m :: rest) := by
  induction l with
  | nil => exact .inl rfl
  | cons x xs ih =>
    obtain ⟨k, o⟩ := x
    obtain ⟨hk, hn⟩ := List.nodup_cons.1 (List.map_cons ▸ hn)
    rw [List.map_cons]
    by_cases e : k = n
    · have hxs : (xs.map fun x => if x.1 = n then (n, some m) else x) = xs := by
        refine (List.map_congr_left fun x hx => if_neg fun he => hk ?_).trans (List.map_id _)
        exact List.mem_map.2 ⟨x, hx, by rw [he, e]⟩
      rw [hxs, if_pos e]
      refine .inr ⟨xs.filterMap Prod.snd, ?_, by simp⟩
      cases o with
      | none => simp
      | some v => simp
    · rw [if_neg e]
      rcases ih hn with h | ⟨rest, hs, hp⟩
      · exact .inl (by rw [h])
      · cases o with
        | none => exact .inr ⟨rest, by simpa using hs, by simpa using hp⟩
        | some v =>
          refine .inr ⟨v :: rest, by simpa using hs, ?_⟩
          simpa using (hp.cons v).trans (.swap m v rest)

/-- The counter's stamp written under a number keeps the stamps different, and older than one more. -/
theorem Ledger.StampsStand.setStamp {a : Ledger} (h : a.StampsStand) (n : Nat) :
    (a.setStamp n (some a.nextStamp)).StampsBelow (a.nextStamp + 1) := by
  rcases writeStamp_perm n a.nextStamp h.names.distinct with e | ⟨rest, hs, hp⟩
  · have : a.setStamp n (some a.nextStamp) = a := by rw [Ledger.setStamp, e]
    rw [this]
    exact ⟨h.older.1, fun x hx => ⟨(h.older.2 x hx).1, Nat.lt_succ_of_lt (h.older.2 x hx).2⟩⟩
  · exact h.older.cons h.counter.1 (hs.append_right a.reportStamp.toList) (hp.append_right _)

/-- The place of a stamp among different stamps is from 1 to their number. -/
theorem rankOf_bounds {l : List Nat} {x : Nat} (h : x ∈ l) : 1 ≤ rankOf l x ∧ rankOf l x ≤ l.length := by
  refine ⟨Nat.le_add_right 1 _, ?_⟩
  have hlt : (l.filter fun y => decide (y < x)).length < l.length :=
    List.length_filter_lt_length_iff_exists.2 ⟨x, h, by simp⟩
  unfold rankOf
  omega

/-- An older stamp has a lower place. -/
theorem rankOf_lt {l : List Nat} {x y : Nat} (hx : x ∈ l) (h : x < y) : rankOf l x < rankOf l y := by
  have hf : (l.filter fun z => decide (z < x)) = (l.filter fun z => decide (z < y)).filter fun z => decide (z < x) := by
    rw [List.filter_filter]
    refine List.filter_congr fun z _ => ?_
    by_cases hz : z < x
    · simp [hz, hz.trans h]
    · simp [hz]
  have hlt : ((l.filter fun z => decide (z < y)).filter fun z => decide (z < x)).length <
      (l.filter fun z => decide (z < y)).length :=
    List.length_filter_lt_length_iff_exists.2 ⟨x, List.mem_filter.2 ⟨hx, by simpa using h⟩, by simp⟩
  unfold rankOf
  rw [hf]
  omega

/-- Different stamps have different places. -/
theorem rankOf_injOn {l : List Nat} {x y : Nat} (hx : x ∈ l) (hy : y ∈ l) (h : rankOf l x = rankOf l y) : x = y := by
  rcases lt_trichotomy x y with hl | he | hl
  · exact absurd h (rankOf_lt hx hl).ne
  · exact he
  · exact absurd h (rankOf_lt hy hl).ne'

/-- A table within its limit owes at most one receipt for each ticket and one for the day report. -/
theorem Ledger.stamps_length (a : Ledger) : a.stamps.length ≤ a.names.length + 1 := by
  unfold Ledger.stamps
  rw [List.length_append]
  have h1 := List.length_filterMap_le Prod.snd a.names
  have h2 : a.reportStamp.toList.length ≤ 1 := by cases a.reportStamp <;> simp
  omega

theorem Ledger.restamp_numbers (a : Ledger) : a.restamp.numbers = a.numbers := by
  simp only [Ledger.numbers, Ledger.restamp, List.map_map]
  rfl

/-- The counter's advance keeps the numbers. -/
theorem Ledger.advanceStamp_namesStand {a : Ledger} (h : a.NamesStand) : a.advanceStamp.NamesStand := by
  unfold Ledger.advanceStamp
  split_ifs
  · exact { h with }
  · exact ⟨by simpa [Ledger.restamp] using h.few, by rw [Ledger.restamp_numbers]; exact h.distinct,
      by rw [Ledger.restamp_numbers]; exact h.inRange, h.next, h.plates⟩

/-- Every stamp given anew is the place of the old one. -/
theorem Ledger.restamp_stamps (a : Ledger) : a.restamp.stamps = a.stamps.map (rankOf a.stamps) := by
  have h1 : a.restamp.names.filterMap Prod.snd = (a.names.filterMap Prod.snd).map (rankOf a.stamps) := by
    rw [List.map_filterMap]
    exact List.filterMap_map
  have h2 : a.restamp.reportStamp.toList = a.reportStamp.toList.map (rankOf a.stamps) := by
    simp only [Ledger.restamp]
    cases a.reportStamp <;> rfl
  calc a.restamp.stamps = _ := by rw [Ledger.stamps, h1, h2]
    _ = _ := by rw [← List.map_append]; rfl

/-- Once the counter's stamp has been given, its advance makes it older than the counter, or gives every stamp anew (R135). -/
theorem Ledger.advanceStamp_stampsStand {a : Ledger} (hn : a.NamesStand) (hs : a.StampsBelow (a.nextStamp + 1)) : a.advanceStamp.StampsStand := by
  have hn' := Ledger.advanceStamp_namesStand hn
  by_cases h : a.nextStamp < Config.maxStamp
  · have e : a.advanceStamp = { a with nextStamp := a.nextStamp + 1 } := if_pos h
    rw [e] at hn' ⊢
    exact ⟨hn', ⟨Nat.le_add_left 1 _, h⟩, hs⟩
  · have e : a.advanceStamp = a.restamp := if_neg h
    have hl : a.stamps.length ≤ 49 := a.stamps_length.trans (Nat.succ_le_succ hn.few)
    rw [e] at hn' ⊢
    refine ⟨hn', ⟨Nat.le_add_left 1 _, (Nat.succ_le_succ hl).trans (by decide)⟩, ?_, fun y hy => ?_⟩
    · rw [Ledger.restamp_stamps]
      exact hs.1.map_on fun x hx y hy => rankOf_injOn hx hy
    · rw [Ledger.restamp_stamps] at hy
      obtain ⟨x, hx, rfl⟩ := List.mem_map.1 hy
      obtain ⟨h1, h2⟩ := rankOf_bounds hx
      exact ⟨h1, Nat.lt_succ_of_le h2⟩

/-! ### New ticket numbers (R31) -/

/-- The numbers that the counter reaches, by their place in the cycle. -/
theorem advanceNumber_iterate {n : Nat} (h : numberInRange n) (i : Nat) :
    advanceNumber^[i] n = (n - 1 + i) % 999999 + 1 := by
  obtain ⟨h1, h2⟩ := h
  induction i with
  | zero => rw [Function.iterate_zero_apply, Nat.add_zero, Nat.mod_eq_of_lt (by omega)]; omega
  | succ i ih =>
    rw [Function.iterate_succ_apply', ih]
    unfold advanceNumber Config.maxNumber
    split_ifs <;> omega

/-- In a table that is not full, the number the search ends at is free. -/
theorem Ledger.mayOpen.free {a : Ledger} {n : Nat} (h : a.mayOpen n) (hn : numberInRange a.nextTicket) (hl : a.names.length < 48) :
    n ∉ a.numbers := by
  obtain ⟨i, -, -, hf⟩ := h
  intro hm
  obtain ⟨rfl, hall⟩ := hf hm
  have hd : ((List.range (a.names.length + 1)).map fun j => advanceNumber^[j] a.nextTicket).Nodup := by
    refine List.Nodup.map_on (fun x hx y hy e => ?_) List.nodup_range
    rw [List.mem_range] at hx hy
    rw [advanceNumber_iterate hn, advanceNumber_iterate hn] at e
    omega
  have hs : ((List.range (a.names.length + 1)).map fun j => advanceNumber^[j] a.nextTicket) ⊆ a.numbers := by
    intro x hx
    obtain ⟨j, hj, rfl⟩ := List.mem_map.1 hx
    exact hall j (Nat.le_of_lt_succ (List.mem_range.1 hj))
  have hle := (List.subperm_of_subset hd hs).length_le
  simp [Ledger.numbers] at hle

/-- A ticket of a free number joins the table. -/
theorem Ledger.NamesStand.append {a : Ledger} (h : a.NamesStand) {n : Nat} (room : a.names.length < 48) (free : a.mayOpen n) :
    Ledger.NamesStand { a with names := a.names ++ [(n, none)], nextTicket := advanceNumber n } := by
  have hn : n ∉ a.numbers := free.free h.next room
  have hr : numberInRange n := by
    obtain ⟨i, -, rfl, -⟩ := free
    exact advanceNumber_iterate_inRange h.next i
  have e : Ledger.numbers { a with names := a.names ++ [(n, none)], nextTicket := advanceNumber n } = a.numbers ++ [n] := by
    simp [Ledger.numbers]
  refine ⟨by simpa using room, ?_, fun k hk => ?_, advanceNumber_inRange hr, h.plates⟩
  · rw [e]; exact List.Nodup.append h.distinct (List.nodup_singleton n) (by simpa using hn)
  · rw [e] at hk
    rcases List.mem_append.1 hk with hk | hk
    · exact h.inRange k hk
    · rw [List.mem_singleton.1 hk]; exact hr

/-- An entry written keeps the names. -/
theorem Ledger.NamesStand.setStamp {a : Ledger} (h : a.NamesStand) (n : Nat) (o : Option Nat) : (a.setStamp n o).NamesStand :=
  ⟨by simpa [Ledger.setStamp] using h.few, by rw [Ledger.setStamp_numbers]; exact h.distinct,
    by rw [Ledger.setStamp_numbers]; exact h.inRange, h.next, h.plates⟩

/-- Every move keeps the names and the stamps. -/
theorem Ledger.Move.stampsStand {a b : Ledger} (m : a.Move b) (h : a.StampsStand) : b.StampsStand := by
  cases m with
  | opened n room free =>
    refine ⟨h.names.append room free, h.counter, h.older.sublist (List.Sublist.append_right ?_ _)⟩
    simp
  | replaced n o kept =>
    rcases kept h.names.distinct with rfl | hm
    · exact ⟨h.names.setStamp n none, h.counter, h.older.sublist ((clearStamp_sublist n a.names).append_right _)⟩
    · rwa [Ledger.setStamp_eq_self h.names.distinct hm]
  | owes n => exact Ledger.advanceStamp_stampsStand (h.names.setStamp n _) (h.setStamp n)
  | retired n =>
    have hs := List.filter_sublist (p := fun x => decide (x.1 ≠ n)) (l := a.names)
    exact ⟨⟨hs.length_le.trans h.names.few, h.names.distinct.sublist (hs.map _),
      fun k hk => h.names.inRange k ((hs.map _).subset hk), h.names.next, h.names.plates⟩, h.counter,
      h.older.sublist ((hs.filterMap _).append_right _)⟩
  | dayEnded =>
    refine Ledger.advanceStamp_stampsStand { h.names with }
      (h.older.cons h.counter.1 (List.sublist_append_left (a.names.filterMap Prod.snd) _) ?_)
    exact List.perm_append_comm
  | reportDone =>
    refine ⟨{ h.names with }, h.counter, h.older.sublist ?_⟩
    exact (List.Sublist.refl _).append (List.nil_sublist _)
  | tareDropped plate => exact ⟨{ h.names with plates := h.names.plates.filter _ }, h.counter, h.older⟩
  | tareStored plate =>
    refine ⟨{ h.names with plates := ?_ }, h.counter, h.older⟩
    exact List.Nodup.append (h.names.plates.filter _) (List.nodup_singleton plate) (by simp)
  | coldStarted =>
    have none : State.reset.ledger.numbers = [] ∧ State.reset.ledger.stamps = [] := by decide
    exact ⟨⟨by decide, by decide, by simp [none], ⟨by decide, by decide⟩, by decide⟩, by decide, by simp [none], by simp [none]⟩
  | weighed | jobMade | committed | clockRan | clockSet | optionSet | voidCounted | paid | drawerSet | freed | ended | cleared
  | sent | handedOver | started => exact ⟨{ h.names with }, h.counter, h.older⟩

/-- Every turn keeps the names and the stamps. -/
theorem Ledger.Turn.stampsStand {a b : Ledger} (h : a.Turn b) (ha : a.StampsStand) : b.StampsStand := by
  cases h with
  | moved h => exact h.keep (fun _ _ m => m.stampsStand) ha
  | replied p room still h =>
    have hb := h.keep (fun _ _ m => m.stampsStand) ha
    exact ⟨{ hb.names with }, hb.counter, hb.older⟩
  | placed c p g h room idle free =>
    have hb := h.keep (fun _ _ m => m.stampsStand) ha
    exact ⟨{ hb.names with }, hb.counter, hb.older⟩

/-- Settles O56: every step is a turn of the ledger, and every turn keeps the ranges and the stamps. -/
theorem rangesKept : Obligations.RangesKept := by
  refine ⟨fun s t hs h => ?_, fun s t hs h => ?_⟩
  · rw [State.inRange_iff] at hs ⊢
    exact (step_turn h).inRange hs
  · rw [State.stampsStand_iff] at hs ⊢
    exact (step_turn h).stampsStand hs

end Sys2Proof.Machine
end

section
/-! The readings of a scale channel (R2 to R5), and the commands CONFIGURE SCALE and ZERO (R11 to R14). -/

namespace Sys2Proof.Machine

/-! ### Rounding (R2) -/

/-- The rounded weight is a multiple of the division. -/
theorem dvd_roundWeight (d : Nat) (zero raw : Int) : (d : Int) ∣ roundWeight d zero raw := Dvd.intro _ rfl

/-- The rounded weight lies at most half a division above raw − Z, and less than half a division below it. -/
theorem roundWeight_bounds {d : Nat} (zero raw : Int) (hd : 0 < d) :
    -(d : Int) < 2 * (roundWeight d zero raw - (raw - zero)) ∧ 2 * (roundWeight d zero raw - (raw - zero)) ≤ d := by
  have hd' : (0 : Int) < d := by exact_mod_cast hd
  have h1 := Int.mul_ediv_add_emod (raw - zero + (d / 2 : Nat)) d
  have h2 := Int.emod_nonneg (raw - zero + (d / 2 : Nat)) hd'.ne'
  have h3 := Int.emod_lt_of_pos (raw - zero + (d / 2 : Nat)) hd'
  unfold roundWeight
  omega

/-- Another multiple of the division lies a division away at the least. -/
theorem multiples_apart {d : Nat} {a b : Int} (ha : (d : Int) ∣ a) (hb : (d : Int) ∣ b) (h : a < b) : a + d ≤ b := by
  have := Int.le_of_dvd (by omega) (dvd_sub hb ha)
  omega

/-- Settles O16: every other multiple lies at least half a division away, and a higher one more than half. -/
theorem roundedWeightIsNearest : Obligations.RoundedWeightIsNearest := by
  intro d zero raw hd
  obtain ⟨h1, h2⟩ := roundWeight_bounds zero raw hd
  have hw := dvd_roundWeight d zero raw
  generalize roundWeight d zero raw = w at *
  generalize raw - zero = x at *
  have above : ∀ m : Int, (d : Int) ∣ m → w < m → |w - x| < |m - x| := fun m hm hlt => by
    have := multiples_apart hw hm hlt
    rw [abs_lt, abs_of_nonneg (by omega : 0 ≤ m - x)]
    omega
  have below : ∀ m : Int, (d : Int) ∣ m → m < w → |w - x| ≤ |m - x| := fun m hm hlt => by
    have := multiples_apart hm hw hlt
    rw [abs_le, abs_of_nonpos (by omega : m - x ≤ 0)]
    omega
  refine ⟨hw, fun m hm => ?_, fun m hm e => ?_⟩
  · rcases lt_trichotomy m w with hlt | rfl | hlt
    · exact below m hm hlt
    · exact le_rfl
    · exact (above m hm hlt).le
  · by_contra hlt
    exact absurd e (above m hm (not_le.1 hlt)).ne'

/-! ### The window and its classes (R3 to R5) -/

/-- The entry that has joined a window is its newest (R4). -/
theorem joinWindow_getLast? {limit : Nat} (window : List Reading) (r : Reading) (h : 1 ≤ limit) :
    (joinWindow limit window r).getLast? = some r := by
  unfold joinWindow
  rw [List.getLast?_drop, if_neg (by simp; omega), List.getLast?_concat]

/-- The class of an arrival stands in the newest entry. -/
theorem Channel.join_class {ch : Channel} (now : Nat) (raw : Int) (high : Bool) (h : 1 ≤ ch.config.windowLength) :
    (ch.join now raw high).window.getLast?.map Reading.readingClass =
      some (classify ch.config high (roundWeight ch.config.division ch.zero raw)) :=
  congrArg (Option.map Reading.readingClass) (joinWindow_getLast? _ _ h)

/-- Table 1-3 for an arrival with the head status OK. -/
theorem classify_ok (cfg : ScaleConfig) (w : Int) : classify cfg false w =
    if w < -20 * (cfg.division : Int) then .under
    else if w ≤ cfg.capacity then .normal
    else if w ≤ cfg.capacity + 9 * (cfg.division : Int) then .margin
    else .over := by
  have low : (-(20 * cfg.division : Nat) : Int) = -20 * (cfg.division : Int) := by push_cast; ring
  have high : ((cfg.capacity + 9 * cfg.division : Nat) : Int) = cfg.capacity + 9 * (cfg.division : Int) := by push_cast; ring
  rw [← low, ← high]
  rfl

/-- Settles O17: the bounds of Table 1-3 are met one after another. -/
theorem arrivalsAreClassed : Obligations.ArrivalsAreClassed := by
  intro ch now raw hw w m d
  have hm : 0 ≤ m := Int.natCast_nonneg _
  have hd : 0 ≤ d := Int.natCast_nonneg _
  rw [Channel.join_class now raw true hw, Channel.join_class now raw false hw, classify_ok]
  refine ⟨rfl, fun h => ?_, fun h1 h2 => ?_, fun h1 h2 => ?_, fun h => ?_⟩
  · rw [if_pos h]
  · rw [if_neg (not_lt.2 h1), if_pos h2]
  · rw [if_neg (show ¬w < -20 * d by omega), if_neg (not_le.2 h1), if_pos h2]
  · rw [if_neg (show ¬w < -20 * d by omega), if_neg (show ¬w ≤ m by omega), if_neg (not_le.2 h)]

/-- Settles O18. -/
theorem steadinessTest : Obligations.SteadinessTest := by
  intro cfg window
  simp [steady, spreadWithin]

/-! ### Requests to a channel (R16) -/

/-- The roles of CAPTURE, STORE TARE and ZERO (Table 9-9). -/
theorem supervisorOrScalehouse_iff (r : Role) : supervisorOrScalehouse r = true ↔ r ∈ [Role.supervisor, .scalehouse] := by
  cases r <;> decide

theorem permitted_capture : permitted 16 = [.supervisor, .scalehouse] := by decide

theorem permitted_storeTare : permitted 21 = [.supervisor, .scalehouse] := by decide

/-- A number outside a range is no index. -/
theorem indexOf?_eq_none {n v : Nat} (h : n ≤ v) : indexOf? n v = none := dif_neg (Nat.not_lt.2 h)

/-- A capture request that fails a check of its channel changes nothing (R16). -/
theorem State.requestCapture_refused {s : State} {c : ChannelId} {reason : Reason} (owner : CaptureOwner) (mark : Option Side)
    (k : Packet) (h : (s.channel c).captureCheck = some reason) :
    s.requestCapture c owner mark k = (s, some (.stop reason 0)) := by
  simp [State.requestCapture, h]

/-- The state after a command's effect, its answer sent to the port when it has one (R177). -/
def carriedOut (k : Packet) (e : Effect) : State :=
  match e with
  | (t, some a) => t.replied k a
  | (t, none) => t

/-- A command of the roles SUPERVISOR and SCALEHOUSE, taken with parameters that fit. -/
theorem takeCommand_carriedOut {α : Type} {parse : List Byte → Option α} {k : Packet} {s : State} {a : α}
    (run : α → State → Effect) (h : s.takes k) (hr : (s.port k.port).role ∈ [Role.supervisor, .scalehouse])
    (hp : parse k.params = some a) :
    takeCommand false supervisorOrScalehouse parse run k s = .next (carriedOut k (run a (s.hunt k.port))) := by
  have hr' := (supervisorOrScalehouse_iff _).2 hr
  rcases he : run a (s.hunt k.port) with ⟨t, _ | ans⟩
  · exact takeCommand_silent _ _ _ _ _ _ h a hp hr' t he
  · exact takeCommand_answered _ _ _ _ _ _ h a hp hr' t ans he

/-- CAPTURE naming no channel is refused with RANGE (R16). -/
theorem capture_noChannel (k : Packet) {a : CaptureArgs} (h : 4 ≤ a.channel) (s : State) : capture k a s = s.refuse .range := by
  unfold capture
  rw [indexOf?_eq_none h]
  cases CaptureRole.ofCode? a.role <;> rfl

/-- STORE TARE naming no channel is refused with RANGE (R16). -/
theorem storeTare_noChannel (k : Packet) {a : PlateByteArgs} (h : 4 ≤ a.value) (s : State) :
    storeTare k a s = s.refuse .range := by
  unfold storeTare
  rw [indexOf?_eq_none h]
  cases presentPlateOk a.plate <;> rfl

/-- Settles O24. -/
theorem channelChecksCaptures : Obligations.ChannelChecksCaptures := by
  refine ⟨fun s c owner mark k => ⟨fun h1 => ?_, fun h1 h2 => ?_, fun h1 h2 h3 => ?_, fun h1 h2 h3 => ?_⟩,
    fun k s c h hc hc' => ⟨fun n l role grade hr hn hl hro hg hp => ?_, fun plate hr hl hp => ?_⟩⟩
  · exact s.requestCapture_refused _ _ _ (by simp [Channel.captureCheck, h1])
  · exact s.requestCapture_refused _ _ _ (by simp [Channel.captureCheck, h1, h2])
  · exact s.requestCapture_refused _ _ _ (by simp [Channel.captureCheck, h1, h2, Option.isSome_iff_ne_none, h3])
  · exact s.requestCapture_refused _ _ _ (by simp [Channel.captureCheck, h1, h2, h3])
  · rw [permitted_capture] at hr
    have hparse : CaptureArgs.parse k.params = some ⟨n, l, role, c, grade⟩ := by
      rw [hp]; exact CaptureArgs.parse_bytes n l role c grade hn hl hro hc' hg
    exact (takeCommand_carriedOut (capture k) h hr hparse).trans (by rw [capture_noChannel k hc]; rfl)
  · rw [permitted_storeTare] at hr
    have hparse : PlateByteArgs.parse k.params = some ⟨plate, c⟩ := by
      rw [hp]; exact PlateByteArgs.parse_bytes plate c (Nat.le_of_lt_succ hl) hc'
    exact (takeCommand_carriedOut (storeTare k) h hr hparse).trans (by rw [storeTare_noChannel k hc]; rfl)

/-! ### CONFIGURE SCALE (R11, R12) -/

theorem clamp_eq {low high : Nat} (v : Nat) (h : low ≤ high) : clamp low high v = max low (min v high) := by
  unfold clamp
  split_ifs <;> omega

/-- The capacity and division tests, one by one (R11). -/
theorem capacityOk_iff (capacity division : Nat) : capacityOk capacity division = true ↔
    division ∈ [1, 2, 5, 10, 20, 50, 100, 200, 500] ∧ (1000 ≤ capacity ∧ capacity ≤ 1000000) ∧ capacity % division = 0 ∧
      500 ≤ capacity / division ∧ capacity / division ≤ 10000 := by
  simp only [capacityOk, Bool.and_eq_true, decide_eq_true_eq, and_assoc]
  rfl

/-- A test of R11 that fails. -/
theorem capacityOk_eq_false {capacity division : Nat}
    (h : division ∉ [1, 2, 5, 10, 20, 50, 100, 200, 500] ∨ capacity < 1000 ∨ 1000000 < capacity ∨ capacity % division ≠ 0 ∨
      capacity / division < 500 ∨ 10000 < capacity / division) : capacityOk capacity division = false := by
  rw [Bool.eq_false_iff, ne_eq, capacityOk_iff]
  rintro ⟨hd, ⟨hlow, hhigh⟩, hm, hq, hq'⟩
  rcases h with h | h | h | h | h | h
  · exact h hd
  · omega
  · omega
  · exact h hm
  · omega
  · omega

/-- The configuration that CONFIGURE SCALE writes, clamped (R11). -/
def ConfigureScaleArgs.config (a : ConfigureScaleArgs) (enabled : Bool) : ScaleConfig :=
  { enabled := enabled, capacity := a.capacity, division := a.division, windowLength := clamp 3 32 a.windowLength
    staleLimit := clamp 200 5000 a.staleLimit }

/-- CONFIGURE SCALE of a channel whose slot is free, in range (R12). -/
theorem configureScale_eq {a : ConfigureScaleArgs} {c : ChannelId} {enabled : Bool} {s : State} (hc : a.channel = c.val)
    (he : yesNo? a.enabled = some enabled) (hs : (s.channel c).slot = none) (ho : capacityOk a.capacity a.division = true) :
    configureScale a s = (s.changeChannel c ((s.channel c).configure (a.config enabled)),
      some (answerWith (notesOf [(decide (clamp 3 32 a.windowLength ≠ a.windowLength) ||
        decide (clamp 200 5000 a.staleLimit ≠ a.staleLimit), .clampedSetting)]) [])) := by
  unfold configureScale
  rw [hc, indexOf?_val, he]
  simp only [hs, ho, Option.isSome_none, Bool.false_eq_true, if_false, Bool.not_true]
  rfl

/-- The reply of CONFIGURE SCALE notes a value clamped (R12). -/
theorem configureScale_answer (w stale : Nat) :
    answerWith (notesOf [(decide (clamp 3 32 w ≠ w) || decide (clamp 200 5000 stale ≠ stale), .clampedSetting)]) [] =
      if 3 ≤ w ∧ w ≤ 32 ∧ 200 ≤ stale ∧ stale ≤ 5000 then .success [] else .noted [.clampedSetting] [] := by
  by_cases h : 3 ≤ w ∧ w ≤ 32 ∧ 200 ≤ stale ∧ stale ≤ 5000
  · have h1 : clamp 3 32 w = w := by rw [clamp_eq w (by decide)]; omega
    have h2 : clamp 200 5000 stale = stale := by rw [clamp_eq stale (by decide)]; omega
    rw [if_pos h, h1, h2]
    simp [notesOf, answerWith]
  · have h1 : clamp 3 32 w ≠ w ∨ clamp 200 5000 stale ≠ stale := by
      rw [clamp_eq w (by decide), clamp_eq stale (by decide)]; omega
    rw [if_neg h]
    have h2 : (decide (clamp 3 32 w ≠ w) || decide (clamp 200 5000 stale ≠ stale)) = true := by simpa using h1
    rw [h2]
    rfl

/-- CONFIGURE SCALE naming no channel, or with an enabled byte that is neither yes nor no, is refused with RANGE. -/
theorem configureScale_range {a : ConfigureScaleArgs} {s : State} (h : 4 ≤ a.channel ∨ 2 ≤ a.enabled) :
    configureScale a s = s.refuse .range := by
  unfold configureScale
  rcases h with h | h
  · rw [indexOf?_eq_none h]
  · have hno : yesNo? a.enabled = none := by
      match a.enabled, h with
      | n + 2, _ => rfl
    rw [hno]
    cases indexOf? 4 a.channel <;> rfl

section
variable {a : ConfigureScaleArgs} {c : ChannelId} {enabled : Bool} {s : State} (hc : a.channel = c.val)
  (he : yesNo? a.enabled = some enabled)
include hc he

/-- CONFIGURE SCALE of a channel whose slot holds a capture is refused with SCALE_BUSY. -/
theorem configureScale_busy (hs : (s.channel c).slot ≠ none) : configureScale a s = s.refuse .scaleBusy := by
  unfold configureScale
  rw [hc, indexOf?_val, he]
  exact if_pos (Option.isSome_iff_ne_none.2 hs)

/-- CONFIGURE SCALE whose capacity or division fails a test of R11 is refused with RANGE. -/
theorem configureScale_untested (hs : (s.channel c).slot = none) (ho : capacityOk a.capacity a.division = false) :
    configureScale a s = s.refuse .range := by
  unfold configureScale
  rw [hc, indexOf?_val, he]
  simp [hs, ho]

end

/-- A channel's change as a command's outcome: the channel replaced, and one SCALE event when its state or ZERO_REQUIRED changed
(R10). -/
theorem State.changeChannel_replied (s : State) (c : ChannelId) (x : Channel) (k : Packet) (a : Answer) :
    (Host.Outcome.next ((s.changeChannel c x).replied k a) : Result) =
      if (s.channel c).state = x.state ∧ (s.channel c).zeroRequired = x.zeroRequired then .next ((s.setChannel c x).replied k a)
      else .next (((s.setChannel c x).raise (.scale c x.state x.zeroRequired)).replied k a) := by
  unfold State.changeChannel
  split_ifs <;> rfl

/-- Settles O20. -/
theorem configureScaleWrites : Obligations.ConfigureScaleWrites := by
  constructor
  · intro k s c enabled capacity division w stale h hr hs hd hc1 hc2 hm hq1 hq2 hw hst hp new answer
    have hdb : division < 256 ^ 4 := by simp only [List.mem_cons, List.not_mem_nil, or_false] at hd; omega
    have hok : capacityOk capacity division = true := (capacityOk_iff _ _).2 ⟨hd, ⟨hc1, hc2⟩, hm, hq1, hq2⟩
    have hparse : ConfigureScaleArgs.parse k.params = some ⟨c.val, if enabled then 1 else 0, capacity, division, w, stale⟩ := by
      rw [hp]
      exact ConfigureScaleArgs.parse_bytes _ _ _ _ _ _ (by omega) (by omega) hdb hw hst
    have hnew : (s.channel c).configure (ConfigureScaleArgs.config ⟨c.val, if enabled then 1 else 0, capacity, division, w, stale⟩
        enabled) = new := by
      simp only [Channel.configure, ConfigureScaleArgs.config, clamp_eq w (show 3 ≤ 32 by decide),
        clamp_eq stale (show 200 ≤ 5000 by decide)]
      rfl
    have hrun := configureScale_eq (s := s.hunt k.port)
      (a := ⟨c.val, if enabled then 1 else 0, capacity, division, w, stale⟩) rfl (yesNo?_num enabled) hs hok
    rw [State.channel_hunt, hnew, configureScale_answer] at hrun
    rw [show exec (.configureScale k) s = _ from
      takeCommand_answered _ _ _ _ _ _ h _ hparse (by rw [hr]; rfl) _ _ hrun, State.changeChannel_replied]
    rfl
  · intro k s ch enabled capacity division w stale h hr hch hen hcap hdiv hw hst hp refused
    have hparse : ConfigureScaleArgs.parse k.params = some ⟨ch, enabled, capacity, division, w, stale⟩ := by
      rw [hp]; exact ConfigureScaleArgs.parse_nums _ _ _ _ _ _ hch hen hcap hdiv hw hst
    have refuse : ∀ reason, configureScale ⟨ch, enabled, capacity, division, w, stale⟩ (s.hunt k.port)
        = (s.hunt k.port).refuse reason → refused reason := fun reason hrun =>
      takeCommand_answered _ _ _ _ _ _ h _ hparse (by rw [hr]; rfl) _ _ hrun
    refine ⟨fun hb => refuse _ (configureScale_range hb), fun c hc he => ?_⟩
    subst hc
    obtain ⟨b, hb⟩ : ∃ b, yesNo? enabled = some b := by
      match enabled, he with
      | 0, _ => exact ⟨_, rfl⟩
      | 1, _ => exact ⟨_, rfl⟩
    refine ⟨fun hs => refuse _ (configureScale_busy rfl hb hs), fun hs ho => refuse _ (configureScale_untested rfl hb hs (capacityOk_eq_false ho))⟩

/-! ### ZERO (R13, R14) -/

/-- Check 6 of R13, in numbers: Zc is present, and the raw value lies more than Max div 25 from it. -/
theorem zeroTooFar_iff (ch : Channel) (raw : Int) : zeroTooFar ch raw = true ↔
    ∃ zc ∈ ch.calZero, ((ch.config.capacity / 25 : Nat) : Int) < |raw - zc| := by
  unfold zeroTooFar
  cases ch.calZero with
  | none => simp
  | some zc =>
    simp only [decide_eq_true_eq, Option.mem_def, Option.some.injEq, exists_eq_left', Int.abs_eq_natAbs, Nat.cast_lt]

/-- ZERO's effect on a channel, by the checks of R13 in their order. -/
theorem zeroScale_eq {c : ChannelId} {s : State} {newest : Reading} {ch : Channel} (hch : s.channel c = ch)
    (hn : ch.state = .stable → ch.window.getLast? = some newest) :
    zeroScale c.val s =
      if ch.state = .off then s.refuse .scaleOff
      else if ch.slot ≠ none then s.refuse .scaleBusy
      else if ch.state ≠ .stable then s.refuse .unstable
      else if ∀ x ∈ ch.window, x.readingClass = .over then s.refuse .zeroRange
      else if ∃ zc ∈ ch.calZero, ((ch.config.capacity / 25 : Nat) : Int) < |newest.raw - zc| then s.refuse .zeroRange
      else (((s.setChannel c (ch.zeroed newest.raw)).raise (.scale c .motion false)), some (.success [])) := by
  unfold zeroScale
  rw [indexOf?_val]
  dsimp only
  rw [hch]
  by_cases h1 : ch.state = .off
  · rw [if_pos h1, if_pos h1]
  rw [if_neg h1, if_neg h1]
  by_cases h2 : ch.slot = none
  · simp only [h2, Option.isSome_none, Bool.false_eq_true, if_false, ne_eq, not_true_eq_false]
    by_cases h3 : ch.state = .stable
    · rw [hn h3]
      simp only [h3, not_true_eq_false, if_false, List.all_eq_true, decide_eq_true_eq, zeroTooFar_iff]
      have event : s.changeChannel c (ch.zeroed newest.raw) =
          (s.setChannel c (ch.zeroed newest.raw)).raise (.scale c .motion false) := by
        rw [State.changeChannel, hch, if_neg]
        · rfl
        · rw [h3]; exact fun e => by cases e.1
      rw [event]
      rfl
    · simp only [h3, not_false_eq_true, if_true]
  · simp only [Option.isSome_iff_ne_none, ne_eq, h2, not_false_eq_true, if_true]

/-- Settles O21: the reply follows each outcome of ZERO's effect. -/
theorem zeroSetsTheOffset : Obligations.ZeroSetsTheOffset := by
  intro k s n h hn hp
  have hparse : parseOne k.params = some n := by rw [hp]; exact parseOne_bytes n hn
  refine ⟨fun hr => ?_, fun hr h4 => ?_, fun c newest hr hc hnew => ?_⟩
  · refine takeCommand_role _ _ _ _ _ _ h n hparse ?_
    rw [Bool.eq_false_iff, ne_eq, supervisorOrScalehouse_iff]
    exact hr
  · refine (takeCommand_carriedOut zeroScale h hr hparse).trans ?_
    rw [zeroScale, show indexOf? 4 n = none from indexOf?_eq_none h4]
    rfl
  · subst hc
    refine (takeCommand_carriedOut zeroScale h hr hparse).trans ?_
    rw [zeroScale_eq (s.channel_hunt k.port c) hnew]
    simp only [apply_ite (carriedOut k), apply_ite Host.Outcome.next]
    rfl

end Sys2Proof.Machine
end

section
/-! The captures at their request (R16, R17, R20, R41 to R45, R59): a CAPTURE or STORE TARE that waits for its channel, one that the
channel's newest entry completes at once, and the checks of CAPTURE's own. -/

namespace Sys2Proof.Machine

/-! ### The request at its channel (R16, R17) -/

/-- A channel in MOTION or STABLE with a free slot passes every check of R16. -/
theorem Channel.captureCheck_eq_none {ch : Channel} (h1 : ch.state = .motion ∨ ch.state = .stable) (h2 : ch.zeroRequired = false)
    (h3 : ch.slot = none) : ch.captureCheck = none := by
  rcases h1 with h1 | h1 <;> simp [Channel.captureCheck, h1, h2, h3]

/-- On a channel in MOTION a capture waits (R17). -/
theorem State.requestCapture_motion {s : State} {c : ChannelId} (owner : CaptureOwner) (mark : Option Side) (k : Packet)
    (h1 : (s.channel c).state = .motion) (h2 : (s.channel c).zeroRequired = false) (h3 : (s.channel c).slot = none) :
    s.requestCapture c owner mark k = (s.placeCapture c owner mark k, none) := by
  simp [State.requestCapture, Channel.captureCheck_eq_none (.inl h1) h2 h3, h1]

/-- On a STABLE channel a capture completes with the newest entry (R17). -/
theorem State.requestCapture_stable {s : State} {c : ChannelId} {r : Reading} (owner : CaptureOwner) (mark : Option Side)
    (k : Packet) (h1 : (s.channel c).state = .stable) (h2 : (s.channel c).zeroRequired = false)
    (h3 : (s.channel c).slot = none) (h4 : (s.channel c).window.getLast? = some r) :
    s.requestCapture c owner mark k = ((s.completeCapture owner c r).1, some (s.completeCapture owner c r).2) := by
  simp [State.requestCapture, Channel.captureCheck_eq_none (.inr h1) h2 h3, h1, h4]

/-- A capture placed on a channel before its line's mark is written: the slot, and the command in progress of its port, which the
packet has left HUNTING. -/
theorem State.placeCapture_hunt (s : State) (c : ChannelId) (owner : CaptureOwner) (mark : Option Side) (k : Packet) :
    (s.hunt k.port).placeCapture c owner mark k =
      (((s.hunt k.port).setMark owner mark).setChannel c
          { s.channel c with
            slot := some ⟨owner, k.port, k.tag, s.timebase + 1000 * s.settings.captureTimeout⟩ }).setPort k.port
        { s.port k.port with receiver := .hunting, busy := some { kind := owner.progress, tag := k.tag } } := by
  unfold State.placeCapture
  rw [State.setMark_eq]
  simp [State.channel, State.port]

/-! ### CAPTURE's own checks (R41) -/

/-- A ticket number and a line position in their ranges that name a line of an OPEN ticket (R32). -/
structure State.OpenLine (s : State) (n l : Nat) (t : Ticket) (ln : Line) : Prop where
  number : ticketNumberOk n = true
  position : positionOk l = true
  found : s.ticket? n = some t
  opened : t.state = .opened
  line : t.line? l = some ln

theorem ticketNumberOk_iff (n : Nat) : ticketNumberOk n = true ↔ 1 ≤ n ∧ n ≤ 999999 := by
  rw [ticketNumberOk, Bool.and_eq_true, decide_eq_true_eq, decide_eq_true_eq]
  rfl

theorem positionOk_iff (l : Nat) : positionOk l = true ↔ 1 ≤ l ∧ l ≤ 8 := by
  rw [positionOk, Bool.and_eq_true, decide_eq_true_eq, decide_eq_true_eq]
  rfl

/-- The value of a capture role in Table 9-5. -/
def CaptureRole.code : CaptureRole → Nat
  | .gross => 0
  | .tare => 1
  | .chain => 2

theorem CaptureRole.ofCode?_code (role : CaptureRole) : CaptureRole.ofCode? role.code = some role := by
  cases role <;> rfl

theorem CaptureRole.ofCode?_eq_none {v : Nat} (h : 3 ≤ v) : CaptureRole.ofCode? v = none := by
  match v, h with
  | v + 3, _ => rfl

/-- CAPTURE that names a line and a channel is refused by the checks of R41, or requests its capture. -/
theorem capture_checked {k : Packet} {s : State} {n l code grade : Nat} {c : ChannelId} {role : CaptureRole} {t : Ticket}
    {ln : Line} {check : Option Reason} (hl : s.OpenLine n l t ln) (hro : CaptureRole.ofCode? code = some role)
    (hg : role = .chain → grade ≤ 999999) (hc : captureCheck role t ln = check) :
    capture k ⟨n, l, code, c.val, grade⟩ s =
      check.elim (s.requestCapture c (.line n l role grade) (some role.side) k) s.refuse := by
  have hrange : (decide (role ≠ .chain) || gradeOk grade) = true := by
    by_cases h : role = .chain
    · simp [gradeOk, hg h]
    · simp [h]
  have hopen : isOpened t.state = true := by simp [isOpened, hl.opened]
  unfold capture
  dsimp only
  rw [hro, indexOf?_val]
  dsimp only
  rw [s.withLine_eq _ n l isOpened _ t ln hl.number hl.position hrange hl.found hopen hl.line, hc]
  cases check <;> rfl

/-- CAPTURE with a role outside Table 9-5, or a CHAIN with a grade outside its range, is refused with RANGE (R32, R41). -/
theorem capture_range {k : Packet} {s : State} {n l code grade : Nat} {c : ChannelId}
    (h : 3 ≤ code ∨ (code = 2 ∧ 999999 < grade)) : capture k ⟨n, l, code, c.val, grade⟩ s = s.refuse .range := by
  unfold capture
  dsimp only
  rw [indexOf?_val]
  rcases h with h | ⟨rfl, h⟩
  · rw [CaptureRole.ofCode?_eq_none h]
  · simp [CaptureRole.ofCode?, State.withLine, State.withTicket, gradeOk, Nat.not_le.2 h]

/-- The check of R41 passes on an unmarked line whose place for the record is free, and for a CHAIN with a gross and room for the
new line. -/
theorem captureCheck_eq_none {role : CaptureRole} {t : Ticket} {ln : Line} (hm : ln.mark = none)
    (h1 : role = .gross → ln.gross = none) (h2 : role = .tare → ln.tare = none)
    (h3 : role = .chain → ln.tare = none ∧ ln.gross ≠ none ∧ t.lines.length < 8) : captureCheck role t ln = none := by
  cases role with
  | gross => simp [captureCheck, hm, h1 rfl]
  | tare => simp [captureCheck, hm, h2 rfl]
  | chain =>
    obtain ⟨ht, hg, hn⟩ := h3 rfl
    have room : ¬Config.maxLines ≤ t.lines.length := Nat.not_le.2 hn
    simp [captureCheck, hm, ht, hg, room]

/-- The check of R41 answers STATE on a marked line and on one whose place for the record is taken. -/
theorem captureCheck_state {role : CaptureRole} {t : Ticket} {ln : Line}
    (h : ln.mark ≠ none ∨ (role = .gross ∧ ln.gross ≠ none) ∨ (role ≠ .gross ∧ ln.tare ≠ none)) :
    captureCheck role t ln = some .state := by
  have taken : ∀ o : Bool, o = true ∨ ln.mark ≠ none → (o || ln.mark.isSome) = true := fun o ho => by
    rw [Bool.or_eq_true, Option.isSome_iff_ne_none]; exact ho
  cases role with
  | gross =>
    exact if_pos (taken _ (by simpa [Option.isSome_iff_ne_none, or_comm] using h))
  | tare =>
    exact if_pos (taken _ (by simpa [Option.isSome_iff_ne_none, or_comm] using h))
  | chain =>
    exact if_pos (taken _ (by simpa [Option.isSome_iff_ne_none, or_comm] using h))

/-! ### Captures that wait (R17, R42, R59) -/

/-- The entry of a plate is missing exactly when no entry carries it (R58). -/
theorem State.tareEntry?_eq_none (s : State) (plate : Text) : s.tareEntry? plate = none ↔ ∀ e ∈ s.tares, e.plate ≠ plate := by
  simp [State.tareEntry?]

/-- STORE TARE that names a plate and a channel, with room for the plate, requests its capture (R59). -/
theorem storeTare_requested {k : Packet} {s : State} {plate : Text} {c : ChannelId} (h : plate ≠ []) (hp : plateOk plate = true)
    (hr : s.tares.length < 64 ∨ ∃ e ∈ s.tares, e.plate = upperCase plate) :
    storeTare k ⟨plate, c.val⟩ s = s.requestCapture c (.tare (upperCase plate)) none k := by
  have hroom : ¬((s.tareEntry? (upperCase plate)).isNone ∧ Config.maxTares ≤ s.tares.length) := by
    rw [Option.isNone_iff_eq_none, State.tareEntry?_eq_none]
    rintro ⟨hno, hfull⟩
    rcases hr with hr | ⟨e, he, hpl⟩
    · exact absurd hfull (Nat.not_le.2 hr)
    · exact hno e he hpl
  unfold storeTare
  dsimp only
  rw [show presentPlateOk plate = true by simp [presentPlateOk, hp, h], indexOf?_val]
  exact if_neg hroom

/-- A plate in its form has at most 10 characters. -/
theorem length_le_of_plateOk {plate : Text} (h : plateOk plate = true) : plate.length ≤ 10 := by
  simp only [plateOk, Bool.and_eq_true, decide_eq_true_eq] at h
  exact h.1

/-- Settles O23. -/
theorem capturesWait : Obligations.CapturesWait := by
  refine ⟨fun k s c h hr h1 h2 h3 => ⟨?_, ?_⟩, ?_⟩
  · intro n l role grade t ln hn1 hn2 hl1 hl2 hg ht ho hln hm hgr hta hch hp
    have hline : (s.hunt k.port).OpenLine n l t ln :=
      ⟨(ticketNumberOk_iff n).2 ⟨hn1, hn2⟩, (positionOk_iff l).2 ⟨hl1, hl2⟩, ht, ho, hln⟩
    have hparse : CaptureArgs.parse k.params = some ⟨n, l, role.code, c.val, grade⟩ := by
      rw [hp]
      exact CaptureArgs.parse_bytes n l role.code c grade (by omega) (by omega) (by cases role <;> decide) (by omega) (by omega)
    refine (takeCommand_carriedOut (capture k) h hr hparse).trans ?_
    rw [capture_checked hline role.ofCode?_code (fun _ => hg) (captureCheck_eq_none hm hgr hta hch), Option.elim,
      State.requestCapture_motion (s := s.hunt k.port) _ _ _ h1 h2 h3]
    exact congrArg Host.Outcome.next ((s.placeCapture_hunt c _ _ k).trans (by rw [State.setMark_line (s := s.hunt k.port) ht]; rfl))
  · intro plate hne hok hroom hp
    have hparse : PlateByteArgs.parse k.params = some ⟨plate, c.val⟩ := by
      rw [hp]
      exact PlateByteArgs.parse_bytes plate c ((length_le_of_plateOk hok).trans (by decide)) (by omega)
    refine (takeCommand_carriedOut (storeTare k) h hr hparse).trans ?_
    rw [storeTare_requested (s := s.hunt k.port) hne hok hroom, State.requestCapture_motion (s := s.hunt k.port) _ _ _ h1 h2 h3]
    exact congrArg Host.Outcome.next (s.placeCapture_hunt c _ _ k)
  · intro k s n l role channel grade h hr hn1 hn2 hl1 hl2 hro hc hg hp refused
    obtain ⟨c, rfl⟩ : ∃ c : ChannelId, channel = c.val := ⟨⟨channel, by omega⟩, rfl⟩
    have hparse : CaptureArgs.parse k.params = some ⟨n, l, role, c.val, grade⟩ := by
      rw [hp]
      exact CaptureArgs.parse_bytes n l role c grade (by omega) (by omega) hro (by omega) hg
    have refuse : ∀ reason, capture k ⟨n, l, role, c.val, grade⟩ (s.hunt k.port) = (s.hunt k.port).refuse reason →
        refused reason := fun reason e => (takeCommand_carriedOut (capture k) h hr hparse).trans (by rw [e]; rfl)
    refine ⟨fun hb => refuse _ (capture_range hb), fun t ln ht ho hln hrole hgrade => ?_⟩
    have hline : (s.hunt k.port).OpenLine n l t ln :=
      ⟨(ticketNumberOk_iff n).2 ⟨hn1, hn2⟩, (positionOk_iff l).2 ⟨hl1, hl2⟩, ht, ho, hln⟩
    obtain ⟨r, rfl⟩ : ∃ r : CaptureRole, role = r.code := by
      match role, hrole with
      | 0, _ => exact ⟨.gross, rfl⟩
      | 1, _ => exact ⟨.tare, rfl⟩
      | 2, _ => exact ⟨.chain, rfl⟩
    have check : ∀ reason, captureCheck r t ln = some reason → refused reason := fun reason e =>
      refuse _ (capture_checked hline r.ofCode?_code (fun e => hgrade (by rw [e]; rfl)) e)
    refine ⟨fun hb => check _ (captureCheck_state ?_), fun hch hm hta => ?_⟩
    · cases r <;> simpa [CaptureRole.code] using hb
    · obtain rfl : r = .chain := by
        cases r with
        | chain => rfl
        | gross => cases hch
        | tare => cases hch
      exact ⟨fun hgr => check _ (by simp [captureCheck, hm, hta, hgr]),
        fun hgr hfull => check _ (by simp [captureCheck, hm, hta, hgr, Config.maxLines, hfull])⟩

/-! ### Captures that complete (R20, R44 to R46) -/

/-- What refuses a line capture at its completion: the class of its reading, and the tests of its role. -/
def lineFault (role : CaptureRole) (d : Nat) (r : Reading) (lines : Nat) : Option Reason :=
  if r.readingClass = .over ∨ r.readingClass = .under then some .weightRange else lineTest role d r.weight lines

/-- The completion of a line capture (R20): refused with the mark cleared, or recorded with a number used. -/
theorem State.completeCapture_line {s : State} {n l grade : Nat} {role : CaptureRole} {t : Ticket} {ln : Line} (c : ChannelId)
    (r : Reading) (ht : s.ticket? n = some t) (hl : t.line? l = some ln) :
    s.completeCapture (.line n l role grade) c r =
      (lineFault role (s.channel c).config.division r t.lines.length).elim
        ((s.putTicket (t.recordWeighing l role grade (s.weighingOf c r))).giveWeighing,
          lineCaptureAnswer role r s.nextWeighing (t.recordWeighing l role grade (s.weighingOf c r)).lines.length)
        fun reason => (s.putTicket (t.changeLine l fun ln => { ln with mark := none }), .stop reason 0) := by
  have fail : ∀ reason, s.failCapture (.line n l role grade) reason =
      (s.putTicket (t.changeLine l fun ln => { ln with mark := none }), .stop reason 0) := fun reason => by
    rw [State.failCapture, State.setMark_line ht]
  unfold State.completeCapture lineFault
  split_ifs
  · exact fail _
  · dsimp only
    rw [ht]
    dsimp only
    rw [hl]
    dsimp only
    cases lineTest role (s.channel c).config.division r.weight t.lines.length with
    | none => rfl
    | some reason => exact fail reason

/-- One note that may arise (R179). -/
theorem answerWith_note (b : Bool) (note : Note) (data : List Byte) :
    answerWith (notesOf [(b, note)]) data = if b then .noted [note] data else .success data := by
  cases b <;> rfl

/-- Settles O25. -/
theorem capturesRecordAtOnce : Obligations.CapturesRecordAtOnce := by
  intro k s c n l grade side t ln r h hr h1 h2 h3 h4 hn1 hn2 hl1 hl2 hg ht ho hln hm hgr hta hp w clear
  obtain ⟨role, hrole⟩ : ∃ role : CaptureRole, role = if side = .gross then .gross else .tare := ⟨_, rfl⟩
  have hcode : role.code = if side = .gross then 0 else 1 := by rw [hrole]; cases side <;> rfl
  have hline : (s.hunt k.port).OpenLine n l t ln :=
    ⟨(ticketNumberOk_iff n).2 ⟨hn1, hn2⟩, (positionOk_iff l).2 ⟨hl1, hl2⟩, ht, ho, hln⟩
  have hparse : CaptureArgs.parse k.params = some ⟨n, l, role.code, c.val, grade⟩ := by
    rw [hp, ← hcode]
    exact CaptureArgs.parse_bytes n l role.code c grade (by omega) (by omega) (by cases role <;> decide) (by omega) hg
  have hcheck : captureCheck role t ln = none := by
    rw [hrole]
    cases side with
    | gross => simp [captureCheck, hm, hgr rfl]
    | tare => simp [captureCheck, hm, hta rfl]
  have hchain : role ≠ .chain := by rw [hrole]; cases side <;> decide
  refine (takeCommand_carriedOut (capture k) h hr hparse).trans ?_
  rw [capture_checked hline role.ofCode?_code (fun e => absurd e hchain) hcheck, Option.elim,
    State.requestCapture_stable (s := s.hunt k.port) (r := r) _ _ _ h1 h2 h3 h4, State.completeCapture_line (s := s.hunt k.port) c r ht hln]
  by_cases hcl : r.readingClass = .over ∨ r.readingClass = .under
  · rw [lineFault, if_pos hcl, if_pos hcl]
    rfl
  rw [lineFault, if_neg hcl, if_neg hcl, State.channel_hunt, hrole]
  cases side with
  | gross =>
    by_cases hw : r.weight < 20 * (s.channel c).config.division <;>
      simp only [reduceCtorEq, true_and, false_and, if_true, if_false, hw, lineTest, lineCaptureAnswer, answerWith_note,
        decide_eq_true_eq, List.append_nil, Option.elim] <;> rfl
  | tare =>
    by_cases hw : r.weight < 0 <;>
      simp only [reduceCtorEq, true_and, false_and, if_true, if_false, hw, lineTest, lineCaptureAnswer, answerWith_note,
        decide_eq_true_eq, List.append_nil, Option.elim] <;> rfl

end Sys2Proof.Machine
end

section
/-! The ends of a waiting capture: by the timers of its channel and of the capture (R8, R21, R22, R47), and what the ports hear
when a channel changes (R10). -/

namespace Sys2Proof.Machine

/-! ### What the ports hear (R188) -/

/-- A state whose clock and ports are another's hears alike. -/
theorem State.hearsAlike_of_ports {s t : State} (hc : t.clock = s.clock) (hp : t.ports = s.ports) : s.HearsAlike t :=
  ⟨hc, fun p => by simp only [State.port, hp, and_self]⟩

/-- A reply joins an output queue, which no event reads. -/
theorem State.hearsAlike_reply (s : State) (p : PortId) (tag : Byte) (a : Answer) : s.HearsAlike (s.reply p tag a) := by
  refine ⟨rfl, fun q => ?_⟩
  rw [State.port_reply]
  split_ifs with e
  · subst e; exact ⟨rfl, rfl, rfl⟩
  · exact ⟨rfl, rfl, rfl⟩

/-- A freed slot touches no attention queue. -/
theorem State.hearsAlike_freeSlot (s : State) (c : ChannelId) : s.HearsAlike (s.freeSlot c) := by
  cases h : (s.channel c).slot with
  | none => rw [State.freeSlot_none h]; exact .refl s
  | some cap =>
    refine ⟨by rw [State.freeSlot_eq], fun q => ?_⟩
    rw [State.port_freeSlot h]
    split_ifs <;> exact ⟨rfl, rfl, rfl⟩

/-- An ended capture touches no attention queue. -/
theorem State.hearsAlike_endCapture (s : State) (c : ChannelId) (a : Answer) : s.HearsAlike (s.endCapture c a) := by
  cases h : (s.channel c).slot with
  | none => rw [State.endCapture_none a h]; exact .refl s
  | some cap => rw [State.endCapture_some a h]; exact (s.hearsAlike_freeSlot c).trans (State.hearsAlike_reply _ _ _ _)

/-- The events of a channel's change: one SCALE event when its state or ZERO_REQUIRED changed (R10). -/
def Channel.changeEvents (c : ChannelId) (old new : Channel) : List Event :=
  if old.state = new.state ∧ old.zeroRequired = new.zeroRequired then [] else [.scale c new.state new.zeroRequired]

/-- A changed channel tells the events of its change. -/
theorem State.hearsAlike_changeChannel (s : State) (c : ChannelId) (x : Channel) :
    ((Channel.changeEvents c (s.channel c) x).foldl State.raise s).HearsAlike (s.changeChannel c x) := by
  unfold State.changeChannel Channel.changeEvents
  split_ifs
  · exact State.hearsAlike_of_ports rfl rfl
  · exact .raise (State.hearsAlike_of_ports rfl rfl) _

/-! ### A channel changed, and its waiting capture ended (R22) -/

/-- The channels after a change of one of them. -/
theorem State.channel_changeChannel_eq (s : State) (c d : ChannelId) (x : Channel) :
    (s.changeChannel c x).channel d = if d = c then x else s.channel d := by
  rw [State.channel_changeChannel, State.channel_setChannel]
  simp only [eq_comm]

/-- The tickets after a slot has been freed: its line's mark is cleared (R47). -/
theorem State.ticket?_freeSlot {s : State} {c : ChannelId} {cap : Capture} {n k grade : Nat} {role : CaptureRole} {t : Ticket}
    (h : (s.channel c).slot = some cap) (ho : cap.owner = .line n k role grade) (ht : s.ticket? n = some t) (m : Nat) :
    (s.freeSlot c).ticket? m =
      if m = n then some (t.changeLine k fun ln => { ln with mark := none }) else s.ticket? m := by
  have hn : n = t.number := (State.ticket?_number ht).symm
  rw [State.freeSlot_some h, ho, State.setMark_line (s := s.setChannel c _) ht, State.ticket?_setPort,
    State.ticket?_putTicket, Ticket.changeLine_number, ← hn]
  split_ifs with e
  · rw [e, State.ticket?_setChannel, ht]; rfl
  · rfl

theorem State.ticket?_endCapture {s : State} {c : ChannelId} {cap : Capture} {n k grade : Nat} {role : CaptureRole} {t : Ticket}
    (a : Answer) (h : (s.channel c).slot = some cap) (ho : cap.owner = .line n k role grade) (ht : s.ticket? n = some t) :
    (s.endCapture c a).ticket? n = some (t.changeLine k fun ln => { ln with mark := none }) := by
  rw [State.endCapture_some a h, State.ticket?_reply, State.ticket?_freeSlot h ho ht, if_pos rfl]

/-- A channel changed and its waiting capture ended, as a fault and a stale timer do (R6, R8). -/
def State.changeAndEnd (s : State) (c : ChannelId) (x : Channel) (a : Answer) : State := (s.changeChannel c x).endCapture c a

section
variable (s : State) (c : ChannelId) (x : Channel) (a : Answer)

theorem State.channel_changeAndEnd (d : ChannelId) :
    (s.changeAndEnd c x a).channel d = if d = c then { x with slot := none } else s.channel d := by
  rw [State.changeAndEnd, State.channel_endCapture, State.channel_changeChannel_eq, State.channel_changeChannel_eq, if_pos rfl]
  split_ifs <;> rfl

/-- Besides the channels, the ports and the tickets nothing changes. -/
theorem State.changeAndEnd_eq : s.changeAndEnd c x a = { s with
    channels := (s.changeAndEnd c x a).channels, ports := (s.changeAndEnd c x a).ports
    tickets := (s.changeAndEnd c x a).tickets } := by
  unfold State.changeAndEnd
  rw [State.endCapture_eq, State.changeChannel_eq]

theorem State.hearsAlike_changeAndEnd :
    ((Channel.changeEvents c (s.channel c) x).foldl State.raise s).HearsAlike (s.changeAndEnd c x a) :=
  (s.hearsAlike_changeChannel c x).trans (State.hearsAlike_endCapture _ c a)

variable {s c x}

/-- The waiting capture's port is answered, and its line's mark cleared. -/
theorem State.changeAndEnd_answers {cap : Capture} (h : x.slot = some cap) :
    (((s.changeAndEnd c x a).port cap.port).out = (s.port cap.port).out ++ [.reply { tag := cap.tag, answer := a }] ∧
      ((s.changeAndEnd c x a).port cap.port).busy = none) ∧
      ∀ n k role grade t, cap.owner = .line n k role grade → s.ticket? n = some t →
        (s.changeAndEnd c x a).ticket? n = some (t.changeLine k fun ln => { ln with mark := none }) := by
  have hs : ((s.changeChannel c x).channel c).slot = some cap := by rw [State.channel_changeChannel_eq, if_pos rfl, h]
  refine ⟨?_, fun n k role grade t ho ht => State.ticket?_endCapture a hs ho ?_⟩
  · rw [State.changeAndEnd, State.port_endCapture a hs, if_pos rfl]
    exact ⟨congrArg (· ++ _) (State.changeChannel_port Port.out Port.offer_out s c x cap.port), rfl⟩
  · rw [State.ticket?_congr (s := s) (by rw [State.changeChannel_eq]), ht]

/-- Without a waiting capture the tickets stay. -/
theorem State.changeAndEnd_tickets (h : x.slot = none) : (s.changeAndEnd c x a).tickets = s.tickets := by
  rw [State.changeAndEnd, State.endCapture_none, State.changeChannel_eq]
  rw [State.channel_changeChannel_eq, if_pos rfl, h]

end

/-- Events told from a state that hears alike. -/
theorem State.HearsAlike.tells_trans {s t u : State} {es : List Event} (h : s.HearsAlike t)
    (h' : (es.foldl State.raise t).HearsAlike u) : s.tells u es := ((h.foldl_raise es).trans h').tells

/-- Settles O22. -/
theorem scaleTimersEndCaptures : Obligations.ScaleTimersEndCaptures := by
  intro c s hrun
  refine ⟨fun time hst => ?_, fun cap hs => ?_, fun hst => ?_, fun hs => ?_⟩
  · have hex : exec (.staleExpiry c) s = .next ((s.reach time).changeAndEnd c
        { s.channel c with window := [], state := .noData, stale := none } (.stop .noData 0)) := by
      change Host.Outcome.next _ = _
      simp only [State.whileRunning, hrun, if_true, State.expireStale, hst]
      rfl
    refine ⟨_, hex, ?_, ?_, fun cap hs => ?_, fun hs => ?_, ?_, ?_, ?_, fun e he => ?_⟩
    · rw [State.channel_changeAndEnd, if_pos rfl]
    · have hev := (s.reach time).hearsAlike_changeAndEnd c
        { s.channel c with window := [], state := .noData, stale := none } (.stop .noData 0)
      simp only [Channel.changeEvents, State.channel_reach, and_true] at hev
      exact State.HearsAlike.tells_trans (State.hearsAlike_of_ports (t := s.reach time) rfl rfl) hev
    · obtain ⟨⟨hout, hbusy⟩, hmark⟩ := State.changeAndEnd_answers (s := s.reach time) (c := c)
        (x := { s.channel c with window := [], state := .noData, stale := none }) (.stop .noData 0) hs
      exact ⟨hout, hbusy, hmark⟩
    · exact State.changeAndEnd_tickets (s := s.reach time) _ hs
    · rw [State.changeAndEnd_eq]; rfl
    · rw [State.changeAndEnd_eq]; rfl
    · rw [State.changeAndEnd_eq]; rfl
    · rw [State.channel_changeAndEnd, if_neg he]; rfl
  · have hex : exec (.captureTimeout c) s = .next ((s.reach cap.expiry).endCapture c (.stop .unstable 0)) := by
      change Host.Outcome.next _ = _
      simp only [State.whileRunning, hrun, if_true, State.expireCapture, hs]
    have hs' : ((s.reach cap.expiry).channel c).slot = some cap := hs
    refine ⟨_, hex, ?_, ?_, fun n k role grade tk ho ht => ?_, ?_, ?_, ?_, fun e he => ?_, fun q hq => ?_⟩
    · rw [State.channel_endCapture, if_pos rfl]; rfl
    · rw [State.port_endCapture _ hs', if_pos rfl]; rfl
    · exact State.ticket?_endCapture (s := s.reach cap.expiry) _ hs' ho ht
    · rw [State.endCapture_eq]; rfl
    · rw [State.endCapture_eq]; rfl
    · rw [State.endCapture_eq]; rfl
    · rw [State.channel_endCapture, if_neg he]; rfl
    · rw [State.port_endCapture _ hs', if_neg hq]; rfl
  · change Host.Outcome.next _ = _
    simp only [State.whileRunning, hrun, if_true, State.expireStale, hst]
  · change Host.Outcome.next _ = _
    simp only [State.whileRunning, hrun, if_true, State.expireCapture, hs]

end Sys2Proof.Machine
end

section
/-! The frames of the reading heads (R1, R6, R7, R19, R20): an arrival at its channel, the waiting capture that it completes, and the
frames that are discarded. -/

namespace Sys2Proof.Machine

/-! ### What a completion changes and leaves (R20) -/

/-- A completion writes the tickets, the tares and the weighing counter alone. -/
theorem State.completeCapture_eq (s : State) (owner : CaptureOwner) (c : ChannelId) (r : Reading) :
    (s.completeCapture owner c r).1 = { s with
      tickets := (s.completeCapture owner c r).1.tickets, tares := (s.completeCapture owner c r).1.tares
      nextWeighing := (s.completeCapture owner c r).1.nextWeighing } := by
  have fail : ∀ reason, (s.failCapture owner reason).1 = { s with
      tickets := (s.failCapture owner reason).1.tickets, tares := (s.failCapture owner reason).1.tares
      nextWeighing := (s.failCapture owner reason).1.nextWeighing } := fun reason => by
    rw [State.failCapture, State.setMark_eq]
  unfold State.completeCapture
  split_ifs
  · exact fail _
  cases owner with
  | tare plate =>
    dsimp only
    split
    · exact fail _
    · rfl
  | line n k role grade =>
    dsimp only
    split
    · rfl
    · split
      · rfl
      · split
        · exact fail _
        · rfl

/-- A line changed twice is changed once by both. -/
theorem Ticket.changeLine_changeLine (t : Ticket) (k : Nat) (f g : Line → Line) :
    (t.changeLine k g).changeLine k f = t.changeLine k (f ∘ g) := by
  unfold Ticket.changeLine
  split_ifs
  · rfl
  · simp [List.modify_modify_eq]

/-- The mark a record clears may have been cleared before. -/
theorem Ticket.recordWeighing_unmarked (t : Ticket) (k : Nat) (role : CaptureRole) (grade : Nat) (w : Weighing) :
    (t.changeLine k fun ln => { ln with mark := none }).recordWeighing k role grade w = t.recordWeighing k role grade w := by
  cases role <;> simp only [Ticket.recordWeighing, Ticket.changeLine_changeLine] <;> rfl

@[simp] theorem Ticket.recordWeighing_number (t : Ticket) (k : Nat) (role : CaptureRole) (grade : Nat) (w : Weighing) :
    (t.recordWeighing k role grade w).number = t.number := by
  cases role <;> simp [Ticket.recordWeighing]

/-- The record of a CHAIN: the line's tare, and the new last line (R46). -/
theorem Ticket.recordWeighing_chain (t : Ticket) (k : Nat) (grade : Nat) (w : Weighing) :
    t.recordWeighing k .chain grade w = { t with
      lines := (t.changeLine k fun ln => { ln with tare := some w, mark := none }).lines ++
        [{ grade := grade, gross := some w, tare := none, deduction := none, mark := none, pricing := none }] } := by
  unfold Ticket.recordWeighing Ticket.changeLine
  split_ifs <;> rfl

/-! ### An arrival at its channel (R4, R7, R19) -/

/-- The entry of an arrival (R2, R3). -/
def Channel.entry (ch : Channel) (raw : Int) (high : Bool) : Reading :=
  ⟨raw, roundWeight ch.config.division ch.zero raw, classify ch.config high (roundWeight ch.config.division ch.zero raw)⟩

/-- The window after an arrival: at most W entries, the newest last (R4). -/
theorem Channel.join_window (ch : Channel) (now : Nat) (raw : Int) (high : Bool) :
    (ch.join now raw high).window =
      (ch.window ++ [ch.entry raw high]).drop (ch.window.length + 1 - ch.config.windowLength) := by
  simp only [Channel.join, joinWindow, List.length_append, List.length_singleton]
  rfl

theorem Channel.join_getLast? {ch : Channel} (now : Nat) (raw : Int) (high : Bool) (h : 1 ≤ ch.config.windowLength) :
    (ch.join now raw high).window.getLast? = some (ch.entry raw high) := joinWindow_getLast? _ _ h

section
variable {s : State} {c : ChannelId} {raw : Int} {high : Bool}

/-- An arrival that does not take its channel from MOTION to STABLE completes nothing (R19). -/
theorem State.arrive_of_not_settling
    (h : ¬((s.channel c).state = .motion ∧ ((s.channel c).join s.timebase raw high).state = .stable)) :
    s.arrive c raw high = s.changeChannel c ((s.channel c).join s.timebase raw high) := by
  unfold State.arrive
  exact if_neg h

/-- An arrival at a channel whose slot is free completes nothing. -/
theorem State.arrive_of_free (h : (s.channel c).slot = none) :
    s.arrive c raw high = s.changeChannel c ((s.channel c).join s.timebase raw high) := by
  unfold State.arrive
  dsimp only
  split_ifs
  · have hs : ((s.changeChannel c ((s.channel c).join s.timebase raw high)).channel c).slot = none := by
      rw [State.channel_changeChannel_eq, if_pos rfl]; exact h
    rw [State.completeWaiting, hs]
  · rfl

/-- The state in which an arrival's waiting capture completes: the channel changed, and its slot freed (R19). -/
def State.arrived (s : State) (c : ChannelId) (raw : Int) (high : Bool) : State :=
  (s.changeChannel c ((s.channel c).join s.timebase raw high)).freeSlot c

/-- An arrival that takes its channel from MOTION to STABLE completes the waiting capture and answers its port (R19). -/
theorem State.arrive_of_settling {cap : Capture} (hs : (s.channel c).slot = some cap) (hw : 1 ≤ (s.channel c).config.windowLength)
    (h : (s.channel c).state = .motion ∧ ((s.channel c).join s.timebase raw high).state = .stable) :
    s.arrive c raw high =
      ((s.arrived c raw high).completeCapture cap.owner c ((s.channel c).entry raw high)).1.reply cap.port cap.tag
        ((s.arrived c raw high).completeCapture cap.owner c ((s.channel c).entry raw high)).2 := by
  have hch := (s.channel_changeChannel_eq c c ((s.channel c).join s.timebase raw high)).trans (if_pos rfl)
  have hs' : ((s.channel c).join s.timebase raw high).slot = some cap := hs
  unfold State.arrive
  dsimp only
  rw [if_pos h, State.completeWaiting, hch, hs', Channel.join_getLast? _ _ _ hw]
  rfl

/-- The channels where the capture completes: the arrival has joined, and the slot is free. -/
theorem State.channel_arrived (d : ChannelId) : (s.arrived c raw high).channel d =
    if d = c then { (s.channel c).join s.timebase raw high with slot := none } else s.channel d := by
  rw [State.arrived, State.channel_freeSlot, State.channel_changeChannel_eq, State.channel_changeChannel_eq, if_pos rfl]
  split_ifs <;> rfl

/-- Where the capture completes the channels, the ports and the tickets alone have changed. -/
theorem State.arrived_eq : s.arrived c raw high = { s with
    channels := (s.arrived c raw high).channels, ports := (s.arrived c raw high).ports
    tickets := (s.arrived c raw high).tickets } := by
  unfold State.arrived
  rw [State.freeSlot_eq, State.changeChannel_eq]

variable (high) in
/-- Where the capture completes its port has no command in progress and its output queue as before. -/
theorem State.port_arrived {cap : Capture} (hs : (s.channel c).slot = some cap) :
    ((s.arrived c raw high).port cap.port).busy = none ∧
      ((s.arrived c raw high).port cap.port).out = (s.port cap.port).out := by
  have hs' : ((s.changeChannel c ((s.channel c).join s.timebase raw high)).channel c).slot = some cap := by
    rw [State.channel_changeChannel_eq, if_pos rfl]; exact hs
  rw [State.arrived, State.port_freeSlot hs', if_pos rfl]
  exact ⟨rfl, State.changeChannel_port Port.out Port.offer_out s c _ cap.port⟩

/-- Where a line capture completes its line's mark is cleared, and every other ticket as before. -/
theorem State.ticket?_arrived {cap : Capture} {n k grade : Nat} {role : CaptureRole} {t : Ticket}
    (hs : (s.channel c).slot = some cap) (ho : cap.owner = .line n k role grade) (ht : s.ticket? n = some t) (m : Nat) :
    (s.arrived c raw high).ticket? m =
      if m = n then some (t.changeLine k fun ln => { ln with mark := none }) else s.ticket? m := by
  have hs' : ((s.changeChannel c ((s.channel c).join s.timebase raw high)).channel c).slot = some cap := by
    rw [State.channel_changeChannel_eq, if_pos rfl]; exact hs
  have hsame := State.ticket?_congr (s := s) (t := s.changeChannel c ((s.channel c).join s.timebase raw high))
    (by rw [State.changeChannel_eq])
  rw [State.arrived, State.ticket?_freeSlot hs' ho ((hsame n).trans ht), hsame]

/-- Where a tare capture completes the tickets are as before. -/
theorem State.tickets_arrived {cap : Capture} {plate : Text} (hs : (s.channel c).slot = some cap) (ho : cap.owner = .tare plate) :
    (s.arrived c raw high).tickets = s.tickets := by
  have hs' : ((s.changeChannel c ((s.channel c).join s.timebase raw high)).channel c).slot = some cap := by
    rw [State.channel_changeChannel_eq, if_pos rfl]; exact hs
  rw [State.arrived, State.freeSlot_some hs', ho, State.setMark_tare, State.changeChannel_eq]
  rfl

/-- What an arrival tells: the events of its channel's change. -/
theorem State.hearsAlike_arrive (hw : 1 ≤ (s.channel c).config.windowLength) :
    ((Channel.changeEvents c (s.channel c) ((s.channel c).join s.timebase raw high)).foldl State.raise s).HearsAlike
      (s.arrive c raw high) := by
  have hch := s.hearsAlike_changeChannel c ((s.channel c).join s.timebase raw high)
  cases hs : (s.channel c).slot with
  | none => rw [State.arrive_of_free hs]; exact hch
  | some cap =>
    by_cases h : (s.channel c).state = .motion ∧ ((s.channel c).join s.timebase raw high).state = .stable
    · rw [State.arrive_of_settling hs hw h, State.completeCapture_eq]
      exact (hch.trans (State.hearsAlike_freeSlot _ c)).trans
        ((State.hearsAlike_of_ports rfl rfl).trans (State.hearsAlike_reply _ _ _ _))
    · rw [State.arrive_of_not_settling h]; exact hch

/-- The channels after an arrival: it has joined its channel, whose slot is free once the channel has settled. -/
theorem State.channel_arrive (hw : 1 ≤ (s.channel c).config.windowLength) (d : ChannelId) :
    (s.arrive c raw high).channel d =
      if d = c then { (s.channel c).join s.timebase raw high with
        slot := if (s.channel c).state = .motion ∧ ((s.channel c).join s.timebase raw high).state = .stable then none
          else (s.channel c).slot }
      else s.channel d := by
  cases hs : (s.channel c).slot with
  | none =>
    have hj : ((s.channel c).join s.timebase raw high).slot = none := hs
    rw [State.arrive_of_free hs, State.channel_changeChannel_eq, ite_self, ← hj]
  | some cap =>
    by_cases h : (s.channel c).state = .motion ∧ ((s.channel c).join s.timebase raw high).state = .stable
    · rw [State.arrive_of_settling hs hw h, State.channel_reply, State.completeCapture_eq, if_pos h]
      exact State.channel_arrived d
    · have hj : ((s.channel c).join s.timebase raw high).slot = some cap := hs
      rw [State.arrive_of_not_settling h, State.channel_changeChannel_eq, if_neg h, ← hj]

end

end Sys2Proof.Machine
end

section
/-! READING_FRAME (R1, R4, R6, R7, R10, R19, R20, R22, R44 to R46, R61): the waiting capture's completion by its owner, and what a
frame of each head status does. -/

namespace Sys2Proof.Machine

/-! ### A tare capture's completion (R61) -/

/-- What refuses a tare capture at its completion: the class of its reading, and the tests of R61. -/
def tareFault (s : State) (plate : Text) (d : Nat) (r : Reading) : Option Reason :=
  if r.readingClass = .over ∨ r.readingClass = .under then some .weightRange else tareTest s plate d r

/-- The completion of a tare capture: refused, or stored with a number used. -/
theorem State.completeCapture_tare (s : State) (plate : Text) (c : ChannelId) (r : Reading) :
    s.completeCapture (.tare plate) c r = (tareFault s plate (s.channel c).config.division r).elim
      ((s.storeTare { plate := plate, tare := s.weighingOf c r, channel := c }).giveWeighing,
        .success (numBytes 4 s.nextWeighing ++ yesNoBytes (s.tares.any fun e => decide (e.plate = plate))))
      fun reason => (s, .stop reason 0) := by
  unfold State.completeCapture tareFault
  split_ifs
  · rfl
  · dsimp only
    cases tareTest s plate (s.channel c).config.division r <;> rfl

/-! ### The tests of a completion, by the class and the weight -/

section
variable {r : Reading} {d lines : Nat}

theorem not_over_or_under (h : r.readingClass = .normal ∨ r.readingClass = .margin) :
    ¬(r.readingClass = .over ∨ r.readingClass = .under) := by
  rcases h with h | h <;> simp [h]

theorem lineFault_gross (h : r.readingClass = .normal ∨ r.readingClass = .margin) :
    lineFault .gross d r lines = if r.weight < 20 * d then some .belowMin else none := if_neg (not_over_or_under h)

theorem lineFault_tare (h : r.readingClass = .normal ∨ r.readingClass = .margin) :
    lineFault .tare d r lines = if r.weight < 0 then some .negativeTare else none := if_neg (not_over_or_under h)

theorem lineFault_chain (h : r.readingClass = .normal ∨ r.readingClass = .margin) :
    lineFault .chain d r lines =
      if r.weight < 20 * d then some .belowMin else if 8 ≤ lines then some .lineLimit else none :=
  if_neg (not_over_or_under h)

variable {s : State} {plate : Text}

theorem tareFault_of_class (h : r.readingClass ≠ .normal) : tareFault s plate d r = some .weightRange := by
  unfold tareFault tareTest
  match hc : r.readingClass with
  | .normal => exact absurd hc h
  | .margin => rfl
  | .over => rfl
  | .under => rfl

theorem tareFault_normal (h : r.readingClass = .normal) : tareFault s plate d r =
    if r.weight < 20 * d then some .belowMin
    else if (∀ e ∈ s.tares, e.plate ≠ plate) ∧ 64 ≤ s.tares.length then some .tableFull
    else none := by
  simp only [tareFault, tareTest, h, reduceCtorEq, or_self, if_false, List.all_eq_true, Bool.and_eq_true, decide_eq_true_eq]
  rfl

end

/-- The answer of a completed line capture, noting a MARGIN reading (R44, R46). -/
theorem lineCaptureAnswer_eq (role : CaptureRole) (r : Reading) (number lines : Nat) :
    lineCaptureAnswer role r number lines =
      let data := if role = .chain then numBytes 4 number ++ numBytes 1 lines else numBytes 4 number
      if r.readingClass = .margin then .noted [.marginWeight] data else .success data := by
  unfold lineCaptureAnswer
  rw [answerWith_note]
  cases role <;> simp

/-! ### The capture that an arrival completes (R19) -/

/-- The port of a capture that waited has no command in progress, and its answer has joined the output queue. -/
def State.answersWaiting (s t : State) (cap : Capture) (a : Answer) : Prop :=
  (t.port cap.port).busy = none ∧ (t.port cap.port).out = (s.port cap.port).out ++ [.reply { tag := cap.tag, answer := a }]

section
variable {s : State} {c : ChannelId} {raw : Int} {high : Bool} {cap : Capture}

/-- A reply to the waiting port after the capture's completion. -/
theorem State.answersWaiting_reply (hs : (s.channel c).slot = some cap) {x : State} (hx : x.ports = (s.arrived c raw high).ports)
    (a : Answer) : s.answersWaiting (x.reply cap.port cap.tag a) cap a := by
  obtain ⟨hbusy, hout⟩ := State.port_arrived (raw := raw) high hs
  have hport : x.port cap.port = (s.arrived c raw high).port cap.port := by simp only [State.port, hx]
  rw [State.answersWaiting, State.port_reply, if_pos rfl, ← hout, ← hport]
  exact ⟨(congrArg Port.busy hport).trans hbusy, rfl⟩

variable (hs : (s.channel c).slot = some cap) (hw : 1 ≤ (s.channel c).config.windowLength)
  (h : (s.channel c).state = .motion ∧ ((s.channel c).join s.timebase raw high).state = .stable)
include hs hw h

section
variable {n l grade : Nat} {role : CaptureRole} {t : Ticket} {ln : Line} (ho : cap.owner = .line n l role grade)
  (ht : s.ticket? n = some t) (hl : t.line? l = some ln)
include ho ht hl

/-- The arrival that completes a line capture. -/
theorem State.arrive_line : s.arrive c raw high =
    (lineFault role (s.channel c).config.division ((s.channel c).entry raw high) t.lines.length).elim
      ((((s.arrived c raw high).putTicket (t.recordWeighing l role grade (s.weighingOf c ((s.channel c).entry raw high)))
        ).giveWeighing).reply cap.port cap.tag (lineCaptureAnswer role ((s.channel c).entry raw high) s.nextWeighing
          (t.recordWeighing l role grade (s.weighingOf c ((s.channel c).entry raw high))).lines.length))
      fun reason => ((s.arrived c raw high).putTicket (t.changeLine l fun ln => { ln with mark := none })).reply cap.port cap.tag
        (.stop reason 0) := by
  have hu : (s.arrived c raw high).ticket? n = some (t.changeLine l fun ln => { ln with mark := none }) := by
    rw [State.ticket?_arrived hs ho ht, if_pos rfl]
  have hlu : (t.changeLine l fun ln => { ln with mark := none }).line? l = some { ln with mark := none } := by
    rw [Ticket.line?_changeLine, if_pos rfl, hl]; rfl
  have hch : ((s.arrived c raw high).channel c).config = (s.channel c).config := by rw [State.channel_arrived, if_pos rfl]; rfl
  have hnext : (s.arrived c raw high).nextWeighing = s.nextWeighing := by rw [State.arrived_eq]
  have hw' : ∀ r, (s.arrived c raw high).weighingOf c r = s.weighingOf c r := fun r => by rw [State.arrived_eq]; rfl
  rw [State.arrive_of_settling hs hw h, ho, State.completeCapture_line c _ hu hlu, hch, hnext, hw', Ticket.recordWeighing_unmarked,
    Ticket.changeLine_changeLine, Ticket.changeLine_length]
  cases lineFault role (s.channel c).config.division ((s.channel c).entry raw high) t.lines.length <;> rfl

/-- A line capture refused at its completion. -/
theorem State.arrive_line_refused {reason : Reason}
    (hf : lineFault role (s.channel c).config.division ((s.channel c).entry raw high) t.lines.length = some reason) :
    s.answersWaiting (s.arrive c raw high) cap (.stop reason 0) ∧ (s.arrive c raw high).nextWeighing = s.nextWeighing ∧
      (s.arrive c raw high).tares = s.tares ∧
      (s.arrive c raw high).ticket? n = some (t.changeLine l fun ln => { ln with mark := none }) := by
  rw [State.arrive_line hs hw h ho ht hl, hf, Option.elim]
  refine ⟨State.answersWaiting_reply (raw := raw) (high := high) hs rfl _, ?_, ?_, ?_⟩
  · rw [State.arrived_eq]; rfl
  · rw [State.arrived_eq]; rfl
  · have hu : (s.arrived c raw high).ticket? n = some (t.changeLine l fun ln => { ln with mark := none }) := by
      rw [State.ticket?_arrived hs ho ht, if_pos rfl]
    rw [State.ticket?_reply, State.ticket?_putTicket_self hu]
    rw [Ticket.changeLine_number, State.ticket?_number ht]

/-- A line capture recorded at its completion. -/
theorem State.arrive_line_recorded
    (hf : lineFault role (s.channel c).config.division ((s.channel c).entry raw high) t.lines.length = none) :
    s.answersWaiting (s.arrive c raw high) cap (lineCaptureAnswer role ((s.channel c).entry raw high) s.nextWeighing
        (t.recordWeighing l role grade (s.weighingOf c ((s.channel c).entry raw high))).lines.length) ∧
      (s.arrive c raw high).nextWeighing = advanceNumber s.nextWeighing ∧
      (s.arrive c raw high).ticket? n =
        some (t.recordWeighing l role grade (s.weighingOf c ((s.channel c).entry raw high))) := by
  rw [State.arrive_line hs hw h ho ht hl, hf, Option.elim]
  refine ⟨State.answersWaiting_reply (raw := raw) (high := high) hs rfl _, ?_, ?_⟩
  · rw [State.arrived_eq]; rfl
  · have hu : (s.arrived c raw high).ticket? n = some (t.changeLine l fun ln => { ln with mark := none }) := by
      rw [State.ticket?_arrived hs ho ht, if_pos rfl]
    rw [State.ticket?_reply, State.ticket?_giveWeighing, State.ticket?_putTicket_self hu]
    rw [Ticket.recordWeighing_number, State.ticket?_number ht]

/-- The completion of a line capture leaves every other ticket. -/
theorem State.arrive_line_others {m : Nat} (hm : m ≠ n) : (s.arrive c raw high).ticket? m = s.ticket? m := by
  have hnum : t.number = n := State.ticket?_number ht
  have hu : (s.arrived c raw high).ticket? m = s.ticket? m := by rw [State.ticket?_arrived hs ho ht, if_neg hm]
  rw [State.arrive_line hs hw h ho ht hl]
  cases lineFault role (s.channel c).config.division ((s.channel c).entry raw high) t.lines.length with
  | none =>
    rw [Option.elim, State.ticket?_reply, State.ticket?_giveWeighing, State.ticket?_putTicket_other, hu]
    rwa [Ticket.recordWeighing_number, hnum]
  | some reason =>
    rw [Option.elim, State.ticket?_reply, State.ticket?_putTicket_other, hu]
    rwa [Ticket.changeLine_number, hnum]

end

section
variable {plate : Text} (ho : cap.owner = .tare plate)
include ho

/-- The arrival that completes a tare capture. -/
theorem State.arrive_tare : s.arrive c raw high =
    (tareFault s plate (s.channel c).config.division ((s.channel c).entry raw high)).elim
      ((((s.arrived c raw high).storeTare ⟨plate, s.weighingOf c ((s.channel c).entry raw high), c⟩).giveWeighing).reply cap.port
        cap.tag (.success (numBytes 4 s.nextWeighing ++ yesNoBytes (s.tares.any fun e => decide (e.plate = plate)))))
      fun reason => (s.arrived c raw high).reply cap.port cap.tag (.stop reason 0) := by
  have hch : ((s.arrived c raw high).channel c).config = (s.channel c).config := by rw [State.channel_arrived, if_pos rfl]; rfl
  have hnext : (s.arrived c raw high).nextWeighing = s.nextWeighing := by rw [State.arrived_eq]
  have htares : (s.arrived c raw high).tares = s.tares := by rw [State.arrived_eq]
  have hw' : ∀ r, (s.arrived c raw high).weighingOf c r = s.weighingOf c r := fun r => by rw [State.arrived_eq]; rfl
  have hfault : ∀ d r, tareFault (s.arrived c raw high) plate d r = tareFault s plate d r := fun d r => by
    simp only [tareFault, tareTest, htares]
  rw [State.arrive_of_settling hs hw h, ho, State.completeCapture_tare, hch, hnext, hw', hfault, htares]
  cases tareFault s plate (s.channel c).config.division ((s.channel c).entry raw high) <;> rfl

/-- A tare capture refused at its completion. -/
theorem State.arrive_tare_refused {reason : Reason}
    (hf : tareFault s plate (s.channel c).config.division ((s.channel c).entry raw high) = some reason) :
    s.answersWaiting (s.arrive c raw high) cap (.stop reason 0) ∧ (s.arrive c raw high).nextWeighing = s.nextWeighing ∧
      (s.arrive c raw high).tares = s.tares := by
  rw [State.arrive_tare hs hw h ho, hf, Option.elim]
  refine ⟨State.answersWaiting_reply (raw := raw) (high := high) hs rfl _, ?_, ?_⟩
  · rw [State.arrived_eq]; rfl
  · rw [State.arrived_eq]; rfl

/-- A tare capture stored at its completion. -/
theorem State.arrive_tare_stored
    (hf : tareFault s plate (s.channel c).config.division ((s.channel c).entry raw high) = none) :
    s.answersWaiting (s.arrive c raw high) cap
        (.success (numBytes 4 s.nextWeighing ++ yesNoBytes (s.tares.any fun e => decide (e.plate = plate)))) ∧
      (s.arrive c raw high).nextWeighing = advanceNumber s.nextWeighing ∧
      (s.arrive c raw high).tares = s.tares.filter (fun e => decide (e.plate ≠ plate)) ++
        [⟨plate, s.weighingOf c ((s.channel c).entry raw high), c⟩] := by
  rw [State.arrive_tare hs hw h ho, hf, Option.elim]
  refine ⟨State.answersWaiting_reply (raw := raw) (high := high) hs rfl _, ?_, ?_⟩
  · rw [State.arrived_eq]; rfl
  · rw [State.arrived_eq]; rfl

/-- The completion of a tare capture leaves the tickets. -/
theorem State.arrive_tare_tickets : (s.arrive c raw high).tickets = s.tickets := by
  rw [State.arrive_tare hs hw h ho]
  have hu : (s.arrived c raw high).tickets = s.tickets := State.tickets_arrived hs ho
  cases tareFault s plate (s.channel c).config.division ((s.channel c).entry raw high) with
  | none => rw [Option.elim, State.reply_tickets]; exact hu
  | some reason => rw [Option.elim, State.reply_tickets]; exact hu

end

end

end Sys2Proof.Machine
end

section
/-! READING_FRAME, frame by frame (R1, R6, R7). -/

namespace Sys2Proof.Machine

/-- A frame whose check holds, with a raw value in its range, is taken by a channel that is not OFF (R1). -/
theorem readingFrame_taken {c : ChannelId} {raw : Int} {s : State} (hrun : s.running = true) (hoff : (s.channel c).state ≠ .off)
    (hlo : -2000000 ≤ raw) (hhi : raw ≤ 2000000) (status : HeadStatus) :
    exec (.readingFrame c raw status true) s = .next (match status with
      | .ok => s.arrive c raw false
      | .overrange => s.arrive c raw true
      | .fault => s.headFault c
      | .other => s) := by
  have kept : ¬(!true || !rawInRange raw || decide ((s.channel c).state = .off)) = true := by
    simp [rawInRange, hlo, hhi, hoff]
  exact congrArg Host.Outcome.next ((if_pos hrun).trans (if_neg kept))

/-- A frame whose check fails, or with a raw value outside its range, or to a channel in OFF, is discarded (R1). -/
theorem readingFrame_discarded {c : ChannelId} {raw : Int} {s : State} {holds : Bool} (status : HeadStatus)
    (h : holds = false ∨ (s.channel c).state = .off ∨ raw < -2000000 ∨ 2000000 < raw) :
    exec (.readingFrame c raw status holds) s = .next s := by
  have discarded : (!holds || !rawInRange raw || decide ((s.channel c).state = .off)) = true := by
    rcases h with h | h | h | h
    · simp [h]
    · simp [h]
    · simp [rawInRange, not_le.2 h]
    · simp [rawInRange, not_le.2 h]
  change Host.Outcome.next _ = _
  simp only [State.whileRunning, discarded, if_true, ite_self]

/-- Settles O19: an arrival's channel and events follow from the change it makes, and its completed capture from its owner's tests. -/
theorem readingFramesTaken : Obligations.ReadingFramesTaken := by
  intro c raw s hrun hoff hw hlo hhi ch
  refine ⟨fun high => ?_, ?_, readingFrame_taken hrun hoff hlo hhi .other, fun st => readingFrame_discarded st (.inl rfl),
    fun st holds e far h => readingFrame_discarded st (.inr h)⟩
  · have hc := (State.channel_arrive (raw := raw) (high := high) hw c).trans (if_pos rfl)
    have hex : exec (.readingFrame c raw (if high then .overrange else .ok) true) s = .next (s.arrive c raw high) := by
      rw [readingFrame_taken hrun hoff hlo hhi]; cases high <;> rfl
    have hstate : ((s.arrive c raw high).channel c).state = ((s.channel c).join s.timebase raw high).state := by rw [hc]
    refine ⟨s.arrive c raw high, hex, ?_, ?_, ?_, ?_, ?_, ?_, ?_, ?_, fun hs => ?_, fun hm hst => ?_, fun hno => ?_,
      fun cap hs hm hst => ?_, fun e he => ?_⟩
    · rw [hc]; exact Channel.join_window (s.channel c) s.timebase raw high
    · rw [hc]; rfl
    · rw [hc]; rfl
    · rw [hc]; rfl
    · rw [hc]; rfl
    · rw [hc]; rfl
    · rw [hc]; rfl
    · have hev := State.hearsAlike_arrive (raw := raw) (high := high) hw
      rw [hstate]
      simp only [Channel.changeEvents, show ((s.channel c).join s.timebase raw high).zeroRequired = ch.zeroRequired from rfl,
        show (s.channel c).zeroRequired = ch.zeroRequired from rfl, and_true] at hev
      exact hev.tells
    · rw [hc, State.arrive_of_free hs, State.changeChannel_eq]
      exact ⟨by rw [show (s.channel c).slot = none from hs, ite_self], rfl, rfl, rfl⟩
    · rw [hc, if_pos ⟨hm, hstate ▸ hst⟩]
    · rw [hstate] at hno
      rw [hc, if_neg hno, State.arrive_of_not_settling hno]
      exact ⟨rfl, by rw [State.changeChannel_eq], by rw [State.changeChannel_eq], by rw [State.changeChannel_eq],
        fun p => ⟨State.changeChannel_port Port.out Port.offer_out s c _ p, State.changeChannel_port Port.busy Port.offer_busy s c _ p⟩⟩
    · have h : (s.channel c).state = .motion ∧ ((s.channel c).join s.timebase raw high).state = .stable := ⟨hm, hstate ▸ hst⟩
      intro x cls w answered noted used
      refine ⟨fun n l role grade tk ho ht hl => ?_, fun plate ho => ?_⟩
      · intro failed
        obtain ⟨ln, hl⟩ := hl
        have refused : ∀ reason, lineFault role ch.config.division (ch.entry raw high) tk.lines.length = some reason →
            failed reason := fun reason => State.arrive_line_refused hs hw h ho ht hl
        have recorded := State.arrive_line_recorded (raw := raw) (high := high) hs hw h ho ht hl
        refine ⟨fun m => State.arrive_line_others hs hw h ho ht hl, fun hcl => refused _ (if_pos hcl), fun hcl =>
          ⟨fun hr hx => refused _ ?_, fun hr hx => refused _ ?_, fun hr hx hfull => refused _ ?_, fun hr hx => ?_, fun hr hx => ?_,
            fun hr hx hroom => ?_⟩⟩
        · subst hr; exact (lineFault_tare hcl).trans (if_pos hx)
        · cases role with
          | gross => exact (lineFault_gross hcl).trans (if_pos hx)
          | tare => exact absurd rfl hr
          | chain => exact (lineFault_chain hcl).trans (if_pos hx)
        · subst hr; exact (lineFault_chain hcl).trans ((if_neg (not_lt.2 hx)).trans (if_pos hfull))
        · subst hr
          rw [lineCaptureAnswer_eq] at recorded
          exact recorded ((lineFault_gross hcl).trans (if_neg (not_lt.2 hx)))
        · subst hr
          rw [lineCaptureAnswer_eq] at recorded
          exact recorded ((lineFault_tare hcl).trans (if_neg (not_lt.2 hx)))
        · subst hr
          rw [lineCaptureAnswer_eq, Ticket.recordWeighing_chain, List.length_append, Ticket.changeLine_length] at recorded
          exact recorded ((lineFault_chain hcl).trans ((if_neg (not_lt.2 hx)).trans (if_neg (not_le.2 hroom))))
      · intro failed
        have refused : ∀ reason, tareFault s plate ch.config.division (ch.entry raw high) = some reason → failed reason :=
          fun reason => State.arrive_tare_refused hs hw h ho
        have stored := State.arrive_tare_stored (raw := raw) (high := high) hs hw h ho
        refine ⟨State.arrive_tare_tickets hs hw h ho, fun hcl => refused _ (tareFault_of_class hcl), fun hcl hx => refused _ ?_,
          fun hcl hx hno hfull => refused _ ?_, fun hcl hx hroom => ?_⟩
        · exact (tareFault_normal hcl).trans (if_pos hx)
        · exact (tareFault_normal hcl).trans ((if_neg (not_lt.2 hx)).trans (if_pos ⟨hno, hfull⟩))
        · have room : ¬((∀ e ∈ s.tares, e.plate ≠ plate) ∧ 64 ≤ s.tares.length) := by
            rintro ⟨hno, hfull⟩
            rcases hroom with ⟨e, he, hp⟩ | hlt
            · exact hno e he hp
            · omega
          exact stored ((tareFault_normal hcl).trans ((if_neg (not_lt.2 hx)).trans (if_neg room)))
    · exact (State.channel_arrive hw e).trans (if_neg he)
  · have hfault : s.headFault c = s.changeAndEnd c
        { s.channel c with window := [], zeroRequired := true, state := .noData, stale := none } (.stop .noData 0) := rfl
    refine ⟨s.headFault c, readingFrame_taken hrun hoff hlo hhi .fault, ?_, ?_, fun cap hs => ?_, ?_, ?_, fun e he => ?_⟩
    · rw [hfault, State.channel_changeAndEnd, if_pos rfl]
    · exact (State.hearsAlike_changeAndEnd s c _ (.stop .noData 0)).tells
    · exact (State.changeAndEnd_answers (s := s) (c := c)
        (x := { s.channel c with window := [], zeroRequired := true, state := .noData, stale := none }) (.stop .noData 0) hs).1
    · rw [hfault, State.changeAndEnd_eq]
    · rw [hfault, State.changeAndEnd_eq]
    · rw [hfault, State.channel_changeAndEnd, if_neg he]

end Sys2Proof.Machine
end

section
/-! Restarts (R113, R135 to R137, R182, R195, R197 to R200): the start values of Table 11-2, and the jobs that the owed-receipt
service makes from an empty pool. -/

namespace Sys2Proof.Machine

/-! ### Holds released while no port listens (R113) -/

/-- A port without subscriptions takes no entry. -/
theorem Port.offer_unheard {q : Port} (h : q.subscription = 0#5) (e : Entry) : q.offer e = q := by
  simp [Port.offer, h]

/-- The releases leave a port without subscriptions as it was. -/
theorem State.releaseDue_unheard {s : State} {p : PortId} (h : (s.port p).subscription = 0#5) (ts : List Ticket) :
    (s.releaseDue ts).port p = s.port p := by
  have kept := State.releaseDue_port (fun q => if q.subscription = 0#5 then some q else none)
    (fun q e => by
      by_cases hq : q.subscription = 0#5
      · rw [Port.offer_unheard hq]
      · rw [Port.offer_subscription, if_neg hq, if_neg hq]) s ts p
  have hsub := (State.releaseDue_port Port.subscription Port.offer_subscription s ts p).trans h
  simpa only [h, hsub, if_true, Option.some.injEq] using kept

/-- The releases keep the numbers of the table in their order. -/
theorem State.releaseDue_numbers (s : State) (ts : List Ticket) :
    (s.releaseDue ts).tickets.map Ticket.number = s.tickets.map Ticket.number := by
  unfold State.releaseDue
  induction ts generalizing s with
  | nil => rfl
  | cons t ts ih =>
    rw [List.foldl_cons, ih]
    split_ifs
    · exact s.putTicket_numbers _
    · rfl

/-- What holds of every ticket and does not read its state holds after the releases. -/
theorem State.releaseDue_forall {P : Ticket → Prop} (hP : ∀ t, P t → P { t with state := .payable }) {s : State} {ts : List Ticket}
    (hs : ∀ t ∈ s.tickets, P t) (hts : ∀ t ∈ ts, P t) : ∀ t ∈ (s.releaseDue ts).tickets, P t := by
  unfold State.releaseDue
  induction ts generalizing s with
  | nil => exact hs
  | cons x ts ih =>
    rw [List.foldl_cons]
    refine ih (fun t ht => ?_) fun t ht => hts t (List.mem_cons_of_mem _ ht)
    split_ifs at ht
    · rcases State.mem_putTicket (s := s) (t := { x with state := .payable }) ht with rfl | ⟨hm, -⟩
      · exact hP x (hts x List.mem_cons_self)
      · exact hs t hm
    · exact hs t ht

/-! ### Ids from 1 in an empty pool (R133) -/

/-- The jobs of the pool carry the ids from 1 on, and the counter stands after them. -/
structure State.IdsFromOne (s : State) : Prop where
  ids : s.jobs.map Job.id = List.range' 1 s.jobs.length
  next : s.nextJob = s.jobs.length + 1

/-- With ids from 1 on, the next job takes the counter's value. -/
theorem State.IdsFromOne.newJobId {s : State} (h : s.IdsFromOne) : s.newJobId = s.jobs.length + 1 := by
  have free : s.jobs.any (fun j => decide (j.id = s.jobs.length + 1)) = false := by
    rw [List.any_eq_false]
    intro j hj
    have hid : j.id ∈ List.range' 1 s.jobs.length := h.ids ▸ List.mem_map_of_mem hj
    rw [List.mem_range'_1] at hid
    simp only [decide_eq_true_eq]
    omega
  rw [State.newJobId, h.next, freeJobId, free]
  rfl

/-- A job that joins takes the next id while ids below 255 are left. -/
theorem State.IdsFromOne.addJob {s : State} (h : s.IdsFromOne) (hl : s.jobs.length < 12) (j : Job) : (s.addJob j).IdsFromOne := by
  have hn := h.newJobId
  constructor
  · rw [State.addJob_eq, List.map_append, h.ids, List.length_append, List.length_singleton, List.range'_1_concat, List.map_singleton,
      hn, Nat.add_comm 1]
  · have : ¬255 ≤ s.jobs.length + 1 := by omega
    rw [State.addJob_eq, List.length_append, List.length_singleton, hn, advanceJob, if_neg this]

/-- The service keeps the ids from 1 on. -/
theorem State.IdsFromOne.foldl_serveOne {s : State} (h : s.IdsFromOne) (l : List OwedItem) :
    (l.foldl State.serveOne s).IdsFromOne := by
  induction l generalizing s with
  | nil => exact h
  | cons x xs ih =>
    rw [List.foldl_cons]
    rcases s.serveOne_cases x with ⟨hl, hs, -⟩ | ⟨hs, -⟩
    · rw [hs]; exact ih (h.addJob hl _)
    · rw [hs]; exact ih h

/-! ### The service from an empty pool (R135 to R137) -/

/-- The stamp of an owed receipt stands in its source. -/
theorem OwedItem.stamp_of_source {x y : OwedItem} (h : x.source = y.source) : x.stamp = y.stamp := by
  cases x <;> cases y <;> simp_all [OwedItem.source, OwedItem.stamp]

/-- The service changes the pool and its counters alone. -/
theorem State.runService_eq (s : State) : s.runService =
    { s with jobs := s.runService.jobs, nextJob := s.runService.nextJob, nextAge := s.runService.nextAge } := by
  obtain ⟨added, h, -⟩ := s.foldl_serveOne (owedOrder s.owedItems)
  rw [show s.runService = _ from h]

/-- The pool after the service has run from an empty pool. -/
structure State.Served (s : State) : Prop where
  room : s.jobs.length ≤ 12
  ids : s.IdsFromOne
  ages : s.jobs.map Job.age = List.range' 1 s.jobs.length
  nextAge : s.nextAge = s.jobs.length + 1
  made : ∀ j ∈ s.jobs, ∃ x ∈ s.owedItems, s.madeFor j x
  ordered : ∃ items : List OwedItem, s.jobs.map Job.source = items.map OwedItem.source ∧ (∀ x ∈ items, x ∈ s.owedItems) ∧
    items.Pairwise fun x y => x.stamp ≤ y.stamp
  older : ∀ y ∈ s.owedItems, s.served y = true → ∀ x ∈ s.owedItems, x.stamp < y.stamp → s.served x = true ∨ s.blocked x = true
  all : s.jobs.length < 12 → ∀ x ∈ s.owedItems, s.served x = true ∨ s.blocked x = true

/-- The service run from an empty pool. -/
theorem State.runService_served {s : State} (hj : s.jobs = []) (hn : s.nextJob = 1) (ha : s.nextAge = 1) : s.runService.Served := by
  have howed : s.runService.owedItems = s.owedItems := by rw [State.runService_eq]; rfl
  have hids : s.IdsFromOne := ⟨by rw [hj]; rfl, by rw [hj, hn]; rfl⟩
  obtain ⟨added, hrun, -, -, hroom⟩ := s.foldl_serveOne (owedOrder s.owedItems)
  obtain ⟨aged, hjobs, hages, hnext⟩ := s.foldl_serveOne_ages (owedOrder s.owedItems)
  obtain ⟨made, hmade, hfor⟩ := s.foldl_serveOne_made (owedOrder s.owedItems)
  obtain ⟨items, hsub, hsrc, holder, hall⟩ := s.foldl_serveOne_items (owedOrder s.owedItems) (owedOrder_sorted _)
  rw [hj, List.nil_append] at hjobs hmade
  rw [hj, List.map_nil, List.nil_append] at hsrc
  have hpool : s.runService.jobs = aged := hjobs
  refine ⟨?_, hids.foldl_serveOne _, ?_, ?_, fun j hjm => ?_, ⟨items, hsrc, fun x hx => ?_, ?_⟩, fun y hy hsv x hx hlt => ?_,
    fun hlen x hx => ?_⟩
  · have h12 := hroom (by rw [hj]; decide)
    rwa [show s.runService.jobs = s.jobs ++ added from by rw [State.runService, hrun]]
  · rw [hpool, hages, ha]
  · rw [hpool, State.runService, hnext, ha, Nat.add_comm]
  · obtain ⟨x, hx, hm⟩ := hfor j (hmade ▸ hjm)
    refine ⟨x, howed ▸ mem_owedOrder.1 hx, ?_⟩
    rw [State.runService_eq]
    exact (s.madeFor_pool _ _ _ j x).2 hm
  · exact howed ▸ mem_owedOrder.1 (hsub.subset hx)
  · exact (owedOrder_sorted _).sublist hsub
  · obtain ⟨j, hjm, hjs⟩ : ∃ j ∈ s.runService.jobs, j.source = y.source := by
      simpa only [State.served, List.any_eq_true, decide_eq_true_eq] using hsv
    obtain ⟨y', hy', hsame⟩ : ∃ y' ∈ items, y'.source = y.source := by
      have : y.source ∈ items.map OwedItem.source := hsrc ▸ hjs ▸ List.mem_map_of_mem hjm
      simpa only [List.mem_map] using this
    exact holder y' hy' x (mem_owedOrder.2 (howed ▸ hx)) (OwedItem.stamp_of_source hsame ▸ hlt)
  · exact hall hlen x (mem_owedOrder.2 (howed ▸ hx))

/-- In a table without two tickets of one number no owed receipt is blocked, so that each that counts as settled is served. -/
theorem State.Served.not_blocked {s : State} (h : s.Served) (hn : (s.tickets.map Ticket.number).Nodup) {x : OwedItem}
    (hx : x ∈ s.owedItems) (hs : s.served x = true ∨ s.blocked x = true) : s.served x = true := by
  refine hs.resolve_right fun hb => ?_
  have hno := State.not_blocked hn (fun j hj => let ⟨y, hy, hm⟩ := h.made j hj; ⟨y, hy, hm.1⟩) hx
  rw [hb] at hno
  cases hno

/-! ### The two starts (R198, R199) -/

/-- A cold start is a warm restart of the cold retained items: no hold and no owed receipt is among them. -/
theorem State.restart_eq (s : State) : s.restart = (if s.storeValid then s else s.coldRetained).warmStart := by
  unfold State.restart
  split_ifs <;> rfl

/-- A warm restart's state before the service runs (R199). -/
def State.holdsPassed (s : State) : State := s.volatileStart.releaseDue s.volatileStart.tickets

/-- Besides the tickets, the ports, the pool and its counters, a warm restart leaves what the volatile start gives. -/
theorem State.warmStart_eq (s : State) : s.warmStart = { s.volatileStart with
    tickets := s.holdsPassed.tickets, ports := s.holdsPassed.ports
    jobs := s.warmStart.jobs, nextJob := s.warmStart.nextJob, nextAge := s.warmStart.nextAge } := by
  have h : s.warmStart = s.holdsPassed.runService := rfl
  rw [h, State.runService_eq, State.holdsPassed, State.releaseDue_eq]

theorem State.warmStart_served (s : State) : s.warmStart.Served := by
  have h : s.holdsPassed = _ := State.releaseDue_eq _ _
  exact State.runService_served (s := s.holdsPassed) (by rw [h]; rfl) (by rw [h]; rfl) (by rw [h]; rfl)

/-- The ports after a warm restart: no port hears the releases. -/
theorem State.port_warmStart (s : State) (p : PortId) : s.warmStart.port p = (s.port p).restarted := by
  have hv : s.volatileStart.port p = (s.port p).restarted := by simp [State.port, State.volatileStart]
  calc s.warmStart.port p = s.holdsPassed.port p := by rw [State.warmStart_eq]; rfl
    _ = s.volatileStart.port p := State.releaseDue_unheard (by rw [hv]; rfl) _
    _ = (s.port p).restarted := hv

theorem State.channel_warmStart (s : State) (c : ChannelId) : s.warmStart.channel c = (s.channel c).restarted := by
  rw [State.warmStart_eq]
  simp [State.channel, State.volatileStart]

theorem State.printer_warmStart (s : State) (r : PrinterId) : s.warmStart.printer r = Printer.start s.timebase := by
  rw [State.warmStart_eq]
  simp [State.printer, State.volatileStart]

/-- A warm restart keeps the ticket numbers in their order. -/
theorem State.warmStart_numbers (s : State) : s.warmStart.tickets.map Ticket.number = s.tickets.map Ticket.number := by
  rw [State.warmStart_eq]
  refine (State.releaseDue_numbers _ _).trans ?_
  simp only [State.volatileStart, List.map_map]
  rfl

/-- After a warm restart no line carries a capture mark (R57). -/
theorem State.warmStart_unmarked (s : State) : ∀ t ∈ s.warmStart.tickets, ∀ ln ∈ t.lines, ln.mark = none := by
  have unmarked : ∀ t ∈ s.volatileStart.tickets, ∀ ln ∈ t.lines, ln.mark = none := by
    intro t ht ln hl
    obtain ⟨t', -, rfl⟩ := List.mem_map.1 ht
    obtain ⟨ln', -, rfl⟩ := List.mem_map.1 hl
    rfl
  rw [State.warmStart_eq]
  exact State.releaseDue_forall (P := fun t => ∀ ln ∈ t.lines, ln.mark = none) (fun _ h => h) unmarked unmarked

/-- Settles O15. -/
theorem restartStartsVolatileState : Obligations.RestartStartsVolatileState := by
  intro s
  obtain ⟨r, hr, htime, hnum⟩ : ∃ r : State, s.restart = r.warmStart ∧ r.timebase = s.timebase ∧
      ((s.tickets.map Ticket.number).Nodup → (r.tickets.map Ticket.number).Nodup) := by
    refine ⟨_, s.restart_eq, ?_, ?_⟩
    · split_ifs <;> rfl
    · split_ifs
      · exact id
      · exact fun _ => List.nodup_nil
  have served := r.warmStart_served
  have cold : s.storeValid = false → r.warmStart.jobs = [] := fun h => by
    rw [← hr, State.restart, h]; rfl
  rw [hr]
  refine ⟨fun p => ?_, fun c => ?_, fun i => ?_, ?_, fun j hj => ?_, cold, served.room, served.ids.next, served.nextAge, served.ids.ids,
    served.ages, served.ordered, served.made, fun hn => ?_, r.warmStart_unmarked⟩
  · rw [State.port_warmStart]; exact ⟨rfl, rfl, rfl, rfl, rfl, rfl, rfl⟩
  · rw [State.channel_warmStart]; exact ⟨rfl, rfl, rfl, rfl, rfl⟩
  · rw [State.printer_warmStart, htime]; exact ⟨rfl, rfl, rfl, rfl, rfl⟩
  · rw [State.warmStart_eq]; rfl
  · obtain ⟨x, -, -, hq, hp, hf, -⟩ := served.made j hj
    exact ⟨hq, hp, hf⟩
  · have hn' : (r.warmStart.tickets.map Ticket.number).Nodup := r.warmStart_numbers ▸ hnum hn
    exact ⟨fun hl x hx => served.not_blocked hn' hx (served.all hl x hx),
      fun y hy hsv x hx hlt => served.not_blocked hn' hx (served.older y hy hsv x hx hlt)⟩

end Sys2Proof.Machine
end

section
/-! SUPPORT. The names of the ledger, and the ticket table with the captures of its lines: what a list of tickets and the owners of
the waiting captures must meet, and the changes that keep it (R29, R31, R42, R47, R97, R99, R124). -/

namespace Sys2Proof.Machine

/-! ### The names (R29, R31, R58) -/

/-- Every move keeps the names. -/
theorem Ledger.Move.namesStand {a b : Ledger} (m : a.Move b) (h : a.NamesStand) : b.NamesStand := by
  cases m with
  | opened n room free => exact h.append room free
  | replaced n o kept => exact h.setStamp n o
  | owes n => exact Ledger.advanceStamp_namesStand (h.setStamp n _)
  | retired n =>
    have hs := List.filter_sublist (p := fun x => decide (x.1 ≠ n)) (l := a.names)
    exact ⟨hs.length_le.trans h.few, h.distinct.sublist (hs.map _), fun k hk => h.inRange k ((hs.map _).subset hk), h.next, h.plates⟩
  | dayEnded => exact Ledger.advanceStamp_namesStand { h with }
  | tareDropped plate => exact { h with plates := h.plates.filter _ }
  | tareStored plate =>
    exact { h with plates := List.Nodup.append (h.plates.filter _) (List.nodup_singleton plate) (by simp) }
  | coldStarted =>
    have none : State.reset.ledger.numbers = [] := by decide
    exact ⟨by decide, by decide, by simp [none], ⟨by decide, by decide⟩, by decide⟩
  | weighed | reportDone | jobMade | committed | clockRan | clockSet | optionSet | voidCounted | paid | drawerSet | freed | ended
  | cleared | sent | handedOver | started => exact { h with }

/-- Every turn keeps the names. -/
theorem Ledger.Turn.namesStand {a b : Ledger} (h : a.Turn b) (ha : a.NamesStand) : b.NamesStand := by
  cases h with
  | moved h => exact h.keep (fun _ _ m => m.namesStand) ha
  | replied p room still h => exact { h.keep (fun _ _ m => m.namesStand) ha with }
  | placed c p g h room idle free => exact { h.keep (fun _ _ m => m.namesStand) ha with }

/-- Every step keeps the tickets' numbers and the tare entries' plates different. -/
theorem step_distinctNames {s t : State} (hs : s.distinctNames) (h : step s = .next t) : t.distinctNames := by
  rw [State.distinctNames_iff] at hs ⊢
  exact (step_turn h).namesStand hs

/-! ### Marks and records of one ticket -/

/-- The mark of a ticket's line at a position; none where there is no such line. -/
def Ticket.markAt (t : Ticket) (k : Nat) : Option Side := (t.line? k).bind Line.mark

theorem Ticket.markAt_eq_some {t : Ticket} {k : Nat} {side : Side} :
    t.markAt k = some side ↔ ∃ ln, t.line? k = some ln ∧ ln.mark = some side := Option.bind_eq_some_iff

theorem Ticket.markAt_eq_none_of_lines {t : Ticket} (h : ∀ ln ∈ t.lines, ln.mark = none) (k : Nat) : t.markAt k = none := by
  unfold Ticket.markAt Ticket.line?
  split_ifs
  · rfl
  · cases hl : t.lines[k - 1]? with
    | none => rfl
    | some ln => exact h ln (List.mem_of_getElem? hl)

/-- Lines with the same marks in the same places carry the same marks. -/
theorem Ticket.markAt_congr {t u : Ticket} (h : t.lines.map Line.mark = u.lines.map Line.mark) (k : Nat) :
    t.markAt k = u.markAt k := by
  have e : ∀ x : Ticket, x.markAt k = if k = 0 then none else (x.lines.map Line.mark)[k - 1]?.join := fun x => by
    unfold Ticket.markAt Ticket.line?
    split_ifs
    · rfl
    · rw [List.getElem?_map]
      cases x.lines[k - 1]? <;> rfl
  rw [e, e, h]

/-- An unmarked line at the end of a ticket changes no mark. -/
theorem Ticket.markAt_append (t : Ticket) {ln : Line} (h : ln.mark = none) (k : Nat) :
    ({ t with lines := t.lines ++ [ln] } : Ticket).markAt k = t.markAt k := by
  unfold Ticket.markAt Ticket.line?
  dsimp only
  split_ifs
  · rfl
  · rcases lt_trichotomy (k - 1) t.lines.length with hl | hl | hl
    · rw [List.getElem?_append_left hl]
    · rw [hl]; simp [h]
    · simp [Nat.le_of_lt hl, List.getElem?_eq_none, Nat.succ_le_of_lt hl]

/-- A line removed: the marks before it stay, and those after it move up (R36). -/
theorem Ticket.markAt_eraseIdx (t : Ticket) (k j : Nat) : ({ t with lines := t.lines.eraseIdx (k - 1) } : Ticket).markAt j =
    if j = 0 then none else if j < k then t.markAt j else t.markAt (j + 1) := by
  unfold Ticket.markAt Ticket.line?
  dsimp only
  by_cases h0 : j = 0
  · rw [if_pos h0, if_pos h0]
    rfl
  rw [if_neg h0, if_neg h0, if_neg h0, if_neg (Nat.succ_ne_zero j)]
  split_ifs with h
  · rw [List.getElem?_eraseIdx_of_lt (by omega)]
  · rw [List.getElem?_eraseIdx_of_ge (by omega), show j - 1 + 1 = j + 1 - 1 by omega]

/-- A record's fit to its state reads the state, the settlement, the payout and the lines' pricing alone. -/
theorem Ticket.recordsStand_congr {u t : Ticket} (h1 : t.state = u.state) (h2 : t.settlement = u.settlement) (h3 : t.payout = u.payout)
    (h4 : t.lines.map Line.pricing = u.lines.map Line.pricing) (h : u.recordsStand) : t.recordsStand := by
  have all : ∀ P : Option Pricing → Prop, (∀ ln ∈ t.lines, P ln.pricing) ↔ ∀ ln ∈ u.lines, P ln.pricing := fun P => by
    rw [← List.forall_mem_map (f := Line.pricing) (P := P), h4, List.forall_mem_map]
  have total : ticketTotal t.lines = ticketTotal u.lines := by
    have e : ∀ lines : List Line, ticketTotal lines = ((lines.map Line.pricing).map fun p => p.elim 0 Pricing.amount).sum := fun lines => by
      rw [List.map_map]
      refine congrArg List.sum (List.map_congr_left fun ln _ => ?_)
      simp only [Line.amount, Function.comp_apply]
      cases ln.pricing <;> rfl
    rw [e, e, h4]
  unfold Ticket.recordsStand at h ⊢
  rw [h1, h2, h3, total, all (· = none), all (· ≠ none)]
  exact h

/-- An OPEN ticket's records fit its state exactly when it holds no settlement and no pricing. -/
theorem Ticket.recordsStand_opened {t : Ticket} (h : t.state = .opened) :
    t.recordsStand ↔ t.settlement = none ∧ ∀ ln ∈ t.lines, ln.pricing = none := by
  simp [Ticket.recordsStand, h]

/-- A record that may take the place of another: of the same number and marks, OPEN where the other was OPEN and marked, and fitting
its state where the other did. -/
structure Ticket.MayBecome (u t : Ticket) : Prop where
  number : t.number = u.number
  marks : ∀ k, t.markAt k = u.markAt k
  opened : u.state = .opened → t.state = .opened ∨ ∀ k, u.markAt k = none
  records : u.recordsStand → t.recordsStand

theorem Ticket.MayBecome.refl (t : Ticket) : t.MayBecome t := ⟨rfl, fun _ => rfl, .inl, id⟩

/-- A line changed in other items than its mark and its pricing. -/
theorem Ticket.mayBecome_changeLine (t : Ticket) (k : Nat) (f : Line → Line)
    (hm : ∀ ln, t.line? k = some ln → (f ln).mark = ln.mark) (hp : ∀ ln, (f ln).pricing = ln.pricing) :
    t.MayBecome (t.changeLine k f) := by
  refine ⟨Ticket.changeLine_number _ _ _, fun j => ?_, fun h => .inl (by simpa using h),
    Ticket.recordsStand_congr (Ticket.changeLine_state _ _ _) (Ticket.changeLine_settlement _ _ _) ?_ ?_⟩
  · unfold Ticket.markAt
    rw [Ticket.line?_changeLine]
    split_ifs with e
    · subst e
      cases hl : t.line? j with
      | none => rfl
      | some ln => exact hm ln hl
    · rfl
  · unfold Ticket.changeLine; split_ifs <;> rfl
  · unfold Ticket.changeLine
    split_ifs
    · rfl
    · refine List.ext_getElem (by simp) fun i h1 h2 => ?_
      simp only [List.getElem_map, List.getElem_modify]
      split_ifs
      · exact hp _
      · rfl

/-- An OPEN ticket with an unmarked and unpriced line at its end. -/
theorem Ticket.mayBecome_append {t : Ticket} (ho : t.state = .opened) {ln : Line} (hm : ln.mark = none) (hp : ln.pricing = none) :
    t.MayBecome { t with lines := t.lines ++ [ln] } := by
  refine ⟨rfl, t.markAt_append hm, .inl, fun h => ?_⟩
  obtain ⟨h1, h2⟩ := (Ticket.recordsStand_opened ho).1 h
  refine (Ticket.recordsStand_opened (t := { t with lines := t.lines ++ [ln] }) ho).2 ⟨h1, fun x hx => ?_⟩
  rcases List.mem_append.1 hx with hx | hx
  · exact h2 x hx
  · rw [List.mem_singleton.1 hx]; exact hp

/-- One record after another. -/
theorem Ticket.MayBecome.trans {t u v : Ticket} (h : t.MayBecome u) (k : u.MayBecome v) : t.MayBecome v := by
  refine ⟨k.number.trans h.number, fun j => (k.marks j).trans (h.marks j), fun ho => ?_, fun hr => k.records (h.records hr)⟩
  rcases h.opened ho with ho | hm
  · rcases k.opened ho with ho | hm
    · exact .inl ho
    · exact .inr fun j => (h.marks j).symm.trans (hm j)
  · exact .inr hm

/-- A weighing recorded in an unmarked line of an OPEN ticket (R44 to R46). -/
theorem Ticket.mayBecome_recordWeighing {t : Ticket} {k : Nat} (ho : t.state = .opened) (hm : t.markAt k = none) (role : CaptureRole)
    (grade : Nat) (w : Weighing) : t.MayBecome (t.recordWeighing k role grade w) := by
  have unmarked : ∀ ln, t.line? k = some ln → ln.mark = none := fun ln hl => by
    rw [Ticket.markAt, hl] at hm; exact hm
  cases role with
  | gross => exact t.mayBecome_changeLine k _ (fun ln hl => (unmarked ln hl).symm) fun _ => rfl
  | tare => exact t.mayBecome_changeLine k _ (fun ln hl => (unmarked ln hl).symm) fun _ => rfl
  | chain =>
    refine (t.mayBecome_changeLine k (fun ln => { ln with tare := some w, mark := none }) (fun ln hl => (unmarked ln hl).symm)
      fun _ => rfl).trans ?_
    exact Ticket.mayBecome_append (by simpa using ho) rfl rfl

/-! ### The ticket table and the captures of its lines -/

/-- The tickets carry different numbers, a line is marked exactly while one capture for it waits and its ticket is OPEN, and each
ticket's records fit its state. `owner` gives the owner of each waiting capture, and `next` is the ticket number counter. -/
structure TicketsFit (tickets : List Ticket) (owner : ChannelId → Option CaptureOwner) (next : Nat) : Prop where
  distinct : (tickets.map Ticket.number).Nodup
  next : numberInRange next
  marked : ∀ c n k role grade, owner c = some (.line n k role grade) →
    ∃ t ∈ tickets, t.number = n ∧ t.state = .opened ∧ t.markAt k = some role.side
  one : ∀ c d n k r g r' g', owner c = some (.line n k r g) → owner d = some (.line n k r' g') → c = d
  held : ∀ t ∈ tickets, ∀ k side, t.markAt k = some side →
    ∃ c role grade, owner c = some (.line t.number k role grade) ∧ role.side = side
  records : ∀ t ∈ tickets, t.recordsStand

section
variable {ts : List Ticket} {owner : ChannelId → Option CaptureOwner} {next : Nat}

/-- Two tickets of one number are the same. -/
theorem TicketsFit.eq_of_number (h : TicketsFit ts owner next) {t u : Ticket} (ht : t ∈ ts) (hu : u ∈ ts) (e : t.number = u.number) :
    t = u := List.inj_on_of_nodup_map h.distinct ht hu e

/-- Every record replaced by one that may take its place. -/
theorem TicketsFit.map (h : TicketsFit ts owner next) {g : Ticket → Ticket} (hg : ∀ t ∈ ts, t.MayBecome (g t)) :
    TicketsFit (ts.map g) owner next := by
  refine ⟨?_, h.next, fun c n k role grade hc => ?_, h.one, fun t ht k side hm => ?_, fun t ht => ?_⟩
  · have e : (ts.map g).map Ticket.number = ts.map Ticket.number := by
      rw [List.map_map]; exact List.map_congr_left fun t ht => (hg t ht).number
    rw [e]; exact h.distinct
  · obtain ⟨t, ht, hn, ho, hm⟩ := h.marked c n k role grade hc
    refine ⟨g t, List.mem_map_of_mem ht, (hg t ht).number.trans hn, ?_, ((hg t ht).marks k).trans hm⟩
    rcases (hg t ht).opened ho with ho | hno
    · exact ho
    · rw [hno k] at hm; cases hm
  · obtain ⟨u, hu, rfl⟩ := List.mem_map.1 ht
    rw [(hg u hu).marks] at hm
    rw [(hg u hu).number]
    exact h.held u hu k side hm
  · obtain ⟨u, hu, rfl⟩ := List.mem_map.1 ht
    exact (hg u hu).records (h.records u hu)

/-- A line of a ticket that is not OPEN, or without a waiting capture, has no mark. -/
theorem TicketsFit.unmarked (h : TicketsFit ts owner next) {t : Ticket} (ht : t ∈ ts) {k : Nat}
    (hf : t.state ≠ .opened ∨ ∀ c role grade, owner c ≠ some (.line t.number k role grade)) : t.markAt k = none := by
  cases hm : t.markAt k with
  | none => rfl
  | some side =>
    obtain ⟨c, role, grade, hc, -⟩ := h.held t ht k side hm
    rcases hf with hf | hf
    · obtain ⟨u, hu, hn, ho, -⟩ := h.marked c _ k role grade hc
      exact absurd (h.eq_of_number hu ht hn ▸ ho) hf
    · exact absurd hc (hf c role grade)

/-- A ticket that is not OPEN leaves the table (R54). -/
theorem TicketsFit.filter (h : TicketsFit ts owner next) {t : Ticket} (ht : t ∈ ts) (ho : t.state ≠ .opened) :
    TicketsFit (ts.filter fun x => decide (x.number ≠ t.number)) owner next := by
  have sub := List.filter_sublist (p := fun x : Ticket => decide (x.number ≠ t.number)) (l := ts)
  refine ⟨h.distinct.sublist (sub.map _), h.next, fun c n k role grade hc => ?_, h.one, fun u hu => h.held u (sub.subset hu),
    fun u hu => h.records u (sub.subset hu)⟩
  obtain ⟨u, hu, hn, hop, hm⟩ := h.marked c n k role grade hc
  refine ⟨u, List.mem_filter.2 ⟨hu, ?_⟩, hn, hop, hm⟩
  rw [decide_eq_true_eq]
  exact fun e => ho (h.eq_of_number hu ht e ▸ hop)

/-- An OPEN ticket without lines and of a free number joins the table (R31, R34). -/
theorem TicketsFit.append (h : TicketsFit ts owner next) {t : Ticket} (hn : t.number ∉ ts.map Ticket.number) {next' : Nat}
    (hr : numberInRange next') (ho : t.state = .opened) (hl : t.lines = []) (hs : t.settlement = none) :
    TicketsFit (ts ++ [t]) owner next' := by
  refine ⟨?_, hr, fun c n k role grade hc => ?_, h.one, fun u hu k side hm => ?_, fun u hu => ?_⟩
  · rw [List.map_append]
    exact List.Nodup.append h.distinct (List.nodup_singleton _) (by simpa using hn)
  · obtain ⟨u, hu, rest⟩ := h.marked c n k role grade hc
    exact ⟨u, List.mem_append_left _ hu, rest⟩
  · rcases List.mem_append.1 hu with hu | hu
    · exact h.held u hu k side hm
    · obtain rfl := List.mem_singleton.1 hu
      rw [Ticket.markAt_eq_none_of_lines (by simp [hl])] at hm
      cases hm
  · rcases List.mem_append.1 hu with hu | hu
    · exact h.records u hu
    · obtain rfl := List.mem_singleton.1 hu
      exact (Ticket.recordsStand_opened ho).2 ⟨hs, by simp [hl]⟩

/-- The mark of a line written in the tickets of a number. -/
def markLine (n k : Nat) (m : Option Side) (t : Ticket) : Ticket :=
  if t.number = n then t.changeLine k fun ln => { ln with mark := m } else t

theorem markLine_number (n k : Nat) (m : Option Side) (t : Ticket) : (markLine n k m t).number = t.number := by
  unfold markLine; split_ifs <;> simp

theorem markLine_state (n k : Nat) (m : Option Side) (t : Ticket) : (markLine n k m t).state = t.state := by
  unfold markLine; split_ifs <;> simp

/-- A mark written is no pricing. -/
theorem markLine_records (n k : Nat) (m : Option Side) {t : Ticket} (h : t.recordsStand) : (markLine n k m t).recordsStand := by
  unfold markLine
  split_ifs
  · refine Ticket.recordsStand_congr (Ticket.changeLine_state _ _ _) (Ticket.changeLine_settlement _ _ _) ?_ ?_ h
    · unfold Ticket.changeLine; split_ifs <;> rfl
    · unfold Ticket.changeLine
      split_ifs
      · rfl
      · refine List.ext_getElem (by simp) fun i h1 h2 => ?_
        simp only [List.getElem_map, List.getElem_modify]
        split_ifs <;> rfl
  · exact h

/-- The marks after one has been written: it alone has changed, where the line exists. -/
theorem markLine_markAt (n k : Nat) (m : Option Side) (t : Ticket) (j : Nat) :
    (markLine n k m t).markAt j = if t.number = n ∧ j = k then (t.line? k).bind fun _ => m else t.markAt j := by
  unfold markLine Ticket.markAt
  by_cases hn : t.number = n
  · rw [if_pos hn, Ticket.line?_changeLine]
    by_cases hj : j = k
    · subst hj
      rw [if_pos rfl, if_pos ⟨hn, rfl⟩, Option.bind_map]
      rfl
    · rw [if_neg hj, if_neg fun e => hj e.2]
  · rw [if_neg hn, if_neg fun e => hn e.1]

theorem markLine_numbers (n k : Nat) (m : Option Side) (l : List Ticket) :
    (l.map (markLine n k m)).map Ticket.number = l.map Ticket.number := by
  rw [List.map_map]
  exact List.map_congr_left fun t _ => markLine_number n k m t

/-- A capture leaves its slot, and its line loses its mark (R47). -/
theorem TicketsFit.free (h : TicketsFit ts owner next) {c : ChannelId} {n k grade : Nat} {role : CaptureRole}
    (hc : owner c = some (.line n k role grade)) : TicketsFit (ts.map (markLine n k none)) (Function.update owner c none) next := by
  have stays : ∀ d x, Function.update owner c none d = some x → d ≠ c ∧ owner d = some x := fun d x hd => by
    rw [Function.update_apply] at hd
    split_ifs at hd with e
    exact ⟨e, hd⟩
  refine ⟨by rw [markLine_numbers]; exact h.distinct, h.next, fun d n' k' r g hd => ?_,
    fun d e n' k' r g r' g' hd he => h.one d e n' k' r g r' g' (stays d _ hd).2 (stays e _ he).2, fun t ht k' side hm => ?_,
    fun t ht => ?_⟩
  · obtain ⟨hne, hd⟩ := stays d _ hd
    obtain ⟨t, ht, hn, ho, hm⟩ := h.marked d n' k' r g hd
    refine ⟨markLine n k none t, List.mem_map_of_mem ht, (markLine_number _ _ _ _).trans hn, (markLine_state _ _ _ _).trans ho, ?_⟩
    rw [markLine_markAt, if_neg, hm]
    rintro ⟨e1, rfl⟩
    obtain rfl : n' = n := hn.symm.trans e1
    exact hne (h.one d c _ _ _ _ _ _ hd hc)
  · obtain ⟨u, hu, rfl⟩ := List.mem_map.1 ht
    rw [markLine_markAt] at hm
    rw [markLine_number]
    split_ifs at hm with e
    · simp at hm
    · obtain ⟨d, r, g, hd, hs⟩ := h.held u hu k' side hm
      refine ⟨d, r, g, ?_, hs⟩
      rw [Function.update_of_ne, hd]
      rintro rfl
      rw [hc] at hd
      cases hd
      exact e ⟨rfl, rfl⟩
  · obtain ⟨u, hu, rfl⟩ := List.mem_map.1 ht
    exact markLine_records _ _ _ (h.records u hu)

/-- A capture without a line leaves or takes a slot. -/
theorem TicketsFit.updateTare (h : TicketsFit ts owner next) {c : ChannelId} (hc : ∀ n k role grade, owner c ≠ some (.line n k role grade))
    {x : Option CaptureOwner} (hx : ∀ n k role grade, x ≠ some (.line n k role grade)) :
    TicketsFit ts (Function.update owner c x) next := by
  have lines : ∀ d n k role grade, Function.update owner c x d = some (.line n k role grade) ↔ owner d = some (.line n k role grade) :=
    fun d n k role grade => by
      by_cases e : d = c
      · subst e
        rw [Function.update_self]
        exact ⟨fun k => absurd k (hx _ _ _ _), fun k => absurd k (hc _ _ _ _)⟩
      · rw [Function.update_of_ne e]
  refine ⟨h.distinct, h.next, fun d n k role grade hd => h.marked d n k role grade ((lines _ _ _ _ _).1 hd),
    fun d e n k r g r' g' hd he => h.one d e n k r g r' g' ((lines _ _ _ _ _).1 hd) ((lines _ _ _ _ _).1 he),
    fun t ht k side hm => ?_, h.records⟩
  obtain ⟨d, r, g, hd, hs⟩ := h.held t ht k side hm
  exact ⟨d, r, g, (lines _ _ _ _ _).2 hd, hs⟩

/-- A capture takes a free slot for an unmarked line of an OPEN ticket, and the line its mark (R42). -/
theorem TicketsFit.place (h : TicketsFit ts owner next) {c : ChannelId} (hc : owner c = none) {t : Ticket} (ht : t ∈ ts) {k : Nat}
    {ln : Line} (ho : t.state = .opened) (hl : t.line? k = some ln) (hm : ln.mark = none) (role : CaptureRole) (grade : Nat) :
    TicketsFit (ts.map (markLine t.number k (some role.side))) (Function.update owner c (some (.line t.number k role grade))) next := by
  have free : ∀ d r g, owner d ≠ some (.line t.number k r g) := fun d r g hd => by
    obtain ⟨u, hu, hn, -, hu'⟩ := h.marked d _ k r g hd
    obtain rfl := h.eq_of_number hu ht hn
    rw [Ticket.markAt, hl, Option.bind_some, hm] at hu'
    cases hu'
  have owners : ∀ d x, Function.update owner c (some (.line t.number k role grade)) d = some x →
      (d = c ∧ x = .line t.number k role grade) ∨ owner d = some x := fun d x hd => by
    rw [Function.update_apply] at hd
    split_ifs at hd with e
    · exact .inl ⟨e, (Option.some.inj hd).symm⟩
    · exact .inr hd
  refine ⟨by rw [markLine_numbers]; exact h.distinct, h.next, fun d n' k' r g hd => ?_, fun d e n' k' r g r' g' hd he => ?_,
    fun u hu k' side hm' => ?_, fun u hu => ?_⟩
  · rcases owners d _ hd with ⟨-, e⟩ | hd'
    · cases e
      refine ⟨_, List.mem_map_of_mem ht, markLine_number _ _ _ _, (markLine_state _ _ _ _).trans ho, ?_⟩
      rw [markLine_markAt, if_pos ⟨rfl, rfl⟩, hl, Option.bind_some]
    · obtain ⟨u, hu, hn, hop, hum⟩ := h.marked d n' k' r g hd'
      refine ⟨_, List.mem_map_of_mem hu, (markLine_number _ _ _ _).trans hn, (markLine_state _ _ _ _).trans hop, ?_⟩
      rw [markLine_markAt, if_neg, hum]
      rintro ⟨e1, e2⟩
      exact free d r g (by rw [hd', ← e1, hn, e2])
  · rcases owners d _ hd with ⟨ed, e1⟩ | hd <;> rcases owners e _ he with ⟨ee, e2⟩ | he
    · rw [ed, ee]
    · cases e1; exact absurd he (free _ _ _)
    · cases e2; exact absurd hd (free _ _ _)
    · exact h.one d e n' k' r g r' g' hd he
  · obtain ⟨v, hv, rfl⟩ := List.mem_map.1 hu
    rw [markLine_markAt] at hm'
    rw [markLine_number]
    split_ifs at hm' with e
    · obtain rfl := h.eq_of_number hv ht e.1
      rw [hl, Option.bind_some] at hm'
      cases hm'
      exact ⟨c, role, grade, by rw [Function.update_self, e.2], rfl⟩
    · obtain ⟨d, r, g, hd, hs⟩ := h.held v hv k' side hm'
      refine ⟨d, r, g, ?_, hs⟩
      rw [Function.update_of_ne, hd]
      rintro rfl
      rw [hc] at hd
      cases hd
  · obtain ⟨v, hv, rfl⟩ := List.mem_map.1 hu
    exact markLine_records _ _ _ (h.records v hv)

/-- An unmarked line of an OPEN ticket removed, the captures of the later lines kept on them (R36). -/
theorem TicketsFit.erase (h : TicketsFit ts owner next) {t : Ticket} (ht : t ∈ ts) {k : Nat} (hk : k ≠ 0) (ho : t.state = .opened)
    (hm : t.markAt k = none) :
    TicketsFit (ts.map fun x => if x.number = t.number then { t with lines := t.lines.eraseIdx (k - 1) } else x)
      (fun c => (owner c).map (CaptureOwner.renumber t.number k)) next := by
  have free : ∀ d r g, owner d ≠ some (.line t.number k r g) := fun d r g hd => by
    obtain ⟨u, hu, hn, -, hu'⟩ := h.marked d _ k r g hd
    obtain rfl := h.eq_of_number hu ht hn
    rw [hm] at hu'
    cases hu'
  have pos : ∀ d n j r g, owner d = some (.line n j r g) → j ≠ 0 := fun d n j r g hd e => by
    obtain ⟨u, -, -, -, hu'⟩ := h.marked d n j r g hd
    rw [e] at hu'
    cases hu'
  have owners : ∀ d n j r g, (owner d).map (CaptureOwner.renumber t.number k) = some (.line n j r g) →
      ∃ i, owner d = some (.line n i r g) ∧ i ≠ 0 ∧ (n = t.number → i ≠ k) ∧ j = if n = t.number ∧ k < i then i - 1 else i :=
    fun d n j r g hd => by
      obtain ⟨x, hx, e⟩ := Option.map_eq_some_iff.1 hd
      cases x with
      | tare plate => cases e
      | line m i r' g' =>
        simp only [CaptureOwner.renumber] at e
        have hi := pos d m i r' g' hx
        have hne : m = t.number → i ≠ k := fun e1 e2 => by subst e1 e2; exact free _ _ _ hx
        split_ifs at e with hc
        · cases e; exact ⟨_, hx, hi, hne, by rw [if_pos hc]⟩
        · cases e; exact ⟨_, hx, hi, hne, by rw [if_neg hc]⟩
  have tickets : ∀ x ∈ ts, x.number = t.number → x = t := fun x hx e => h.eq_of_number hx ht e
  refine ⟨?_, h.next, fun d n j r g hd => ?_, fun d d' n j r g r' g' hd he => ?_, fun u hu j side hj => ?_, fun u hu => ?_⟩
  · have e : ∀ x ∈ ts, (if x.number = t.number then { t with lines := t.lines.eraseIdx (k - 1) } else x : Ticket).number = x.number :=
      fun x _ => by split_ifs with e <;> simp [e]
    rw [List.map_map]
    exact (List.map_congr_left e) ▸ h.distinct
  · obtain ⟨i, hi, hi0, hik, hj⟩ := owners d n j r g hd
    obtain ⟨u, hu, rfl, hop, hum⟩ := h.marked d n i r g hi
    by_cases e : u.number = t.number
    · obtain rfl := tickets u hu e
      have hik := hik rfl
      refine ⟨_, List.mem_map_of_mem hu, by rw [if_pos rfl], by rw [if_pos rfl]; exact hop, ?_⟩
      rw [if_pos rfl, Ticket.markAt_eraseIdx]
      by_cases hlt : k < i
      · rw [if_pos ⟨rfl, hlt⟩] at hj
        rw [if_neg (by omega), if_neg (by omega), show j + 1 = i by omega, hum]
      · rw [if_neg (fun c => hlt c.2)] at hj
        rw [if_neg (by omega), if_pos (by omega), hj, hum]
    · refine ⟨_, List.mem_map_of_mem hu, by rw [if_neg e], by rw [if_neg e]; exact hop, ?_⟩
      rw [if_neg e, hj, if_neg (fun c => e c.1), hum]
  · obtain ⟨i, hi, hi0, hik, hij⟩ := owners d n j r g hd
    obtain ⟨i', hi', hi0', hik', hij'⟩ := owners d' n j r' g' he
    have : i = i' := by
      by_cases e : n = t.number
      · have := hik e
        have := hik' e
        simp only [e, true_and] at hij hij'
        split_ifs at hij hij' <;> omega
      · simp only [e, false_and, if_false] at hij hij'
        omega
    subst this
    exact h.one d d' n i r g r' g' hi hi'
  · obtain ⟨v, hv, rfl⟩ := List.mem_map.1 hu
    by_cases e : v.number = t.number
    · obtain rfl := tickets v hv e
      rw [if_pos rfl, Ticket.markAt_eraseIdx] at hj
      rw [if_pos rfl]
      split_ifs at hj with h1 h2
      · obtain ⟨d, r, g, hd, hs⟩ := h.held v hv j side hj
        exact ⟨d, r, g, by rw [hd]; simp [CaptureOwner.renumber, Nat.not_lt.2 (Nat.le_of_lt h2)], hs⟩
      · obtain ⟨d, r, g, hd, hs⟩ := h.held v hv (j + 1) side hj
        exact ⟨d, r, g, by rw [hd]; simp [CaptureOwner.renumber, Nat.lt_succ_of_le (Nat.not_lt.1 h2)], hs⟩
    · rw [if_neg e] at hj ⊢
      obtain ⟨d, r, g, hd, hs⟩ := h.held v hv j side hj
      exact ⟨d, r, g, by rw [hd]; simp [CaptureOwner.renumber, e], hs⟩
  · obtain ⟨v, hv, rfl⟩ := List.mem_map.1 hu
    split_ifs
    · obtain ⟨h1, h2⟩ := (Ticket.recordsStand_opened ho).1 (h.records t ht)
      exact (Ticket.recordsStand_opened (t := { t with lines := t.lines.eraseIdx (k - 1) }) ho).2
        ⟨h1, fun ln hln => h2 ln (List.mem_of_mem_eraseIdx hln)⟩
    · exact h.records v hv

end

end Sys2Proof.Machine
end

section
/-! SUPPORT. The shared operations of the part as what they keep: the limits of the tables and queues (R29, R58, R133, R157, R190), and
the fit of the ticket table to the captures of its lines. -/

namespace Sys2Proof.Machine

/-! ### What an operation keeps -/

/-- The owner of the capture that waits in a slot. -/
def State.owner? (s : State) (c : ChannelId) : Option CaptureOwner := (s.channel c).slot.map Capture.owner

/-- The ticket table of a state fits the captures of its lines. -/
def State.ticketsFit (s : State) : Prop := TicketsFit s.tickets s.owner? s.nextTicket

/-- The limits of the tables and queues, with k places beside the 8 of the reprint store. -/
def State.tablesWithin (k : Nat) (s : State) : Prop :=
  s.tickets.length ≤ 48 ∧ s.tares.length ≤ 64 ∧ s.jobs.length ≤ 12 ∧ s.snapshots.length ≤ 8 + k
    ∧ ∀ p, (s.port p).attention.length ≤ 16

/-- The operations that lead from one state to another keep the limits and the fit. -/
structure State.Keeps (s t : State) : Prop where
  limits : ∀ k, s.tablesWithin k → t.tablesWithin k
  fits : s.ticketsFit → t.ticketsFit

theorem State.Keeps.refl (s : State) : s.Keeps s := ⟨fun _ => id, id⟩

theorem State.Keeps.trans {s t u : State} (h : s.Keeps t) (k : t.Keeps u) : s.Keeps u :=
  ⟨fun n hs => k.limits n (h.limits n hs), fun hs => k.fits (h.fits hs)⟩

/-- Operations done for every item of a list. -/
theorem State.Keeps.foldl {α : Type} {f : State → α → State} (h : ∀ (s : State) x, s.Keeps (f s x)) (l : List α) (s : State) :
    s.Keeps (l.foldl f s) := by
  induction l generalizing s with
  | nil => exact .refl s
  | cons x xs ih => exact (h s x).trans (ih _)

theorem State.Keeps.ite {s t : State} (b : Bool) (h : s.Keeps t) : s.Keeps (if b then t else s) := by
  cases b
  · exact .refl s
  · exact h

theorem State.Keeps.whileRunning {f : State → State} (s : State) (h : ∀ t : State, t.Keeps (f t)) : s.Keeps (s.whileRunning f) :=
  .ite _ (h s)

/-- The fit reads the ticket table, the owners of the captures and the ticket number counter alone. -/
theorem State.ticketsFit_congr {s t : State} (h1 : t.tickets = s.tickets) (h2 : ∀ c, t.owner? c = s.owner? c)
    (h3 : t.nextTicket = s.nextTicket) (h : s.ticketsFit) : t.ticketsFit := by
  unfold State.ticketsFit at h ⊢
  rwa [h1, h3, show t.owner? = s.owner? from funext h2]

/-! ### Ports, channels and events -/

/-- A port whose attention queue has not grown. -/
theorem State.keeps_setPort (s : State) (p : PortId) (x : Port) (h : x.attention.length ≤ (s.port p).attention.length) :
    s.Keeps (s.setPort p x) := by
  refine ⟨fun _ ⟨h1, h2, h3, h4, h5⟩ => ⟨h1, h2, h3, h4, fun q => ?_⟩, id⟩
  rw [State.port_setPort]
  split_ifs with e
  · exact h.trans (h5 p)
  · exact h5 q

theorem State.keeps_hunt (s : State) (p : PortId) : s.Keeps (s.hunt p) := s.keeps_setPort p _ le_rfl

theorem State.keeps_reply (s : State) (p : PortId) (tag : Byte) (a : Answer) : s.Keeps (s.reply p tag a) := s.keeps_setPort p _ le_rfl

/-- An event raised keeps every attention queue within its limit (R190). -/
theorem State.keeps_raise (s : State) (e : Event) : s.Keeps (s.raise e) :=
  ⟨fun _ ⟨h1, h2, h3, h4, h5⟩ => ⟨h1, h2, h3, h4, fun p => by
    rw [State.port_raise]; exact Port.offer_attention_length _ _ (h5 p)⟩, id⟩

/-- A channel written whose capture has the same owner. -/
theorem State.owner?_setChannel (s : State) (c : ChannelId) (x : Channel) :
    (s.setChannel c x).owner? = Function.update s.owner? c (x.slot.map Capture.owner) := by
  funext d
  rw [Function.update_apply]
  unfold State.owner?
  rw [State.channel_setChannel]
  split_ifs with e1 e2 e2
  · rfl
  · exact absurd e1.symm e2
  · exact absurd e2.symm e1
  · rfl

theorem State.keeps_setChannel (s : State) (c : ChannelId) (x : Channel) (h : x.slot = (s.channel c).slot) :
    s.Keeps (s.setChannel c x) := by
  refine ⟨fun _ => id, State.ticketsFit_congr rfl (fun d => ?_) rfl⟩
  rw [State.owner?_setChannel, h]
  exact congrFun (Function.update_eq_self c s.owner?) d

theorem State.keeps_changeChannel (s : State) (c : ChannelId) (x : Channel) (h : x.slot = (s.channel c).slot) :
    s.Keeps (s.changeChannel c x) := by
  unfold State.changeChannel
  split_ifs
  · exact s.keeps_setChannel c x h
  · exact (s.keeps_setChannel c x h).trans (State.keeps_raise _ _)

theorem State.keeps_reach (s : State) (time : Nat) : s.Keeps (s.reach time) := ⟨fun _ => id, id⟩

theorem State.keeps_giveWeighing (s : State) : s.Keeps s.giveWeighing := ⟨fun _ => id, id⟩

/-! ### The pool and the printer lines (R129 to R156) -/

theorem State.keeps_setPrinter (s : State) (r : PrinterId) (x : Printer) : s.Keeps (s.setPrinter r x) := ⟨fun _ => id, id⟩

/-- A pool that has not grown. -/
theorem State.keeps_jobs (s : State) (js : List Job) (h : js.length ≤ s.jobs.length) : s.Keeps { s with jobs := js } :=
  ⟨fun _ ⟨h1, h2, h3, h4, h5⟩ => ⟨h1, h2, h.trans h3, h4, h5⟩, id⟩

theorem State.keeps_putJob (s : State) (j : Job) : s.Keeps (s.putJob j) := s.keeps_jobs _ (List.length_map _).le

theorem State.keeps_closeReceipt (s : State) (r : PrinterId) : s.Keeps (s.closeReceipt r) := by
  unfold State.closeReceipt State.sendEnd
  split_ifs <;> exact s.keeps_setPrinter _ _

theorem State.keeps_setLock (s : State) (r : PrinterId) (l : Lock) : s.Keeps (s.setLock r l) := by
  unfold State.setLock
  split_ifs
  · exact .refl s
  · exact (s.keeps_setPrinter _ _).trans (State.keeps_raise _ _)

theorem State.keeps_settleLock (s : State) (r : PrinterId) : s.Keeps (s.settleLock r) := by
  unfold State.settleLock
  split
  · split_ifs
    · exact .refl s
    · exact s.keeps_setLock _ _
  · exact .refl s
  · exact .refl s

theorem State.keeps_leavePool (s : State) (j : Job) (o : JobOutcome) : s.Keeps (s.leavePool j o) := by
  unfold State.leavePool
  have h := (s.keeps_jobs (s.jobs.filter fun x => decide (x.id ≠ j.id)) (List.length_filter_le _ _)).trans
    (State.keeps_raise _ (.job j.id o (j.total - j.printed)))
  dsimp only
  split_ifs
  · exact h.trans (State.keeps_closeReceipt _ _)
  · exact h

theorem State.keeps_cancelOne (s : State) (j : Job) : s.Keeps (s.cancelOne j) :=
  (s.keeps_leavePool j .cancelled).trans (State.keeps_settleLock _ _)

theorem State.keeps_cancelWhere (s : State) (p : Job → Bool) : s.Keeps (s.cancelWhere p) := .foldl State.keeps_cancelOne _ s

theorem State.keeps_requeue (s : State) (j : Job) : s.Keeps (s.requeue j) :=
  (s.keeps_putJob _).trans (State.keeps_closeReceipt _ _)

theorem State.keeps_releaseLocks (s : State) (p : PortId) : s.Keeps (s.releaseLocks p) :=
  .foldl (fun u r => by
    split_ifs
    · exact u.keeps_setLock r .none
    · exact .refl u) _ s

/-- A job joins a pool with room (R133). -/
theorem State.keeps_addJob (s : State) (j : Job) (h : s.jobs.length < 12) : s.Keeps (s.addJob j) :=
  ⟨fun _ ⟨h1, h2, _, h4, h5⟩ => ⟨h1, h2, by rw [State.addJob_eq]; simpa using h, h4, h5⟩, id⟩

theorem State.keeps_serveOne (s : State) (x : OwedItem) : s.Keeps (s.serveOne x) := by
  rcases s.serveOne_cases x with ⟨h, e, -⟩ | ⟨e, -⟩
  · rw [e]; exact s.keeps_addJob _ h
  · rw [e]; exact .refl s

theorem State.keeps_runService (s : State) : s.Keeps s.runService := .foldl State.keeps_serveOne _ s

/-! ### Tickets (R29, R30, R54, R110) -/

/-- Replacing a record keeps the sizes of every table. -/
theorem State.limits_putTicket {s : State} (t : Ticket) {k : Nat} (h : s.tablesWithin k) : (s.putTicket t).tablesWithin k := by
  obtain ⟨h1, h2, h3, h4, h5⟩ := h
  exact ⟨by rw [State.putTicket_tickets, List.length_map]; exact h1, h2, h3, h4, h5⟩

/-- A record replaced by one that may take its place keeps the fit. -/
theorem State.fits_putTicket {s : State} {u t : Ticket} (hs : s.ticketsFit) (hu : u ∈ s.tickets) (h : u.MayBecome t) :
    (s.putTicket t).ticketsFit := by
  refine TicketsFit.map hs fun x hx => ?_
  split_ifs with e
  · obtain rfl := TicketsFit.eq_of_number hs hx hu (e.trans h.number)
    exact h
  · exact .refl x

theorem State.keeps_putTicket {s : State} {u t : Ticket} (hu : u ∈ s.tickets) (h : u.MayBecome t) : s.Keeps (s.putTicket t) :=
  ⟨fun _ => State.limits_putTicket t, fun hs => State.fits_putTicket hs hu h⟩

theorem State.keeps_moveTicket {s : State} {u t : Ticket} (hu : u ∈ s.tickets) (h : u.MayBecome t) : s.Keeps (s.moveTicket t) :=
  (State.keeps_putTicket hu h).trans (State.keeps_raise _ _)

/-- Every stamp given anew changes the owed field of the tickets alone (R135). -/
theorem State.keeps_restamp (s : State) : s.Keeps s.restamp := by
  refine ⟨fun _ ⟨h1, h2, h3, h4, h5⟩ => ⟨?_, h2, ?_, h4, h5⟩, fun h => TicketsFit.map h fun t _ => ⟨rfl, fun _ => rfl, .inl, id⟩⟩
  · simpa [State.restamp] using h1
  · simpa [State.restamp] using h3

theorem State.keeps_advanceStamp (s : State) : s.Keeps s.advanceStamp := by
  unfold State.advanceStamp
  split_ifs
  · exact ⟨fun _ => id, id⟩
  · exact s.keeps_restamp

theorem State.keeps_owe {s : State} {u t : Ticket} (hu : u ∈ s.tickets) (h : u.MayBecome t) (kind : TicketReceipt) (port : PortId) :
    s.Keeps (s.owe t kind port) :=
  (State.keeps_putTicket (t := { t with owed := some (s.newOwed kind (s.port port).defaultPrinter port) }) hu
    (h.trans ⟨rfl, fun _ => rfl, .inl, id⟩)).trans (State.keeps_advanceStamp _)

/-- A HELD ticket becomes PAYABLE (R110). -/
theorem Ticket.mayBecome_released {t : Ticket} (h : t.state = .held) : t.MayBecome { t with state := .payable } := by
  refine ⟨rfl, fun _ => rfl, fun ho => absurd (h.symm.trans ho) (by decide), fun ⟨_, h2, _⟩ => ?_⟩
  obtain ⟨r, hs, hp, ht, -⟩ := h2 (.inl h)
  simp [Ticket.recordsStand, hs, ht]
  exact hp

/-- Tickets of the table released in order (R110). -/
theorem State.keeps_releaseDue (s : State) (ts : List Ticket) (h : ts.Sublist s.tickets) : s.Keeps (s.releaseDue ts) := by
  refine ⟨fun k => ?_, fun hs => ?_⟩
  · clear h
    unfold State.releaseDue
    induction ts generalizing s with
    | nil => exact id
    | cons t ts ih =>
      rw [List.foldl_cons]
      split_ifs
      · exact fun hs => ih _ ((State.keeps_raise _ _).limits k (State.limits_putTicket _ hs))
      · exact ih s
  · have fit : TicketsFit (s.releaseDue ts).tickets s.owner? s.nextTicket := by
      rw [s.releaseDue_tickets_of ts (hs.distinct.sublist (h.map _))]
      refine TicketsFit.map hs fun x hx => ?_
      split
      · rename_i t ht
        have hp := List.find?_some ht
        simp only [Bool.and_eq_true, decide_eq_true_eq, Ticket.due] at hp
        obtain ⟨hn, hd, -⟩ := hp
        obtain rfl := TicketsFit.eq_of_number hs (h.subset (List.mem_of_find?_eq_some ht)) hx hn
        exact Ticket.mayBecome_released hd
      · exact .refl x
    refine State.ticketsFit_congr (s := { s with tickets := (s.releaseDue ts).tickets }) rfl (fun c => ?_) ?_ fit
    · rw [State.releaseDue_eq]; rfl
    · rw [State.releaseDue_eq]

/-- Beyond 8 snapshots the oldest is dropped (R157): one place fewer is needed. -/
theorem State.limits_dropOldest {s : State} {k : Nat} (h : s.tablesWithin (k + 1)) : s.dropOldest.tablesWithin k := by
  unfold State.dropOldest
  split_ifs with hl
  · have e := (s.poolStep_cancelWhere fun j => decide (j.source = .copySnapshot 0)).1
    obtain ⟨h1, h2, h3, h4, h5⟩ := (s.keeps_cancelWhere fun j => decide (j.source = .copySnapshot 0)).limits _ h
    refine ⟨h1, h2, (List.length_map _).trans_le h3, ?_, h5⟩
    have : s.snapshots.length ≤ 8 + (k + 1) := h.2.2.2.1
    simp only [List.length_drop]
    rw [e]
    simp only
    omega
  · obtain ⟨h1, h2, h3, h4, h5⟩ := h
    exact ⟨h1, h2, h3, by simp only [Config.maxSnapshots] at hl; omega, h5⟩

end Sys2Proof.Machine
end

section
/-! SUPPORT. The captures as what they keep: a capture that leaves its slot, ends, completes, or takes a slot (R17, R20, R23, R42, R44 to
R47, R61), and the retirement of a ticket (R54). -/

namespace Sys2Proof.Machine

/-! ### Retirement (R54, R157) -/

theorem State.PoolStep.nextTicket {s t : State} (h : s.PoolStep t) : t.nextTicket = s.nextTicket := by rw [h.1]

/-- A retired ticket leaves its place to its snapshot, and the oldest snapshot its own (R157). -/
theorem State.limits_retire {s : State} {k : Nat} (t : Ticket) (h : s.tablesWithin k) : (s.retire t).tablesWithin k := by
  obtain ⟨h1, h2, h3, h4, h5⟩ := h
  refine State.limits_dropOldest ((State.keeps_raise _ _).limits _ ⟨?_, h2, ?_, ?_, h5⟩)
  · exact (List.length_filter_le _ _).trans h1
  · simpa using h3
  · simp only [List.length_append, List.length_singleton]
    omega

/-- A ticket that is not OPEN is retired. -/
theorem State.keeps_retire {s : State} {t : Ticket} (ht : t ∈ s.tickets) (ho : t.state ≠ .opened) : s.Keeps (s.retire t) := by
  refine ⟨fun k => State.limits_retire t, fun hs => ?_⟩
  unfold State.retire
  have e := (({ s with
    snapshots := s.snapshots ++ [t]
    tickets := s.tickets.filter fun x => decide (x.number ≠ t.number)
    jobs := s.jobs.map fun j => { j with source := j.source.follow t.number s.snapshots.length } } : State).raise
      (.ticket t.number none)).dropOldest_eq
  refine State.ticketsFit_congr (s := { s with tickets := s.tickets.filter fun x => decide (x.number ≠ t.number) })
    e.tickets (fun c => ?_) ?_ (TicketsFit.filter hs ht ho)
  · unfold State.owner? State.channel
    rw [show State.channels _ = _ from e.channels]
    rfl
  · exact e.nextTicket

theorem State.keeps_retireIfDone (s : State) (n : Nat) : s.Keeps (s.retireIfDone n) := by
  unfold State.retireIfDone
  split
  · exact .refl s
  · rename_i t ht
    split_ifs with hd
    · refine State.keeps_retire (State.ticket?_mem ht) fun ho => ?_
      simp [Ticket.finished, ho] at hd
    · exact .refl s

/-! ### Marks (R42, R47) -/

/-- A mark written in a table without two tickets of one number. -/
theorem State.setMark_tickets {s : State} (hn : (s.tickets.map Ticket.number).Nodup) (n k : Nat) (role : CaptureRole) (grade : Nat)
    (m : Option Side) : (s.setMark (.line n k role grade) m).tickets = s.tickets.map (markLine n k m) := by
  cases h : s.ticket? n with
  | none =>
    rw [show s.setMark (.line n k role grade) m = s by simp only [State.setMark, h]]
    refine (List.map_id s.tickets).symm.trans (List.map_congr_left fun t ht => ?_)
    rw [markLine, if_neg (State.ticket?_eq_none.1 h t ht), id]
  | some t =>
    rw [State.setMark_line h, State.putTicket_tickets]
    refine List.map_congr_left fun x hx => ?_
    rw [Ticket.changeLine_number, State.ticket?_number h, markLine]
    split_ifs with e
    · rw [List.inj_on_of_nodup_map hn hx (State.ticket?_mem h) (e.trans (State.ticket?_number h).symm)]
    · rfl

theorem State.limits_setMark {s : State} {k : Nat} (owner : CaptureOwner) (m : Option Side) (h : s.tablesWithin k) :
    (s.setMark owner m).tablesWithin k := by
  cases owner with
  | tare plate => exact h
  | line n j role grade =>
    cases ht : s.ticket? n with
    | none => simpa only [State.setMark, ht] using h
    | some t => rw [State.setMark_line ht]; exact State.limits_putTicket _ h

/-- A completion finds what it needs: its line's ticket OPEN, and the line unmarked. -/
def State.readyFor (s : State) (owner : CaptureOwner) : Prop :=
  ∀ n k role grade, owner = .line n k role grade → ∀ t, s.ticket? n = some t → t.state = .opened ∧ t.markAt k = none

/-- A mark cleared that is not set. -/
theorem State.fits_unmark {s : State} {owner : CaptureOwner} (hr : s.readyFor owner) (hs : s.ticketsFit) :
    (s.setMark owner none).ticketsFit := by
  cases owner with
  | tare plate => exact hs
  | line n k role grade =>
    cases ht : s.ticket? n with
    | none => simpa only [State.setMark, ht] using hs
    | some t =>
      rw [State.setMark_line ht]
      refine State.fits_putTicket hs (State.ticket?_mem ht) (t.mayBecome_changeLine k _ (fun ln hl => ?_) fun _ => rfl)
      have hm := (hr n k role grade rfl t ht).2
      rw [Ticket.markAt, hl] at hm
      exact hm.symm

/-! ### The end of a capture (R23, R47) -/

theorem State.limits_freeSlot {s : State} {k : Nat} (c : ChannelId) (h : s.tablesWithin k) : (s.freeSlot c).tablesWithin k := by
  cases hc : (s.channel c).slot with
  | none => rw [State.freeSlot_none hc]; exact h
  | some cap =>
    rw [State.freeSlot_some hc]
    refine (State.keeps_setPort _ _ _ ?_).limits k (State.limits_setMark _ _ h)
    simp

/-- The owners of the waiting captures after a slot has been freed. -/
theorem State.owner?_freeSlot (s : State) (c : ChannelId) : (s.freeSlot c).owner? = Function.update s.owner? c none := by
  funext d
  rw [Function.update_apply]
  unfold State.owner?
  rw [State.channel_freeSlot]
  split_ifs <;> rfl

/-- The tickets after the slot of a line's capture has been freed. -/
theorem State.tickets_freeSlot {s : State} (hn : (s.tickets.map Ticket.number).Nodup) {c : ChannelId} {cap : Capture}
    {n k grade : Nat} {role : CaptureRole} (hc : (s.channel c).slot = some cap) (ho : cap.owner = .line n k role grade) :
    (s.freeSlot c).tickets = s.tickets.map (markLine n k none) := by
  rw [State.freeSlot_some hc, ho]
  exact State.setMark_tickets (s := s.setChannel c { s.channel c with slot := none }) hn n k role grade none

theorem State.nextTicket_freeSlot (s : State) (c : ChannelId) : (s.freeSlot c).nextTicket = s.nextTicket := by
  rw [State.freeSlot_eq]

theorem State.keeps_freeSlot (s : State) (c : ChannelId) : s.Keeps (s.freeSlot c) := by
  refine ⟨fun k => State.limits_freeSlot c, fun hs => ?_⟩
  cases hc : (s.channel c).slot with
  | none => rw [State.freeSlot_none hc]; exact hs
  | some cap =>
    have owner : s.owner? c = some cap.owner := by rw [State.owner?, hc]; rfl
    unfold State.ticketsFit
    rw [State.owner?_freeSlot, State.nextTicket_freeSlot]
    cases ho : cap.owner with
    | tare plate =>
      rw [State.freeSlot_some hc, ho]
      exact TicketsFit.updateTare hs (by simp [owner, ho]) (by simp)
    | line n k role grade =>
      rw [State.tickets_freeSlot hs.distinct hc ho]
      exact TicketsFit.free hs (owner.trans (congrArg some ho))

/-- After its slot is freed, a capture may complete: its line's ticket is OPEN and the line unmarked. -/
theorem State.readyFor_freeSlot {s : State} (hs : s.ticketsFit) {c : ChannelId} {cap : Capture}
    (hc : (s.channel c).slot = some cap) : (s.freeSlot c).readyFor cap.owner := by
  intro n k role grade ho t ht
  have owner : s.owner? c = some (.line n k role grade) := by rw [State.owner?, hc, Option.map_some, ho]
  obtain ⟨u, hu, hn, hop, -⟩ := TicketsFit.marked hs c n k role grade owner
  have hm := State.ticket?_mem ht
  rw [State.tickets_freeSlot hs.distinct hc ho] at hm
  obtain ⟨v, hv, rfl⟩ := List.mem_map.1 hm
  have e := State.ticket?_number ht
  rw [markLine_number] at e
  obtain rfl := TicketsFit.eq_of_number hs hv hu (e.trans hn.symm)
  refine ⟨(markLine_state _ _ _ _).trans hop, ?_⟩
  rw [markLine_markAt, if_pos ⟨e, rfl⟩]
  cases v.line? k <;> rfl

theorem State.keeps_endCapture (s : State) (c : ChannelId) (a : Answer) : s.Keeps (s.endCapture c a) := by
  cases h : (s.channel c).slot with
  | none => rw [State.endCapture_none a h]; exact .refl s
  | some cap => rw [State.endCapture_some a h]; exact (s.keeps_freeSlot c).trans (State.keeps_reply _ _ _ _)

/-- Captures ended one after another. -/
theorem State.keeps_endCaptures (s : State) (which : Capture → Bool) {finishOne : State → ChannelId → State}
    (h : ∀ t c, State.Keeps t (finishOne t c)) : s.Keeps (s.endCaptures which finishOne) :=
  State.endCaptures_induct (fun t => s.Keeps t) s which finishOne (.refl s) fun t c _ ht _ _ => ht.trans (h t c)

/-! ### The completion of a capture (R20, R44 to R46, R61) -/

/-- A tare capture that passes its tests has room for its plate (R61). -/
theorem length_storeTare {s : State} {plate : Text} {d : Nat} {r : Reading} (h : tareTest s plate d r = none) (hl : s.tares.length ≤ 64) :
    (s.tares.filter fun x => decide (x.plate ≠ plate)).length < 64 := by
  unfold tareTest at h
  split_ifs at h with _ _ hf
  by_cases full : s.tares.length < 64
  · exact (List.length_filter_le _ _).trans_lt full
  · simp only [Config.maxTares, Nat.not_lt.1 full, decide_true, Bool.and_true, List.all_eq_true, decide_eq_true_eq] at hf
    refine lt_of_lt_of_le (List.length_filter_lt_length_iff_exists.2 ?_) hl
    simpa using hf

theorem State.limits_completeCapture {s : State} {k : Nat} (owner : CaptureOwner) (c : ChannelId) (r : Reading) (h : s.tablesWithin k) :
    (s.completeCapture owner c r).1.tablesWithin k := by
  unfold State.completeCapture
  split_ifs
  · exact State.limits_setMark _ _ h
  · cases owner with
    | tare plate =>
      dsimp only
      split
      · exact State.limits_setMark _ _ h
      · rename_i ht
        obtain ⟨h1, h2, h3, h4, h5⟩ := h
        exact ⟨h1, by simpa [State.storeTare, State.giveWeighing] using length_storeTare ht h2, h3, h4, h5⟩
    | line n j role grade =>
      dsimp only
      split
      · exact h
      · split
        · exact h
        · split
          · exact State.limits_setMark _ _ h
          · exact State.limits_putTicket _ h

/-- A completion that finds its line's ticket OPEN and the line unmarked. -/
theorem State.fits_completeCapture {s : State} {owner : CaptureOwner} (c : ChannelId) (r : Reading) (hr : s.readyFor owner)
    (hs : s.ticketsFit) : (s.completeCapture owner c r).1.ticketsFit := by
  unfold State.completeCapture
  split_ifs
  · exact State.fits_unmark hr hs
  · cases owner with
    | tare plate =>
      dsimp only
      split
      · exact State.fits_unmark hr hs
      · exact hs
    | line n k role grade =>
      dsimp only
      split
      · exact hs
      · rename_i t ht
        obtain ⟨ho, hm⟩ := hr n k role grade rfl t ht
        split
        · exact hs
        · split
          · exact State.fits_unmark hr hs
          · exact State.fits_putTicket hs (State.ticket?_mem ht) (Ticket.mayBecome_recordWeighing ho hm role grade _)

theorem State.keeps_completeWaiting (s : State) (c : ChannelId) : s.Keeps (s.completeWaiting c) := by
  unfold State.completeWaiting
  split
  · rename_i cap r hc _
    have free := s.keeps_freeSlot c
    have done : s.Keeps ((s.freeSlot c).completeCapture cap.owner c r).1 :=
      ⟨fun k h => State.limits_completeCapture _ _ _ (free.limits k h),
        fun h => State.fits_completeCapture _ _ (State.readyFor_freeSlot h hc) (free.fits h)⟩
    exact done.trans (State.keeps_reply _ _ _ _)
  · exact .refl s

/-! ### A capture requested (R16, R17, R42) -/

/-- A channel that passes a capture's checks has its slot free (R16). -/
theorem Channel.slot_of_captureCheck {ch : Channel} (h : ch.captureCheck = none) : ch.slot = none := by
  unfold Channel.captureCheck at h
  split_ifs at h with _ _ hs
  simpa using hs

/-- A capture takes a free slot: a tare's, or one of an unmarked line of an OPEN ticket. -/
theorem State.fits_placeCapture {s : State} {c : ChannelId} {owner : CaptureOwner} {mark : Option Side} (k : Packet)
    (hc : (s.channel c).slot = none)
    (ho : ∀ n j role grade, owner = .line n j role grade →
      mark = some role.side ∧ ∃ t ln, s.ticket? n = some t ∧ t.state = .opened ∧ t.line? j = some ln ∧ ln.mark = none)
    (hs : s.ticketsFit) : (s.placeCapture c owner mark k).ticketsFit := by
  have free : s.owner? c = none := by rw [State.owner?, hc]; rfl
  have owners : (s.placeCapture c owner mark k).owner? = Function.update s.owner? c (some owner) := by
    refine (State.owner?_setChannel (s.setMark owner mark) c _).trans ?_
    rw [show (s.setMark owner mark).owner? = s.owner? from funext fun d => by unfold State.owner?; rw [State.channel_setMark]]
    rfl
  have next : (s.placeCapture c owner mark k).nextTicket = s.nextTicket :=
    show (s.setMark owner mark).nextTicket = _ by rw [State.setMark_eq]
  unfold State.ticketsFit
  rw [owners, next]
  cases owner with
  | tare plate => exact TicketsFit.updateTare hs (by simp [free]) (by simp)
  | line n j role grade =>
    obtain ⟨rfl, t, ln, ht, hop, hl, hm⟩ := ho n j role grade rfl
    have e : (s.placeCapture c (.line n j role grade) (some role.side) k).tickets = s.tickets.map (markLine n j (some role.side)) :=
      State.setMark_tickets hs.distinct n j role grade _
    rw [e, ← State.ticket?_number ht]
    exact TicketsFit.place hs free (State.ticket?_mem ht) hop hl hm role grade

/-- A capture request refused, completed at once, or placed (R16, R17). -/
theorem State.keeps_requestCapture {s : State} (c : ChannelId) {owner : CaptureOwner} {mark : Option Side} (k : Packet)
    (ho : ∀ n j role grade, owner = .line n j role grade →
      mark = some role.side ∧ ∃ t ln, s.ticket? n = some t ∧ t.state = .opened ∧ t.line? j = some ln ∧ ln.mark = none) :
    s.Keeps (s.requestCapture c owner mark k).1 := by
  have ready : s.readyFor owner := fun n j role grade e t ht => by
    obtain ⟨-, u, ln, hu, hop, hl, hm⟩ := ho n j role grade e
    obtain rfl := Option.some.inj (ht.symm.trans hu)
    exact ⟨hop, by rw [Ticket.markAt, hl, Option.bind_some, hm]⟩
  unfold State.requestCapture
  split
  · exact .refl s
  · rename_i hc
    split
    · exact ⟨fun k => State.limits_completeCapture _ _ _, State.fits_completeCapture _ _ ready⟩
    · refine ⟨fun n hs => ?_, State.fits_placeCapture k (Channel.slot_of_captureCheck hc) ho⟩
      refine (State.keeps_setPort _ k.port _ ?_).limits n
        (show ((s.setMark owner mark).setChannel c _).tablesWithin n from State.limits_setMark owner mark hs)
      exact le_rfl

end Sys2Proof.Machine
end

section
/-! SUPPORT. The scale channels, the print engine, the station lines, the clock and the restarts as what they keep: the limits of the
tables and queues, and the fit of the ticket table to the captures of its lines. -/

namespace Sys2Proof.Machine

/-! ### The scale channels (R6 to R8, R21) -/

theorem State.keeps_arrive (s : State) (c : ChannelId) (raw : Int) (high : Bool) : s.Keeps (s.arrive c raw high) := by
  unfold State.arrive
  dsimp only
  have h := s.keeps_changeChannel c ((s.channel c).join s.timebase raw high) rfl
  split_ifs
  · exact h.trans (State.keeps_completeWaiting _ c)
  · exact h

theorem State.keeps_headFault (s : State) (c : ChannelId) : s.Keeps (s.headFault c) :=
  (s.keeps_changeChannel c _ (by rfl)).trans (State.keeps_endCapture _ c _)

theorem State.keeps_expireStale (s : State) (c : ChannelId) : s.Keeps (s.expireStale c) := by
  unfold State.expireStale
  split
  · exact .refl s
  · rename_i time _
    exact (s.keeps_reach time).trans ((State.keeps_changeChannel _ c _ (by rfl)).trans (State.keeps_endCapture _ c _))

theorem State.keeps_expireCapture (s : State) (c : ChannelId) : s.Keeps (s.expireCapture c) := by
  unfold State.expireCapture
  split
  · exact .refl s
  · exact (s.keeps_reach _).trans (State.keeps_endCapture _ c _)

theorem State.keeps_readingFrame (s : State) (c : ChannelId) (raw : Int) (status : HeadStatus) (checkHolds : Bool) :
    s.Keeps (if !checkHolds || !rawInRange raw || decide ((s.channel c).state = .off) then s
      else match status with
        | .ok => s.arrive c raw false
        | .overrange => s.arrive c raw true
        | .fault => s.headFault c
        | .other => s) := by
  split_ifs
  · exact .refl s
  · cases status with
    | ok => exact s.keeps_arrive c raw false
    | overrange => exact s.keeps_arrive c raw true
    | fault => exact s.keeps_headFault c
    | other => exact .refl s

/-! ### The print engine (R130 to R149) -/

theorem State.keeps_raisePrinter (s : State) (r : PrinterId) : s.Keeps (s.raisePrinter r) := s.keeps_raise _

theorem State.keeps_sendEnd (s : State) (r : PrinterId) : s.Keeps (s.sendEnd r) := s.keeps_setPrinter r _

theorem State.keeps_sendAwaited (s : State) (r : PrinterId) (f : PrinterFrame) (job : Nat) : s.Keeps (s.sendAwaited r f job) :=
  s.keeps_setPrinter r _

theorem State.keeps_clearAwaited (s : State) (r : PrinterId) : s.Keeps (s.clearAwaited r) := s.keeps_setPrinter r _

theorem State.keeps_abortJob (s : State) (j : Job) : s.Keeps (s.abortJob j) := by
  have source : ∀ t : State, t.Keeps (match j.source with
      | .owed n _ => t.retireIfDone n
      | .copyTicket _ => t
      | .copySnapshot _ => t
      | .report _ => t) := fun t => by
    cases j.source with
    | owed n stamp => exact t.keeps_retireIfDone n
    | copyTicket n => exact .refl t
    | copySnapshot i => exact .refl t
    | report stamp => exact .refl t
  exact (s.keeps_leavePool j .aborted).trans ((source _).trans (State.keeps_settleLock _ _))

theorem State.keeps_printerFault (s : State) (r : PrinterId) : s.Keeps (s.printerFault r) := by
  unfold State.printerFault
  split
  · exact .refl s
  · split
    · exact s.keeps_requeue _
    · exact s.keeps_abortJob _
    · exact .refl s

theorem State.keeps_setStatus (s : State) (r : PrinterId) (v : PrinterStatus) : s.Keeps (s.setStatus r v) := by
  unfold State.setStatus
  dsimp only
  split_ifs
  · exact .refl s
  · exact (s.keeps_setPrinter r _).trans ((State.keeps_printerFault _ r).trans (State.keeps_raisePrinter _ r))
  · exact (s.keeps_setPrinter r _).trans (State.keeps_raisePrinter _ r)

theorem State.keeps_statusReport (s : State) (r : PrinterId) (v : PrinterReport) : s.Keeps (s.statusReport r v) :=
  (s.keeps_setPrinter r _).trans (State.keeps_setStatus _ r _)

/-- A DONE job changes its ticket's owed field and its settlement printed flag alone (R146). -/
theorem Ticket.mayBecome_afterPrint (t : Ticket) (kind : TicketReceipt) (stamp : Nat) : t.MayBecome (t.afterPrint kind stamp) :=
  ⟨rfl, fun _ => rfl, .inl, id⟩

theorem State.keeps_ticketPrinted (s : State) (n : Nat) (kind : TicketReceipt) (stamp : Nat) : s.Keeps (s.ticketPrinted n kind stamp) := by
  unfold State.ticketPrinted
  split
  · exact .refl s
  · rename_i t ht
    have h := State.keeps_putTicket (State.ticket?_mem ht) (t.mayBecome_afterPrint kind stamp)
    have hu : t.afterPrint kind stamp ∈ (s.putTicket (t.afterPrint kind stamp)).tickets :=
      State.ticket?_mem (State.ticket?_putTicket_self ht (show t.number = n from State.ticket?_number ht))
    dsimp only
    split_ifs
    · refine h.trans (State.Keeps.trans ?_ (State.keeps_retireIfDone _ _))
      unfold State.oweVoidNotice
      split
      · exact .refl _
      · exact State.keeps_owe hu (.refl _) _ _
    · exact h.trans (State.keeps_retireIfDone _ _)

/-- The day report record is neither a table nor a queue, and no ticket. -/
theorem State.keeps_report (s : State) (rep : Option DayReport) : s.Keeps { s with report := rep } := ⟨fun _ => id, id⟩

theorem State.keeps_reportPrinted (s : State) (stamp : Nat) : s.Keeps (s.reportPrinted stamp) := by
  unfold State.reportPrinted
  split
  · exact .refl s
  · split
    · exact .refl s
    · split_ifs
      · exact s.keeps_report _
      · exact .refl s

theorem State.keeps_sourceEffects (s : State) (j : Job) : s.Keeps (s.sourceEffects j) := by
  unfold State.sourceEffects
  split
  · exact s.keeps_ticketPrinted _ _ _
  · exact s.keeps_reportPrinted _
  · exact .refl s

theorem State.keeps_finishJob (s : State) (j : Job) : s.Keeps (s.finishJob j) :=
  (s.keeps_sendEnd _).trans ((State.keeps_leavePool _ j .printed).trans
    ((State.keeps_sourceEffects _ j).trans (State.keeps_settleLock _ _)))

theorem State.keeps_setStarted (s : State) (j : Job) : s.Keeps (s.setStarted j) := by
  unfold State.setStarted
  split
  · split
    · exact .refl s
    · rename_i t ht
      split
      · exact .refl s
      · split_ifs
        · exact State.keeps_putTicket (State.ticket?_mem ht) ⟨rfl, fun _ => rfl, .inl, id⟩
        · exact .refl s
  · split
    · exact .refl s
    · split
      · exact .refl s
      · split_ifs
        · exact s.keeps_report _
        · exact .refl s
  · exact .refl s
  · exact .refl s

theorem State.keeps_startPrinting (s : State) (j : Job) : s.Keeps (s.startPrinting j) :=
  (s.keeps_putJob _).trans ((State.keeps_setStarted _ _).trans (State.keeps_sendAwaited _ _ _ _))

theorem State.keeps_lineAccepted (s : State) (j : Job) : s.Keeps (s.lineAccepted j) := by
  unfold State.lineAccepted
  dsimp only
  split_ifs
  · exact (s.keeps_putJob _).trans (State.keeps_sendAwaited _ _ _ _)
  · exact s.keeps_finishJob _

theorem State.keeps_answerUsable (s : State) (r : PrinterId) (f : PrinterFrame) (accepted : Bool) :
    s.Keeps (s.answerUsable r f accepted) := by
  unfold State.answerUsable
  split
  · exact .refl s
  · split
    · exact s.keeps_startPrinting _
    · split_ifs
      · exact s.keeps_lineAccepted _
      · exact s.keeps_sendAwaited _ _ _
    · exact .refl s

theorem State.keeps_answerReport (s : State) (r : PrinterId) (a : PrinterAnswer) : s.Keeps (s.answerReport r a) := by
  cases a with
  | accepted => exact .refl s
  | report v => exact s.keeps_statusReport r v

theorem State.keeps_answer (s : State) (r : PrinterId) (a : PrinterAnswer) : s.Keeps (s.answer r a) := by
  unfold State.answer
  split
  · exact s.keeps_answerReport r a
  · have h := s.keeps_clearAwaited r
    dsimp only
    split_ifs
    · exact h.trans ((State.keeps_sendEnd _ r).trans (State.keeps_answerReport _ r a))
    · exact h.trans ((State.keeps_answerReport _ r a).trans (State.keeps_answerUsable _ r _ _))
    · exact h.trans (State.keeps_answerReport _ r a)

theorem State.keeps_expireAnswer (s : State) (r : PrinterId) : s.Keeps (s.expireAnswer r) := by
  unfold State.expireAnswer
  split
  · exact .refl s
  · rename_i w _
    dsimp only
    refine (s.keeps_reach w.expiry).trans ((State.keeps_clearAwaited _ r).trans ?_)
    split_ifs
    · exact (State.keeps_sendEnd _ r).trans (State.keeps_setStatus _ r _)
    · exact State.keeps_setStatus _ r _

theorem State.keeps_expireStatus (s : State) (r : PrinterId) : s.Keeps (s.expireStatus r) := by
  unfold State.expireStatus
  split
  · exact .refl s
  · exact (s.keeps_reach _).trans ((State.keeps_setPrinter _ r _).trans (State.keeps_setStatus _ r _))

theorem State.keeps_arbiterTake (s : State) (r : PrinterId) : s.Keeps (s.arbiterTake r) := by
  unfold State.arbiterTake
  split
  · exact .refl s
  · exact (s.keeps_putJob _).trans (State.keeps_sendAwaited _ _ _ _)

/-! ### The station lines (R175, R176, R192) -/

theorem State.keeps_frameSent (s : State) (p : PortId) : s.Keeps (s.frameSent p) := s.keeps_setPort p _ le_rfl

/-- A handover takes an entry from an attention queue, or nothing (R192). -/
theorem State.keeps_handover (s : State) (p : PortId) : s.Keeps (s.handover p) := by
  refine s.keeps_setPort p _ ?_
  unfold Port.handover
  split_ifs
  · split
    · exact le_rfl
    · rename_i e rest h
      rw [h]
      exact Nat.le_succ _
  · exact le_rfl

theorem State.keeps_expireFrame (s : State) (p : PortId) : s.Keeps (s.expireFrame p) := by
  unfold State.expireFrame
  split
  · exact .refl s
  · exact (s.keeps_reach _).trans (State.keeps_hunt _ p)

/-! ### The clock (R107, R110) -/

theorem State.keeps_clockAdvance (s : State) : s.Keeps s.clockAdvance :=
  (⟨fun _ => id, id⟩ : s.Keeps s.advanceClock).trans (.whileRunning _ fun t => t.keeps_releaseDue _ (List.Sublist.refl _))

theorem State.keeps_expireHold (s : State) (n : Nat) : s.Keeps (s.expireHold n) := by
  unfold State.expireHold
  split
  · exact .refl s
  · split
    · exact .refl s
    · split_ifs
      · exact s.keeps_releaseDue _ (List.take_sublist _ _)
      · exact .refl s

/-! ### Restarts (R182, R195, R197 to R199) -/

/-- The tickets with every mark cleared, where no capture waits. -/
theorem TicketsFit.restarted {ts : List Ticket} {owner : ChannelId → Option CaptureOwner} {next : Nat} (h : TicketsFit ts owner next) :
    TicketsFit (ts.map Ticket.unmarked) (fun _ => none) next := by
  refine ⟨?_, h.next, fun c n k role grade hc => absurd hc (by simp), fun c d n k r g r' g' hc => absurd hc (by simp),
    fun t ht k side hm => ?_, fun t ht => ?_⟩
  · rw [List.map_map]; exact h.distinct
  · obtain ⟨u, -, rfl⟩ := List.mem_map.1 ht
    rw [Ticket.markAt_eq_none_of_lines (by simp [Ticket.unmarked])] at hm
    cases hm
  · obtain ⟨u, hu, rfl⟩ := List.mem_map.1 ht
    exact Ticket.recordsStand_congr (u := u) rfl rfl rfl (by simp [Ticket.unmarked, Function.comp_def]) (h.records u hu)

/-- A start of the volatile items leaves no job, no entry, no waiting capture and no mark (Table 11-2). -/
theorem State.keeps_volatileStart (s : State) : s.Keeps s.volatileStart := by
  refine ⟨fun _ ⟨h1, h2, _, h4, _⟩ => ⟨(List.length_map _).trans_le h1, h2, Nat.zero_le _, h4, fun p => ?_⟩, fun hs => ?_⟩
  · simp [State.port, State.volatileStart, Port.restarted, Port.start]
  · have none : s.volatileStart.owner? = fun _ => none := funext fun c => by
      simp [State.owner?, State.channel, State.volatileStart, Channel.restarted]
    unfold State.ticketsFit
    rw [none]
    exact TicketsFit.restarted hs

theorem State.keeps_warmStart (s : State) : s.Keeps s.warmStart :=
  s.keeps_volatileStart.trans ((State.keeps_releaseDue _ _ (List.Sublist.refl _)).trans (State.keeps_runService _))

/-- A cold start leaves no ticket and no waiting capture (R199). -/
theorem State.keeps_coldStart (s : State) : s.Keeps s.coldStart := by
  refine State.Keeps.trans (t := s.coldRetained) ⟨fun _ ⟨_, _, h3, _, _⟩ =>
    ⟨Nat.zero_le _, Nat.zero_le _, h3, Nat.zero_le _, fun p => ?_⟩, fun _ => ?_⟩ (State.keeps_volatileStart _)
  · rw [show (s.coldRetained.port p).attention = [] by fin_cases p <;> rfl]
    exact Nat.zero_le _
  · have none : s.coldRetained.owner? = fun _ => none := funext fun c => by
      simp [State.owner?, State.channel, State.coldRetained, Channel.cold]
    unfold State.ticketsFit
    rw [none]
    exact ⟨List.nodup_nil, (⟨le_rfl, by decide⟩ : numberInRange 1), by simp, by simp, by simp [State.coldRetained], by simp [State.coldRetained]⟩

theorem State.keeps_restart (s : State) : s.Keeps s.restart := by
  unfold State.restart
  split_ifs
  · exact s.keeps_warmStart
  · exact s.keeps_coldStart

/-! ### The part's own steps (log 3) -/

theorem State.keeps_ownSteps (s : State) : s.Keeps s.ownSteps := by
  have stale : ∀ (u : State) c, u.Keeps (u.tickStale c) := fun u c => by
    unfold State.tickStale
    split
    · exact .refl u
    · exact .ite _ (u.keeps_expireStale c)
  have capture : ∀ (u : State) c, u.Keeps (u.tickCapture c) := fun u c => by
    unfold State.tickCapture
    split
    · exact .refl u
    · exact .ite _ (u.keeps_expireCapture c)
  have frame : ∀ (u : State) p, u.Keeps (u.tickFrame p) := fun u p => by
    unfold State.tickFrame
    split
    · exact .refl u
    · exact .ite _ (u.keeps_expireFrame p)
  have answer : ∀ (u : State) r, u.Keeps (u.tickAnswer r) := fun u r => by
    unfold State.tickAnswer
    split
    · exact .refl u
    · exact .ite _ (u.keeps_expireAnswer r)
  have status : ∀ (u : State) r, u.Keeps (u.tickStatus r) := fun u r => by
    unfold State.tickStatus
    split
    · exact .refl u
    · exact .ite _ (u.keeps_expireStatus r)
  unfold State.ownSteps
  dsimp only
  exact (((((((State.Keeps.foldl stale _ s).trans (.foldl capture _ _)).trans (.foldl frame _ _)).trans (.foldl answer _ _)).trans
    (.foldl status _ _)).trans (State.keeps_releaseDue _ _ (List.Sublist.refl _))).trans (State.keeps_runService _)).trans
    ((State.Keeps.foldl State.keeps_arbiterTake _ _).trans (.foldl State.keeps_handover _ _))

theorem State.keeps_idle (s : State) : s.Keeps s.idle := by
  refine State.Keeps.trans (t := { s with timebase := s.timebase + 1 }) ⟨fun _ => id, id⟩ ?_
  exact State.Keeps.trans (.ite _ (State.keeps_clockAdvance _)) (.whileRunning _ State.keeps_ownSteps)

end Sys2Proof.Machine
end

section
/-! SUPPORT. The commands of the stations and every step as what they keep: the limits of the tables and queues, and the fit of the
ticket table to the captures of its lines. -/

namespace Sys2Proof.Machine

/-! ### Requests in general (R32) -/

/-- A ticket request keeps what its effect on an allowed ticket keeps. -/
theorem State.keeps_withTicket (s : State) (inRange : Bool) (n : Nat) (allowed : TicketState → Bool) (run : Ticket → Effect)
    (h : ∀ t, s.ticket? n = some t → allowed t.state = true → s.Keeps (run t).1) :
    s.Keeps (s.withTicket inRange n allowed run).1 := by
  unfold State.withTicket
  split_ifs
  · split
    · exact .refl s
    · rename_i t ht
      split_ifs with ha
      · exact h t ht ha
      · exact .refl s
  · exact .refl s

/-- The same of a request that names a line. -/
theorem State.keeps_withLine (s : State) (inRange : Bool) (n k : Nat) (allowed : TicketState → Bool) (run : Ticket → Line → Effect)
    (h : ∀ t ln, s.ticket? n = some t → allowed t.state = true → t.line? k = some ln → s.Keeps (run t ln).1) :
    s.Keeps (s.withLine inRange n k allowed run).1 := by
  refine s.keeps_withTicket _ _ _ _ fun t ht ha => ?_
  split
  · exact .refl s
  · rename_i ln hl
    exact h t ln ht ha hl

/-- A packet taken keeps what its command's effect keeps (Table 9-10). -/
theorem takeCommand_keeps {α : Type} {bypass : Bool} {allowed : Role → Bool} {parse : List Byte → Option α}
    {run : α → State → Effect} {k : Packet} {s t : State} (h : ∀ a (u : State), u.Keeps (run a u).1)
    (ht : takeCommand bypass allowed parse run k s = .next t) : s.Keeps t := by
  cases ht
  refine .whileRunning s fun u => ?_
  have hunt := u.keeps_hunt k.port
  have reply : ∀ a, u.Keeps ((u.hunt k.port).reply k.port k.tag a) := fun a => hunt.trans (State.keeps_reply _ _ _ _)
  split_ifs
  · exact hunt
  · exact hunt
  · unfold State.passPacket
    split
    · exact reply _
    split
    · exact reply _
    rename_i a _
    have effect := h a (u.hunt k.port)
    split
    · split
      · rename_i v answer he
        rw [he] at effect
        exact (hunt.trans effect).trans (State.keeps_reply _ _ _ _)
      · rename_i v he
        rw [he] at effect
        exact hunt.trans effect
    · exact reply _

/-! ### Captures and tares (chapters 1 and 3) -/

/-- A capture whose checks pass finds its line unmarked (R41). -/
theorem Line.mark_of_captureCheck {role : CaptureRole} {t : Ticket} {ln : Line} (h : captureCheck role t ln = none) : ln.mark = none := by
  by_contra hm
  have marked : ln.mark.isSome = true := Option.isSome_iff_ne_none.2 hm
  cases role <;> simp [captureCheck, marked] at h

theorem keeps_capture (k : Packet) (a : CaptureArgs) (s : State) : s.Keeps (capture k a s).1 := by
  unfold capture
  split
  · refine s.keeps_withLine _ _ _ _ _ fun t ln ht ha hl => ?_
    split
    · exact .refl s
    · rename_i hc
      refine State.keeps_requestCapture _ k fun n j r g e => ?_
      cases e
      exact ⟨rfl, t, ln, ht, of_decide_eq_true ha, hl, Line.mark_of_captureCheck hc⟩
  · exact .refl s

theorem keeps_storeTare (k : Packet) (a : PlateByteArgs) (s : State) : s.Keeps (storeTare k a s).1 := by
  unfold storeTare
  split
  · dsimp only
    split_ifs
    · exact .refl s
    · exact State.keeps_requestCapture _ k fun n j r g e => by cases e
  · exact .refl s

theorem keeps_dropTare (plate : Text) (s : State) : s.Keeps (dropTare plate s).1 := by
  unfold dropTare
  split_ifs
  · split
    · exact .refl s
    · exact ⟨fun _ ⟨h1, h2, h3, h4, h5⟩ => ⟨h1, (List.length_filter_le _ _).trans h2, h3, h4, h5⟩, id⟩
  · exact .refl s

theorem keeps_useStoredTare (a : TicketLineArgs) (s : State) : s.Keeps (useStoredTare a s).1 := by
  refine s.keeps_withLine _ _ _ _ _ fun t ln ht _ _ => ?_
  split
  · exact .refl s
  · split
    · exact .refl s
    · split_ifs
      · exact .refl s
      · exact .refl s
      · exact .refl s
      · exact State.keeps_putTicket (State.ticket?_mem ht) (t.mayBecome_changeLine _ _ (fun _ _ => rfl) fun _ => rfl)

theorem keeps_configureScale (a : ConfigureScaleArgs) (s : State) : s.Keeps (configureScale a s).1 := by
  unfold configureScale
  split
  · split_ifs
    · exact .refl s
    · exact .refl s
    · exact s.keeps_changeChannel _ _ rfl
  · exact .refl s

theorem keeps_zeroScale (channel : Nat) (s : State) : s.Keeps (zeroScale channel s).1 := by
  unfold zeroScale
  split
  · exact .refl s
  · dsimp only
    split
    · exact .refl s
    split
    · exact .refl s
    split
    · exact .refl s
    split
    · exact .refl s
    split
    · exact .refl s
    split
    · exact .refl s
    · exact s.keeps_changeChannel _ _ rfl

/-! ### Tickets and their lines (R31 to R40) -/

theorem keeps_openTicket (port : PortId) (a : OpenTicketArgs) (s : State) : s.Keeps (openTicket port a s).1 := by
  unfold openTicket
  split
  · exact .refl s
  · dsimp only
    split_ifs with _ hl
    · exact .refl s
    · exact .refl s
    · exact .refl s
    · have room : s.tickets.length < 48 := Nat.lt_of_not_le hl
      refine State.Keeps.trans (t := s.appendTicket _) ⟨fun _ ⟨_, h2, h3, h4, h5⟩ => ⟨?_, h2, h3, h4, h5⟩, fun hs => ?_⟩
        (State.keeps_raise _ _)
      · simpa [State.appendTicket] using room
      · have free := s.newTicketNumber_mayOpen.free (TicketsFit.next hs) (by simpa [State.ledger] using room)
        rw [State.ledger_numbers] at free
        refine TicketsFit.append hs free (advanceNumber_inRange ?_) rfl rfl rfl
        obtain ⟨i, -, e, -⟩ := s.newTicketNumber_mayOpen
        exact (congrArg numberInRange e).mpr (advanceNumber_iterate_inRange (TicketsFit.next hs) i)

theorem keeps_addLine (a : AddLineArgs) (s : State) : s.Keeps (addLine a s).1 := by
  refine s.keeps_withTicket _ _ _ _ fun t ht ha => ?_
  split_ifs
  · exact .refl s
  · exact State.keeps_putTicket (State.ticket?_mem ht) (Ticket.mayBecome_append (of_decide_eq_true ha) rfl rfl)

theorem keeps_setDeduction (a : SetDeductionArgs) (s : State) : s.Keeps (setDeduction a s).1 :=
  s.keeps_withLine _ _ _ _ _ fun t _ ht _ _ =>
    State.keeps_putTicket (State.ticket?_mem ht) (t.mayBecome_changeLine _ _ (fun _ _ => rfl) fun _ => rfl)

/-- A weighing written is neither a mark nor a pricing. -/
theorem Ticket.mayBecome_setWeighing (t : Ticket) (k : Nat) (side : Side) (w : Weighing) :
    t.MayBecome (t.changeLine k fun ln => ln.setWeighing side w) :=
  t.mayBecome_changeLine _ _ (fun _ _ => by cases side <;> rfl) fun _ => by cases side <;> rfl

theorem keeps_keyWeight (a : KeyWeightArgs) (s : State) : s.Keeps (keyWeight a s).1 := by
  unfold keyWeight
  split
  · exact .refl s
  · refine s.keeps_withLine _ _ _ _ _ fun t ln ht _ _ => ?_
    split_ifs
    · exact .refl s
    · exact .refl s
    · exact (State.keeps_putTicket (State.ticket?_mem ht) (t.mayBecome_setWeighing _ _ _)).trans (State.keeps_giveWeighing _)

theorem keeps_acceptMargin (n : Nat) (s : State) : s.Keeps (acceptMargin n s).1 :=
  s.keeps_withTicket _ _ _ _ fun _ ht _ => State.keeps_putTicket (State.ticket?_mem ht) ⟨rfl, fun _ => rfl, .inl, id⟩

/-! ### Captures cancelled (R23, R37, R49) -/

/-- Captures ended keep the tickets but for their marks. -/
theorem State.endCaptures_unmarked {s : State} (hn : (s.tickets.map Ticket.number).Nodup) (which : Capture → Bool) (a : Answer) :
    (s.endCaptures which fun u c => u.endCapture c a).tickets.map Ticket.unmarked = s.tickets.map Ticket.unmarked ∧
      (s.endCaptures which fun u c => u.endCapture c a).tickets.map Ticket.number = s.tickets.map Ticket.number := by
  refine State.endCaptures_induct (fun u => u.tickets.map Ticket.unmarked = s.tickets.map Ticket.unmarked ∧
    u.tickets.map Ticket.number = s.tickets.map Ticket.number) s which _ ⟨rfl, rfl⟩ fun u c cap ⟨h1, h2⟩ hc _ => ?_
  have h := u.freeSlot_unmarked c (by rw [h2]; exact hn)
  rw [State.endCapture_some a hc]
  exact ⟨h.1.trans h1, h.2.trans h2⟩

/-- A ticket after captures have ended is the ticket before, but for its marks. -/
theorem State.ticket?_endCaptures {s : State} (hn : (s.tickets.map Ticket.number).Nodup) {which : Capture → Bool} {a : Answer}
    {n : Nat} {x : Ticket} (h : (s.endCaptures which fun u c => u.endCapture c a).ticket? n = some x) :
    ∃ t, s.ticket? n = some t ∧ t.unmarked = x.unmarked := by
  have hx := List.mem_map_of_mem (f := Ticket.unmarked) (State.ticket?_mem h)
  rw [(State.endCaptures_unmarked hn which a).1] at hx
  obtain ⟨t, ht, e⟩ := List.mem_map.1 hx
  have number : t.number = n := by
    rw [← State.ticket?_number h]
    exact show t.unmarked.number = x.unmarked.number by rw [e]
  exact ⟨t, number ▸ State.ticket?_of_mem hn ht, e⟩

/-- After the captures that meet a condition have ended, the owners that wait are those of the others. -/
theorem State.owner?_endCaptures (s : State) (which : Capture → Bool) (a : Answer) {c : ChannelId} {o : CaptureOwner}
    (h : (s.endCaptures which fun u c => u.endCapture c a).owner? c = some o) :
    ∃ cap, (s.channel c).slot = some cap ∧ cap.owner = o ∧ which cap = false := by
  unfold State.owner? at h
  rw [s.channel_endCaptures which _ (fun u c d => u.channel_endCapture c d a)] at h
  split_ifs at h with hw
  · cases h
  · obtain ⟨cap, hc, ho⟩ := Option.map_eq_some_iff.1 h
    rw [hc] at hw
    exact ⟨cap, hc, ho, by simpa using hw⟩

/-- A removed line's captures are renumbered with the lines (R36). -/
theorem State.owner?_renumberCaptures (s : State) (n k : Nat) :
    (s.renumberCaptures n k).owner? = fun c => (s.owner? c).map (CaptureOwner.renumber n k) := by
  funext c
  simp only [State.owner?, State.renumberCaptures, State.channel, Fin.getElem_fin, mapItems_getElem, Option.map_map]
  rfl

/-- An unmarked line of an OPEN ticket is removed. -/
theorem State.fits_removeLine {s : State} {n k : Nat} (hk : k ≠ 0)
    (h : ∀ t, s.ticket? n = some t → t.state = .opened ∧ t.markAt k = none) (hs : s.ticketsFit) : (s.removeLine n k).ticketsFit := by
  unfold State.removeLine
  split
  · exact hs
  · rename_i t ht
    obtain ⟨ho, hm⟩ := h t ht
    unfold State.ticketsFit
    rw [State.owner?_renumberCaptures, ← State.ticket?_number ht]
    exact TicketsFit.erase hs (State.ticket?_mem ht) hk ho hm

theorem State.limits_removeLine {s : State} {i : Nat} (n k : Nat) (h : s.tablesWithin i) : (s.removeLine n k).tablesWithin i := by
  unfold State.removeLine
  split
  · exact h
  · exact State.limits_putTicket _ h

theorem Ticket.line?_ne_zero {t : Ticket} {k : Nat} {ln : Line} (h : t.line? k = some ln) : k ≠ 0 := by
  rintro rfl; cases h

theorem keeps_removeLine (a : TicketLineArgs) (s : State) : s.Keeps (removeLine a s).1 := by
  refine s.keeps_withLine _ _ _ _ _ fun t ln ht ha hl => ?_
  have number := State.ticket?_number ht
  have opened : t.state = .opened := of_decide_eq_true ha
  dsimp only [State.finish_eq]
  split_ifs with hm
  · have cancel := s.keeps_endCaptures (Capture.forLine t.number a.line) fun u c => u.keeps_endCapture c (.stop .cancelled 0)
    refine ⟨fun i hs => State.limits_removeLine _ _ (cancel.limits i hs), fun hs => State.fits_removeLine (Ticket.line?_ne_zero hl)
      (fun x hx => ?_) (cancel.fits hs)⟩
    obtain ⟨y, hy, e⟩ := State.ticket?_endCaptures hs.distinct hx
    rw [number, ht] at hy
    cases hy
    have state : t.state = x.state := (congrArg Ticket.state e : t.unmarked.state = x.unmarked.state)
    refine ⟨state ▸ opened, TicketsFit.unmarked (cancel.fits hs) (State.ticket?_mem hx) (.inr ?_)⟩
    intro c role grade ho
    obtain ⟨cap, -, e, hf⟩ := State.owner?_endCaptures _ _ _ ho
    simp [Capture.forLine, e, State.ticket?_number hx] at hf
  · refine ⟨fun i => State.limits_removeLine _ _, State.fits_removeLine (Ticket.line?_ne_zero hl) fun x hx => ?_⟩
    rw [number, ht] at hx
    cases hx
    exact ⟨opened, by rw [Ticket.markAt, hl]; simpa using hm⟩

end Sys2Proof.Machine
end

section
/-! SUPPORT. The commands that change a ticket's state, the settings, the prices and the printers, and every step, as what they keep. -/

namespace Sys2Proof.Machine

/-! ### VOID TICKET and REOPEN TICKET (R48 to R53) -/

/-- The day totals are neither a table nor a queue, and no ticket. -/
theorem State.keeps_totals (s : State) (x : Totals) : s.Keeps { s with totals := x } := ⟨fun _ => id, id⟩

theorem State.keeps_oweNoticeAtVoid (s : State) (n : Nat) (port : PortId) : s.Keeps (s.oweNoticeAtVoid n port) := by
  unfold State.oweNoticeAtVoid
  split
  · exact .refl s
  · rename_i t ht
    split_ifs
    · exact State.keeps_owe (State.ticket?_mem ht) (.refl t) _ _
    · exact .refl s

theorem State.keeps_withdrawAtVoid {s : State} {t : Ticket} (ht : t ∈ s.tickets) : s.Keeps (s.withdrawAtVoid t) := by
  have cleared : s.Keeps (s.putTicket { t with owed := none }) := State.keeps_putTicket ht ⟨rfl, fun _ => rfl, .inl, id⟩
  unfold State.withdrawAtVoid
  split
  · exact .refl s
  · split
    · exact cleared
    · split_ifs
      · exact .refl s
      · exact cleared.trans (State.keeps_cancelOne _ _)

/-- A ticket without a mark becomes VOID: it may hold any record (R49). -/
theorem Ticket.mayBecome_voided {t : Ticket} (hm : ∀ k, t.markAt k = none) (port : PortId) (reason : Nat) :
    t.MayBecome (t.voidedBy port reason) :=
  ⟨rfl, fun _ => rfl, fun _ => .inr hm, fun _ => by simp [Ticket.recordsStand, Ticket.voidedBy]⟩

/-- A ticket record written in the place of one of its number stands in the table. -/
theorem State.mem_putTicket_self {s : State} {t u : Ticket} (hu : u ∈ s.tickets) (h : u.number = t.number) : t ∈ (s.putTicket t).tickets := by
  rw [State.putTicket_tickets]
  exact List.mem_map.2 ⟨u, hu, if_pos h⟩

theorem State.mem_moveTicket_self {s : State} {t u : Ticket} (hu : u ∈ s.tickets) (h : u.number = t.number) : t ∈ (s.moveTicket t).tickets :=
  State.mem_putTicket_self hu h

theorem State.limits_moveTicket {s : State} {i : Nat} (t : Ticket) (h : s.tablesWithin i) : (s.moveTicket t).tablesWithin i :=
  (State.keeps_raise _ _).limits i (State.limits_putTicket t h)

theorem State.keeps_voidTicket (s : State) (n : Nat) (port : PortId) (reason : Nat) : s.Keeps (s.voidTicket n port reason) := by
  have cancel : s.Keeps (s.cancelTicketCaptures n) := s.keeps_endCaptures _ fun u c => u.keeps_endCapture c _
  unfold State.voidTicket
  dsimp only
  split
  · exact cancel
  · rename_i t ht
    let u : State := { s.cancelTicketCaptures n with totals := (s.cancelTicketCaptures n).totals.countVoid }
    have counted : s.Keeps u := cancel.trans (State.keeps_totals _ _)
    have hu : t ∈ u.tickets := State.ticket?_mem ht
    have moved : s.Keeps (u.moveTicket (t.voidedBy port reason)) := by
      refine ⟨fun i hs => State.limits_moveTicket _ (counted.limits i hs), fun hs => ?_⟩
      refine (State.keeps_moveTicket hu (Ticket.mayBecome_voided (fun k => ?_) port reason)).fits (counted.fits hs)
      refine TicketsFit.unmarked (cancel.fits hs) hu (.inr fun c role grade ho => ?_)
      obtain ⟨cap, -, e, hf⟩ := State.owner?_endCaptures _ _ _ ho
      simp [Capture.forTicket, e, State.ticket?_number ht] at hf
    have stands : t.voidedBy port reason ∈ (u.moveTicket (t.voidedBy port reason)).tickets := State.mem_moveTicket_self hu rfl
    exact (moved.trans (State.keeps_withdrawAtVoid stands)).trans
      ((State.keeps_oweNoticeAtVoid _ _ _).trans (State.keeps_retireIfDone _ _))

theorem keeps_voidTicket (port : PortId) (a : TicketByteArgs) (s : State) : s.Keeps (voidTicket port a s).1 := by
  refine s.keeps_withTicket _ _ _ _ fun t _ _ => ?_
  split_ifs
  · exact .refl s
  · exact s.keeps_voidTicket _ _ _

theorem State.keeps_withdrawAtReopen (s : State) (t : Ticket) : s.Keeps (s.withdrawAtReopen t) := by
  unfold State.withdrawAtReopen
  split
  · exact .refl s
  · split
    · exact .refl s
    · split_ifs
      · exact s.keeps_putJob _
      · exact s.keeps_cancelOne _

/-- A ticket reopened keeps its marks and holds neither a pricing nor a settlement (R53). -/
theorem Ticket.mayBecome_reopened (t : Ticket) : t.MayBecome t.reopened :=
  ⟨rfl, Ticket.markAt_congr (by simp [Ticket.reopened, Function.comp_def]), fun _ => .inl rfl,
    fun _ => (Ticket.recordsStand_opened (t := t.reopened) rfl).2 ⟨rfl, by simp [Ticket.reopened]⟩⟩

theorem keeps_reopenTicket (n : Nat) (s : State) : s.Keeps (reopenTicket n s).1 := by
  refine s.keeps_withTicket _ _ _ _ fun t ht _ => ?_
  split_ifs
  · exact .refl s
  · have hu : t ∈ (s.withdrawAtReopen t).tickets := by
      rw [(s.poolStep_withdrawAtReopen t).tickets]
      exact State.ticket?_mem ht
    exact ((s.keeps_withdrawAtReopen t).trans (State.keeps_moveTicket hu t.mayBecome_reopened)).trans (State.keeps_cancelWhere _ _)

/-! ### CLOSE TICKET (R86, R96 to R99) -/

theorem firstLine_eq_none {p : Line → Bool} {lines : List Line} : firstLine p lines = none ↔ ∀ ln ∈ lines, p ln = false := by
  simp [firstLine, List.findIdx?_eq_none_iff]

/-- A ticket that passes the checks of a close has every line unmarked, complete and priced (R86). -/
theorem closeCheck_eq_none {b : Bank} {t : Ticket} (h : closeCheck b t = none) :
    (∀ ln ∈ t.lines, ln.mark = none) ∧ ∀ ln ∈ t.lines, ln.incomplete = false ∧ ln.noPrice b t.customerClass = false := by
  unfold closeCheck at h
  split_ifs at h
  split at h
  · cases h
  rename_i marks
  split at h
  · cases h
  rename_i complete
  split at h
  · cases h
  split at h
  · cases h
  have price := Option.map_eq_none_iff.1 h
  rw [firstLine_eq_none] at marks complete price
  exact ⟨fun ln hl => by simpa using marks ln hl, fun ln hl => ⟨complete ln hl, price ln hl⟩⟩

/-- A complete line with a price is priced, and keeps its mark (R96). -/
theorem Line.pricing_priced {mode : RoundingMode} {b : Bank} {cls : CustomerClass} {ln : Line} (hc : ln.incomplete = false)
    (hp : ln.noPrice b cls = false) : (ln.priced mode b cls).pricing ≠ none := by
  simp only [Line.incomplete, Bool.or_eq_false_iff, Option.isNone_eq_false_iff] at hc
  obtain ⟨g, hg⟩ := Option.isSome_iff_exists.1 hc.1
  obtain ⟨t, ht⟩ := Option.isSome_iff_exists.1 hc.2
  obtain ⟨l, hl⟩ := Option.isSome_iff_exists.1 (Option.isNone_eq_false_iff.1 hp)
  simp [Line.priced, hg, ht, hl]

theorem Line.mark_priced (mode : RoundingMode) (b : Bank) (cls : CustomerClass) (ln : Line) : (ln.priced mode b cls).mark = ln.mark := by
  unfold Line.priced
  split <;> rfl

/-- A ticket closed is HELD with a release time, or PAYABLE (R99). -/
theorem State.mayBecome_settled {s : State} {t : Ticket} (h : closeCheck s.active t = none) : t.MayBecome (s.settled t) := by
  obtain ⟨marks, priced⟩ := closeCheck_eq_none h
  refine ⟨rfl, Ticket.markAt_congr ?_, fun _ => .inr (Ticket.markAt_eq_none_of_lines marks), fun _ => ?_⟩
  · simp only [State.settled, List.map_map]
    exact List.map_congr_left fun ln _ => Line.mark_priced _ _ _ ln
  · have all : ∀ ln ∈ (s.settled t).lines, ln.pricing ≠ none := fun ln hl => by
      obtain ⟨x, hx, rfl⟩ := List.mem_map.1 hl
      exact Line.pricing_priced (priced x hx).1 (priced x hx).2
    have state : (s.settled t).state = if (s.settlementOf t (s.settled t).lines).release.isSome then .held else .payable := rfl
    refine ⟨fun e => ?_, fun _ => ⟨s.settlementOf t (s.settled t).lines, rfl, all, rfl, fun e hr => ?_⟩, fun e => ?_⟩
    · rw [state] at e
      split_ifs at e
    · rw [state, if_neg (by rw [hr]; exact Bool.false_ne_true)] at e
      cases e
    · rw [state] at e
      split_ifs at e

theorem keeps_closeTicket (port : PortId) (a : TicketByteArgs) (s : State) : s.Keeps (closeTicket port a s).1 := by
  refine s.keeps_withTicket _ _ _ _ fun t ht _ => ?_
  split
  · exact .refl s
  · rename_i hc
    have settled := State.keeps_moveTicket (State.ticket?_mem ht) (State.mayBecome_settled hc)
    have stands : s.settled t ∈ (s.moveTicket (s.settled t)).tickets := State.mem_moveTicket_self (State.ticket?_mem ht) rfl
    dsimp only
    split_ifs
    · exact settled.trans (State.keeps_owe stands (.refl _) _ _)
    · exact settled

/-! ### Payout and the day (chapters 6 and 8) -/

theorem keeps_setClock (time : ClockTime) (s : State) : s.Keeps (setClock time s).1 := by
  unfold setClock
  split_ifs
  · exact (⟨fun _ => id, id⟩ : s.Keeps { s with clock := time }).trans (State.keeps_releaseDue _ _ (List.Sublist.refl _))
  · exact .refl s

theorem keeps_releaseHold (n : Nat) (s : State) : s.Keeps (releaseHold n s).1 :=
  s.keeps_withTicket _ _ _ _ fun _ ht ha =>
    State.keeps_moveTicket (State.ticket?_mem ht) (Ticket.mayBecome_released (of_decide_eq_true ha))

theorem keeps_floatDrawer (port : PortId) (a : DrawerArgs) (s : State) : s.Keeps (floatDrawer port a s).1 := by
  unfold floatDrawer
  split
  · split_ifs
    · exact .refl s
    · split
      · exact .refl s
      · split_ifs
        · exact .refl s
        · exact s.keeps_setPort _ _ le_rfl
  · exact .refl s

theorem keeps_liftDrawer (a : DrawerArgs) (s : State) : s.Keeps (liftDrawer a s).1 := by
  unfold liftDrawer
  split
  · split
    · exact .refl s
    · split_ifs
      · exact .refl s
      · exact s.keeps_setPort _ _ le_rfl
  · exact .refl s

theorem State.keeps_convertJob (s : State) (t : Ticket) (o : Owed) (j : Job) : s.Keeps (s.convertJob t o j) := by
  unfold State.convertJob
  dsimp only
  split
  · exact s.keeps_putJob _
  · split_ifs
    · exact s.keeps_putJob _
    · exact (s.keeps_putJob _).trans (State.keeps_closeReceipt _ _)
  · exact .refl s

theorem State.keeps_owePayout {s : State} {t : Ticket} (ht : t ∈ s.tickets) (port : PortId) : s.Keeps (s.owePayout t port) := by
  have owed : s.Keeps (s.putTicket { t with owed := some (s.newOwed .payout (s.port port).defaultPrinter port) }) :=
    State.keeps_putTicket ht ⟨rfl, fun _ => rfl, .inl, id⟩
  unfold State.owePayout
  dsimp only
  refine State.Keeps.trans ?_ (State.keeps_advanceStamp _)
  split
  · exact owed
  · split
    · exact owed
    · exact owed.trans (State.keeps_convertJob _ _ _ _)

/-- A PAYABLE ticket becomes PAID with a payout record (R124). -/
theorem State.mayBecome_paid (s : State) {t : Ticket} (h : t.state = .payable) (port : PortId) (method : PayMethod) (amount : Nat)
    (rounding : Int) : t.MayBecome (s.paidTicket t port method amount rounding) := by
  refine ⟨rfl, fun _ => rfl, fun ho => absurd (h.symm.trans ho) (by decide), fun ⟨_, h2, _⟩ => ?_⟩
  obtain ⟨r, hs, hp, ht, -⟩ := h2 (.inr (.inl h))
  simp [Ticket.recordsStand, State.paidTicket, hs, ht]
  exact hp

theorem State.keeps_payTicket {s : State} {t : Ticket} (ht : t ∈ s.tickets) (h : t.state = .payable) (port : PortId)
    (method : PayMethod) (amount : Nat) (rounding : Int) (hit : Bool) : s.Keeps (s.payTicket t port method amount rounding hit) := by
  let u : State := { s with totals := (s.totals.feed t.lines method amount rounding).orSaturated hit }
  have fed : s.Keeps u := s.keeps_totals _
  have paid := State.keeps_moveTicket (s := u) ht (s.mayBecome_paid h port method amount rounding)
  have stands : s.paidTicket t port method amount rounding ∈ (u.moveTicket (s.paidTicket t port method amount rounding)).tickets :=
    State.mem_moveTicket_self (s := u) ht rfl
  exact (fed.trans paid).trans (State.keeps_owePayout stands port)

theorem State.keeps_payCash {s : State} {t : Ticket} (ht : t ∈ s.tickets) (h : t.state = .payable) (port : PortId) (total : Nat) :
    s.Keeps (s.payCash port t total).1 := by
  unfold State.payCash
  split
  · exact .refl s
  · dsimp only
    split_ifs
    · exact .refl s
    · exact .refl s
    · rename_i d _ _ _
      have drawer : s.Keeps (s.setDrawer port (d.payOut (cashAmount s.settings.cashUnit total)).1) := s.keeps_setPort port _ le_rfl
      exact drawer.trans (State.keeps_payTicket (s := s.setDrawer port _) ht h _ _ _ _ _)

theorem keeps_pay (port : PortId) (a : TicketByteArgs) (s : State) : s.Keeps (pay port a s).1 := by
  unfold pay
  split
  · split
    · exact .refl s
    · rename_i t ht
      split_ifs with _ hp
      · exact .refl s
      · exact .refl s
      · have payable : t.state = .payable := not_not.1 hp
        split
        · exact State.keeps_payCash (State.ticket?_mem ht) payable _ _
        · exact State.keeps_payTicket (State.ticket?_mem ht) payable _ _ _ _ _
  · exact .refl s

theorem keeps_endDay (port : PortId) (printer : Nat) (s : State) : s.Keeps (endDay port printer s).1 := by
  unfold endDay
  split
  · exact .refl s
  · split_ifs
    · exact .refl s
    · dsimp only [State.finish_eq, State.endDay]
      refine State.Keeps.trans ?_ (State.keeps_advanceStamp _)
      refine ⟨fun _ ⟨h1, h2, h3, h4, h5⟩ => ⟨h1, h2, h3, h4, fun p => ?_⟩, id⟩
      simpa [State.port, Port.zeroPaid] using h5 p

/-! ### Prices, printers and copies (chapters 4 and 7) -/

theorem keeps_editRule (a : EditRuleArgs) (s : State) : s.Keeps (editRule a s).1 := by
  unfold editRule
  split
  · exact ⟨fun _ => id, id⟩
  · exact .refl s

theorem keeps_commitPrices (u : Unit) (s : State) : s.Keeps (commitPrices u s).1 := by
  unfold commitPrices
  split
  · exact .refl s
  · dsimp only [State.finish_eq]
    refine State.Keeps.trans ?_ (State.keeps_raise _ _)
    exact ⟨fun _ => id, id⟩

theorem keeps_discardPrices (u : Unit) (s : State) : s.Keeps (discardPrices u s).1 := by
  unfold discardPrices
  split
  · exact .refl s
  · exact ⟨fun _ => id, id⟩

theorem keeps_lockPrinter (port : PortId) (printer : Nat) (s : State) : s.Keeps (lockPrinter port printer s).1 := by
  unfold lockPrinter
  split
  · exact .refl s
  · split
    · exact .refl s
    · exact .refl s
    · split
      · exact s.keeps_setLock _ _
      · split_ifs
        · exact s.keeps_setLock _ _
        · split
          · exact s.keeps_setLock _ _
          · exact (s.keeps_requeue _).trans (State.keeps_setLock _ _ _)
          · exact s.keeps_setLock _ _

theorem keeps_unlockPrinter (printer : Nat) (s : State) : s.Keeps (unlockPrinter printer s).1 := by
  unfold unlockPrinter
  split
  · exact .refl s
  · split
    · exact .refl s
    · exact s.keeps_setLock _ _
    · exact s.keeps_setLock _ _

theorem keeps_cancelJob (port : PortId) (id : Nat) (s : State) : s.Keeps (cancelJob port id s).1 := by
  unfold cancelJob
  split
  · exact .refl s
  split
  · exact .refl s
  split
  · exact .refl s
  split
  · exact .refl s
  · exact .refl s
  · split
    · exact .refl s
    · exact s.keeps_cancelOne _

theorem keeps_printCopy (port : PortId) (a : TicketByteArgs) (s : State) : s.Keeps (printCopy port a s).1 := by
  unfold printCopy
  split
  · split
    · exact .refl s
    · split_ifs with room
      · exact .refl s
      · exact s.keeps_addJob _ (Nat.lt_of_not_le room)
  · exact .refl s

theorem keeps_setHeader (a : SetHeaderArgs) (s : State) : s.Keeps (setHeader a s).1 := by
  unfold setHeader
  split
  · split_ifs
    · exact .refl s
    · exact ⟨fun _ => id, id⟩
  · exact .refl s

/-! ### The part as a whole (chapters 9, 10 and 11) -/

theorem keeps_setOption (a : SetOptionArgs) (s : State) : s.Keeps (setOption a s).1 := by
  unfold setOption
  split
  · exact .refl s
  · split
    · exact .refl s
    · exact ⟨fun _ => id, id⟩

theorem keeps_configurePort (requester : PortId) (a : ConfigurePortArgs) (s : State) : s.Keeps (configurePort requester a s).1 := by
  unfold configurePort
  split
  · exact .refl s
  · split
    · exact .refl s
    · unfold State.configurePort
      dsimp only [State.finish_eq]
      rename_i x _ _ _
      have named := s.keeps_setPort x.port { (s.port x.port).withRole x.role with defaultPrinter := x.printer } le_rfl
      split
      · exact named
      · split_ifs
        · exact named.trans ((State.keeps_setPort _ requester _ (by exact le_rfl)).trans (State.keeps_releaseLocks _ _))
        · exact named

theorem keeps_portReset (port : PortId) (x : Unit) (s : State) : s.Keeps (portReset port x s).1 :=
  (s.keeps_endCaptures _ fun u c => u.keeps_freeSlot c).trans
    ((State.keeps_releaseLocks _ port).trans (State.keeps_setPort _ port _ (Nat.zero_le _)))

theorem keeps_subscribe (port : PortId) (set : Nat) (s : State) : s.Keeps (subscribe port set s).1 := by
  unfold subscribe
  split_ifs
  · exact .refl s
  · exact s.keeps_setPort _ _ le_rfl

theorem keeps_releaseAttention (port : PortId) (value : Nat) (s : State) : s.Keeps (releaseAttention port value s).1 := by
  unfold releaseAttention
  split
  · exact .refl s
  · exact s.keeps_setPort _ _ le_rfl

theorem keeps_readAttention (port : PortId) (x : Unit) (s : State) : s.Keeps (readAttention port x s).1 :=
  s.keeps_setPort port { s.port port with attention := (s.port port).attention.drop 4 } (by simp)

/-! ### The commands that only read -/

theorem keeps_readScale (channel : Nat) (s : State) : s.Keeps (readScale channel s).1 := by
  unfold readScale; split <;> exact .refl s

theorem keeps_readTicket (a : TicketByteArgs) (s : State) : s.Keeps (readTicket a s).1 := by
  refine s.keeps_withTicket _ _ _ _ fun t _ _ => ?_
  split_ifs
  · exact .refl s
  · split <;> exact .refl s

theorem keeps_listTickets (place : Nat) (s : State) : s.Keeps (listTickets place s).1 := by
  unfold listTickets; split_ifs <;> exact .refl s

theorem keeps_readTare (a : PlateByteArgs) (s : State) : s.Keeps (readTare a s).1 := by
  unfold readTare
  split_ifs
  · exact .refl s
  · exact .refl s
  · exact .refl s
  · split <;> exact .refl s

theorem keeps_readRule (a : TwoByteArgs) (s : State) : s.Keeps (readRule a s).1 := by
  unfold readRule
  split
  · split <;> exact .refl s
  · exact .refl s

theorem keeps_readDrawer (port : PortId) (named : Nat) (s : State) : s.Keeps (readDrawer port named s).1 := by
  unfold readDrawer
  split
  · exact .refl s
  · split_ifs
    · exact .refl s
    · split <;> exact .refl s

theorem keeps_readPrinter (printer : Nat) (s : State) : s.Keeps (readPrinter printer s).1 := by
  unfold readPrinter; split <;> exact .refl s

theorem keeps_readTotals (a : TwoByteArgs) (s : State) : s.Keeps (readTotals a s).1 := by
  unfold readTotals
  split
  · exact .refl s
  · split_ifs
    · exact .refl s
    · split
      · exact .refl s
      · split <;> exact .refl s

/-! ### Packets and steps -/

theorem takeUnknown_keeps {k : Packet} {s t : State} (h : takeUnknown k s = .next t) : s.Keeps t := by
  cases h
  refine .whileRunning s fun u => ?_
  have hunt := u.keeps_hunt k.port
  split_ifs
  · exact hunt
  · exact hunt
  · refine hunt.trans ?_
    unfold State.answerUnknown
    split <;> exact State.keeps_reply _ _ _ _

/-- Every packet that a receiver has taken. -/
theorem takePacket_keeps {i : Instr} {s t : State} (h : takePacket i s = .next t) : s.Keeps t := by
  cases i with
  | readStatus k => exact takeCommand_keeps (run := readStatus k.port) (fun _ u => .refl u) h
  | portReset k => exact takeCommand_keeps (keeps_portReset k.port) h
  | configurePort k => exact takeCommand_keeps (keeps_configurePort k.port) h
  | setOption k => exact takeCommand_keeps keeps_setOption h
  | clearFault k => exact takeCommand_keeps (run := clearFault) (fun _ _ => ⟨fun _ => id, id⟩) h
  | systemReset k => exact takeCommand_keeps (run := systemReset) (fun _ u => u.keeps_restart) h
  | configureScale k => exact takeCommand_keeps keeps_configureScale h
  | zero k => exact takeCommand_keeps keeps_zeroScale h
  | readScale k => exact takeCommand_keeps keeps_readScale h
  | openTicket k => exact takeCommand_keeps (keeps_openTicket k.port) h
  | addLine k => exact takeCommand_keeps keeps_addLine h
  | removeLine k => exact takeCommand_keeps keeps_removeLine h
  | setDeduction k => exact takeCommand_keeps keeps_setDeduction h
  | keyWeight k => exact takeCommand_keeps keeps_keyWeight h
  | acceptMargin k => exact takeCommand_keeps keeps_acceptMargin h
  | capture k => exact takeCommand_keeps (keeps_capture k) h
  | voidTicket k => exact takeCommand_keeps (keeps_voidTicket k.port) h
  | reopenTicket k => exact takeCommand_keeps keeps_reopenTicket h
  | readTicket k => exact takeCommand_keeps keeps_readTicket h
  | listTickets k => exact takeCommand_keeps keeps_listTickets h
  | storeTare k => exact takeCommand_keeps (keeps_storeTare k) h
  | dropTare k => exact takeCommand_keeps keeps_dropTare h
  | readTare k => exact takeCommand_keeps keeps_readTare h
  | useStoredTare k => exact takeCommand_keeps keeps_useStoredTare h
  | editRule k => exact takeCommand_keeps keeps_editRule h
  | commitPrices k => exact takeCommand_keeps keeps_commitPrices h
  | discardPrices k => exact takeCommand_keeps keeps_discardPrices h
  | readRule k => exact takeCommand_keeps keeps_readRule h
  | closeTicket k => exact takeCommand_keeps (keeps_closeTicket k.port) h
  | setClock k => exact takeCommand_keeps keeps_setClock h
  | releaseHold k => exact takeCommand_keeps keeps_releaseHold h
  | float k => exact takeCommand_keeps (keeps_floatDrawer k.port) h
  | lift k => exact takeCommand_keeps keeps_liftDrawer h
  | readDrawer k => exact takeCommand_keeps (keeps_readDrawer k.port) h
  | pay k => exact takeCommand_keeps (keeps_pay k.port) h
  | lockPrinter k => exact takeCommand_keeps (keeps_lockPrinter k.port) h
  | unlockPrinter k => exact takeCommand_keeps keeps_unlockPrinter h
  | cancelJob k => exact takeCommand_keeps (keeps_cancelJob k.port) h
  | printCopy k => exact takeCommand_keeps (keeps_printCopy k.port) h
  | setHeader k => exact takeCommand_keeps keeps_setHeader h
  | readPrinter k => exact takeCommand_keeps keeps_readPrinter h
  | readTotals k => exact takeCommand_keeps keeps_readTotals h
  | endDay k => exact takeCommand_keeps (keeps_endDay k.port) h
  | subscribe k => exact takeCommand_keeps (keeps_subscribe k.port) h
  | releaseAttention k => exact takeCommand_keeps (keeps_releaseAttention k.port) h
  | readAttention k => exact takeCommand_keeps (keeps_readAttention k.port) h
  | clearOverflow k => exact takeCommand_keeps (run := clearOverflow k.port) (fun _ u => u.keeps_setPort _ _ le_rfl) h
  | unknownCommand k code => exact takeUnknown_keeps h
  | discardedPacket | frameAbandoned | interByteTimeout | frameSent | attentionHandover | readingFrame | staleExpiry
  | captureTimeout | printerStatusFrame | printerAnswer | answerTimerExpiry | statusTimerExpiry | arbiterTake
  | owedReceiptService | clockAdvance | holdExpiry | powerUp | mainSupplyFail | resetLineAssert | resetLineRelease
  | startByte | batteryFailure => cases h; exact .refl s

/-- What a state reached keeps, as the outcome of a row. -/
theorem keeps_of_next {s t u : State} (h : s.Keeps u) (e : (Host.Outcome.next u : Result) = .next t) : s.Keeps t := by
  cases e; exact h

theorem takeBody_keeps {p : PortId} {body : List Byte} {s t : State} (h : takeBody p body s = .next t) : s.Keeps t := by
  have hunt : s.Keeps (s.whileRunning fun s => s.hunt p) := .whileRunning s fun u => u.keeps_hunt p
  unfold takeBody at h
  split at h
  · exact keeps_of_next hunt h
  · split at h
    · exact keeps_of_next hunt h
    · exact takePacket_keeps h

theorem takeStartByte_keeps {p : PortId} {s t : State} (h : takeStartByte p s = .next t) : s.Keeps t := by
  have receiver : ∀ x, s.Keeps (s.setReceiver p x) := fun x => s.keeps_setPort p _ le_rfl
  unfold takeStartByte at h
  dsimp only at h
  split at h
  · exact keeps_of_next (receiver _) h
  · split at h
    · exact keeps_of_next (receiver _) h
    · exact keeps_of_next (s.keeps_hunt p) h
    · exact takeBody_keeps h

/-- Every row. -/
theorem exec_keeps {i : Instr} {s t : State} (h : exec i s = .next t) : s.Keeps t := by
  have same : ∀ b : Bool, s.Keeps { s with mainSupply := b } ∧ s.Keeps { s with resetHigh := b } ∧ s.Keeps { s with signatureHolds := b } :=
    fun _ => ⟨⟨fun _ => id, id⟩, ⟨fun _ => id, id⟩, ⟨fun _ => id, id⟩⟩
  cases i with
  | unknownCommand k code => exact takePacket_keeps h
  | discardedPacket p body => exact takeBody_keeps h
  | frameAbandoned p cause => exact keeps_of_next (.whileRunning s fun u => u.keeps_hunt p) h
  | interByteTimeout p => exact keeps_of_next (.whileRunning s fun u => u.keeps_expireFrame p) h
  | frameSent p => exact keeps_of_next (.whileRunning s fun u => u.keeps_frameSent p) h
  | attentionHandover p => exact keeps_of_next (.whileRunning s fun u => u.keeps_handover p) h
  | readingFrame c raw status ok => exact keeps_of_next (.whileRunning s fun u => u.keeps_readingFrame c raw status ok) h
  | staleExpiry c => exact keeps_of_next (.whileRunning s fun u => u.keeps_expireStale c) h
  | captureTimeout c => exact keeps_of_next (.whileRunning s fun u => u.keeps_expireCapture c) h
  | printerStatusFrame r v ok => exact keeps_of_next (.whileRunning s fun u => .ite ok (u.keeps_statusReport r v)) h
  | printerAnswer r a ok => exact keeps_of_next (.whileRunning s fun u => .ite ok (u.keeps_answer r a)) h
  | answerTimerExpiry r => exact keeps_of_next (.whileRunning s fun u => u.keeps_expireAnswer r) h
  | statusTimerExpiry r => exact keeps_of_next (.whileRunning s fun u => u.keeps_expireStatus r) h
  | arbiterTake r => exact keeps_of_next (.whileRunning s fun u => u.keeps_arbiterTake r) h
  | owedReceiptService => exact keeps_of_next (.whileRunning s State.keeps_runService) h
  | clockAdvance => exact keeps_of_next s.keeps_clockAdvance h
  | holdExpiry n => exact keeps_of_next (.whileRunning s fun u => u.keeps_expireHold n) h
  | powerUp =>
    refine keeps_of_next ((same true).1.trans ?_) h
    split
    · exact State.keeps_restart _
    · exact State.keeps_volatileStart _
  | mainSupplyFail => exact keeps_of_next ((same false).1.trans (State.keeps_volatileStart _)) h
  | resetLineAssert => exact keeps_of_next (same false).2.1 h
  | resetLineRelease => exact keeps_of_next ((same true).2.1.trans (.ite _ (State.keeps_restart _))) h
  | startByte p =>
    change (if s.running then takeStartByte p s else .next s) = .next t at h
    split at h
    · exact takeStartByte_keeps h
    · exact keeps_of_next (.refl s) h
  | batteryFailure =>
    refine keeps_of_next ?_ h
    split
    · exact .refl s
    · exact (same false).2.2
  | readStatus | portReset | configurePort | setOption | clearFault | systemReset | configureScale | zero | readScale
  | openTicket | addLine | removeLine | setDeduction | keyWeight | acceptMargin | capture | voidTicket | reopenTicket
  | readTicket | listTickets | storeTare | dropTare | readTare | useStoredTare | editRule | commitPrices | discardPrices
  | readRule | closeTicket | setClock | releaseHold | float | lift | readDrawer | pay | lockPrinter | unlockPrinter
  | cancelJob | printCopy | setHeader | readPrinter | readTotals | endDay | subscribe | releaseAttention | readAttention
  | clearOverflow =>
    exact takePacket_keeps ((exec_eq_takePacket rfl (fun _ _ => Instr.noConfusion) s).symm.trans h)

/-- Every step keeps the limits of the tables and queues, and the fit of the tickets to the captures. -/
theorem step_keeps {s t : State} (h : step s = .next t) : s.Keeps t := by
  unfold step at h
  split at h
  · exact keeps_of_next s.keeps_idle h
  · rename_i rest _
    exact State.Keeps.trans (t := { s with pending := rest }) ⟨fun _ => id, id⟩ (exec_keeps h)

end Sys2Proof.Machine
end

section
/-! The invariants of the tables and of the tickets (R29, R31, R42, R47, R58, R97, R99, R124, R133, R157, R190). -/

namespace Sys2Proof.Machine

/-- The ticket invariant is the fit of the ticket table to the captures, in a table of different names. -/
theorem State.ticketsStand_iff (s : State) : s.ticketsStand ↔ s.distinctNames ∧ s.ticketsFit := by
  have owner : ∀ c o, s.owner? c = some o ↔ ∃ cap, (s.channel c).slot = some cap ∧ cap.owner = o := fun c o => Option.map_eq_some_iff
  refine and_congr_right fun names => ?_
  have mem : ∀ n t, s.ticket? n = some t ↔ t ∈ s.tickets ∧ t.number = n := fun n t =>
    ⟨fun h => ⟨State.ticket?_mem h, State.ticket?_number h⟩, fun ⟨h, e⟩ => e ▸ State.ticket?_of_mem names.2.1 h⟩
  refine ⟨fun ⟨⟨marked, one⟩, held, records⟩ => ⟨names.2.1, names.2.2.2.1, ?_, ?_, ?_, records⟩, fun h => ⟨⟨?_, ?_⟩, ?_, h.records⟩⟩
  · intro c n k role grade hc
    obtain ⟨cap, hs, ho⟩ := (owner _ _).1 hc
    obtain ⟨t, ln, ht, hop, hl, hm⟩ := marked c cap n k role grade hs ho
    exact ⟨t, ((mem n t).1 ht).1, ((mem n t).1 ht).2, hop, Ticket.markAt_eq_some.2 ⟨ln, hl, hm⟩⟩
  · intro c d n k r g r' g' hc hd
    obtain ⟨a, ha, hao⟩ := (owner _ _).1 hc
    obtain ⟨b, hb, hbo⟩ := (owner _ _).1 hd
    exact one c d a b n k r g r' g' ha hb hao hbo
  · intro t ht k side hm
    obtain ⟨ln, hl, hm⟩ := Ticket.markAt_eq_some.1 hm
    obtain ⟨c, cap, role, grade, hs, ho, e⟩ := held t ht k ln side hl hm
    exact ⟨c, role, grade, (owner _ _).2 ⟨cap, hs, ho⟩, e⟩
  · intro c cap n k role grade hs ho
    obtain ⟨t, ht, hn, hop, hm⟩ := h.marked c n k role grade ((owner _ _).2 ⟨cap, hs, ho⟩)
    obtain ⟨ln, hl, hm⟩ := Ticket.markAt_eq_some.1 hm
    exact ⟨t, ln, (mem n t).2 ⟨ht, hn⟩, hop, hl, hm⟩
  · intro c d a b n k r g r' g' ha hb hao hbo
    exact h.one c d n k r g r' g' ((owner _ _).2 ⟨a, ha, hao⟩) ((owner _ _).2 ⟨b, hb, hbo⟩)
  · intro t ht k ln side hl hm
    obtain ⟨c, role, grade, hc, e⟩ := h.held t ht k side (Ticket.markAt_eq_some.2 ⟨ln, hl, hm⟩)
    obtain ⟨cap, hs, ho⟩ := (owner _ _).1 hc
    exact ⟨c, cap, role, grade, hs, ho, e⟩

/-- Settles O54: the limits are kept by every operation, and the names by every move of the ledger. -/
theorem tablesKept : Obligations.TablesKept :=
  ⟨fun _ _ hs h => (step_keeps h).limits 0 hs, fun _ _ hs h => step_distinctNames hs h⟩

/-- Settles O59: the fit of the ticket table to the captures is kept by every operation. -/
theorem ticketRecordsKept : Obligations.TicketRecordsKept := by
  intro s t hs h
  rw [State.ticketsStand_iff] at hs ⊢
  exact ⟨step_distinctNames hs.1 h, (step_keeps h).fits hs.2⟩

end Sys2Proof.Machine
end

section
/-! The tickets and their lines (R29 to R46): OPEN TICKET, ADD LINE, REMOVE LINE, a CHAIN, and the requests that write one item. -/

namespace Sys2Proof.Machine

/-! ### Requests taken with a role that their command permits (Table 9-9) -/

/-- A command taken with a permitted role and parameters that fit. -/
theorem takeCommand_effect {α : Type} {allowed : Role → Bool} {parse : List Byte → Option α} {k : Packet} {s : State} {a : α}
    (run : α → State → Effect) (h : s.takes k) (hr : allowed (s.port k.port).role = true) (hp : parse k.params = some a) :
    takeCommand false allowed parse run k s = .next (carriedOut k (run a (s.hunt k.port))) := by
  rcases he : run a (s.hunt k.port) with ⟨t, _ | ans⟩
  · exact takeCommand_silent _ _ _ _ _ _ h a hp hr t he
  · exact takeCommand_answered _ _ _ _ _ _ h a hp hr t ans he

/-! ### A CHAIN (R46) -/

/-- A line that exists, changed in its place. -/
theorem Ticket.changeLine_eq_set {t : Ticket} {k : Nat} {ln : Line} (h : t.line? k = some ln) (f : Line → Line) :
    t.changeLine k f = { t with lines := t.lines.set (k - 1) (f ln) } := by
  have hk : k ≠ 0 := Ticket.line?_ne_zero h
  rw [Ticket.line?, if_neg hk] at h
  rw [Ticket.changeLine, if_neg hk, List.modify_eq_set_getElem?, h]
  rfl

/-- Settles O26. -/
theorem chainRecordsBothLines : Obligations.ChainRecordsBothLines := by
  intro k s c n l grade t ln r h hr h1 h2 h3 h4 hover hunder hw hn1 hn2 hl1 hl2 hg ht ho hln hm hta hgr hroom hp w lines data
  have hline : (s.hunt k.port).OpenLine n l t ln :=
    ⟨(ticketNumberOk_iff n).2 ⟨hn1, hn2⟩, (positionOk_iff l).2 ⟨hl1, hl2⟩, ht, ho, hln⟩
  have hparse : CaptureArgs.parse k.params = some ⟨n, l, 2, c.val, grade⟩ := by
    rw [hp]
    exact CaptureArgs.parse_bytes n l 2 c grade (by omega) (by omega) (by decide) (by omega) (by omega)
  have hcheck : captureCheck .chain t ln = none :=
    captureCheck_eq_none hm (fun e => by cases e) (fun e => by cases e) fun _ => ⟨hta, hgr, hroom⟩
  have hfault : lineFault .chain (s.channel c).config.division r t.lines.length = none := by
    have room : ¬Config.maxLines ≤ t.lines.length := Nat.not_le.2 hroom
    rw [lineFault, if_neg (not_or.2 ⟨hover, hunder⟩), lineTest, if_neg (by omega), if_neg room]
  have hrecord : t.recordWeighing l .chain grade w = { t with lines := lines } := by
    rw [Ticket.recordWeighing_chain, Ticket.changeLine_eq_set hln]
  have hlength : lines.length = t.lines.length + 1 := by
    rw [List.length_append, List.length_set, List.length_singleton]
  refine (takeCommand_carriedOut (capture k) h hr hparse).trans ?_
  rw [capture_checked hline rfl (fun _ => hg) hcheck, Option.elim,
    State.requestCapture_stable (s := s.hunt k.port) (r := r) _ _ _ h1 h2 h3 h4,
    State.completeCapture_line (s := s.hunt k.port) c r ht hln, State.channel_hunt, hfault, Option.elim,
    show (s.hunt k.port).weighingOf c r = w from rfl, hrecord, lineCaptureAnswer, answerWith_note, hlength]
  simp only [decide_eq_true_eq]
  rfl

end Sys2Proof.Machine
end

section
/-! The common checks of the ticket requests (R32) and the requests that write one item of a ticket or a line (R38, R39, R40, R66). -/

namespace Sys2Proof.Machine

/-! ### The common checks (R32) -/

/-- A command of a code that its role permits is refused with a reason. -/
def State.refuses (s : State) (k : Packet) (c : Instr) (reason : Reason) : Prop :=
  ∀ code, c.command? = some (code, k) → (s.port k.port).role ∈ permitted code →
    exec c s = .next ((s.hunt k.port).replied k (.stop reason 0))

/-- A command that a permitted role sends asks for a ticket of a number in one of the states allowed. -/
def State.asksTicket (s : State) (k : Packet) (c : Instr) (inRange : Bool) (n : Nat) (allowed : TicketState → Bool) : Prop :=
  ∀ code, c.command? = some (code, k) → (s.port k.port).role ∈ permitted code →
    ∃ run, exec c s = .next (carriedOut k ((s.hunt k.port).withTicket inRange n allowed run))

/-- A command that a permitted role sends asks for a line of an OPEN ticket. -/
def State.asksLine (s : State) (k : Packet) (c : Instr) (inRange : Bool) (n l : Nat) : Prop :=
  ∀ code, c.command? = some (code, k) → (s.port k.port).role ∈ permitted code →
    ∃ run, exec c s = .next (carriedOut k ((s.hunt k.port).withLine inRange n l isOpened run))

/-- The checks of a request for an OPEN ticket, in order: NO_TICKET and STATE. -/
def State.checksTicket (s : State) (k : Packet) (n : Nat) (c : Instr) : Prop :=
  (s.ticket? n = none → s.refuses k c .noTicket) ∧ ∀ t, s.ticket? n = some t → t.state ≠ .opened → s.refuses k c .state

/-- The checks of a request for a line of an OPEN ticket, in order: RANGE, NO_TICKET, STATE and NO_LINE. -/
def State.checksLine (s : State) (k : Packet) (n l : Nat) (c : Instr) : Prop :=
  if l = 0 ∨ 8 < l then s.refuses k c .range
  else s.checksTicket k n c ∧ ∀ t, s.ticket? n = some t → t.state = .opened → t.line? l = none → s.refuses k c .noLine

section
variable {s : State} {k : Packet} {c : Instr} {inRange : Bool} {n l : Nat} {allowed : TicketState → Bool}

/-- A request whose owner's answer is a refusal. -/
theorem State.refuses_of_run {reason : Reason}
    (h : ∀ code, c.command? = some (code, k) → (s.port k.port).role ∈ permitted code →
      ∃ e, exec c s = .next (carriedOut k e) ∧ e = (s.hunt k.port).refuse reason) : s.refuses k c reason := by
  intro code hc hr
  obtain ⟨e, he, rfl⟩ := h code hc hr
  exact he

theorem State.asksTicket.range (h : s.asksTicket k c inRange n allowed) (hr : (ticketNumberOk n && inRange) = false) :
    s.refuses k c .range :=
  State.refuses_of_run fun code hc hp => by
    obtain ⟨run, he⟩ := h code hc hp
    exact ⟨_, he, by rw [State.withTicket, hr]; rfl⟩

theorem State.asksTicket.noTicket (h : s.asksTicket k c true n allowed) (hn : ticketNumberOk n = true) (ht : s.ticket? n = none) :
    s.refuses k c .noTicket :=
  State.refuses_of_run fun code hc hp => by
    obtain ⟨run, he⟩ := h code hc hp
    exact ⟨_, he, by rw [State.withTicket, hn, State.ticket?_hunt, ht]; rfl⟩

theorem State.asksTicket.state (h : s.asksTicket k c true n allowed) (hn : ticketNumberOk n = true) {t : Ticket}
    (ht : s.ticket? n = some t) (ha : allowed t.state = false) : s.refuses k c .state :=
  State.refuses_of_run fun code hc hp => by
    obtain ⟨run, he⟩ := h code hc hp
    refine ⟨_, he, ?_⟩
    rw [State.withTicket, hn, State.ticket?_hunt, ht]
    simp [ha]

theorem State.asksTicket.opened (h : s.asksTicket k c true n isOpened) (hn : ticketNumberOk n = true) : s.checksTicket k n c :=
  ⟨h.noTicket hn, fun _ ht ho => h.state hn ht (decide_eq_false ho)⟩

/-- A request for a line is a request for its ticket. -/
theorem State.asksLine.ticket (h : s.asksLine k c inRange n l) : s.asksTicket k c (positionOk l && inRange) n isOpened := by
  intro code hc hp
  obtain ⟨run, he⟩ := h code hc hp
  exact ⟨_, he⟩

theorem State.asksLine.noLine (h : s.asksLine k c true n l) (hn : ticketNumberOk n = true) (hl : positionOk l = true) {t : Ticket}
    (ht : s.ticket? n = some t) (ho : t.state = .opened) (hline : t.line? l = none) : s.refuses k c .noLine :=
  State.refuses_of_run fun code hc hp => by
    obtain ⟨run, he⟩ := h code hc hp
    refine ⟨_, he, ?_⟩
    rw [State.withLine, (s.hunt k.port).withTicket_eq _ n _ _ t hn (by rw [hl]; rfl) ht (decide_eq_true ho), hline]

theorem State.asksLine.onLine (h : s.asksLine k c true n l) (hn : ticketNumberOk n = true) : s.checksLine k n l c := by
  unfold State.checksLine
  have position : positionOk l = true ↔ ¬(l = 0 ∨ 8 < l) := by rw [positionOk_iff]; omega
  split_ifs with hl
  · refine h.ticket.range ?_
    rw [Bool.eq_false_iff.2 fun e => position.1 e hl, Bool.false_and, Bool.and_false]
  · have ask := h.ticket
    rw [position.2 hl] at ask
    exact ⟨ask.opened hn, fun t ht ho hline => h.noLine hn (position.2 hl) ht ho hline⟩

end

/-! ### What each request asks for -/

section
variable {s : State} {k : Packet} (h : s.takes k)
include h

theorem asksTicket_addLine {n grade : Nat} (hp : AddLineArgs.parse k.params = some ⟨n, grade⟩) :
    s.asksTicket k (.addLine k) (gradeOk grade) n isOpened := by
  rintro code ⟨⟩ hr
  exact ⟨_, takeCommand_effect addLine h ((by decide : ∀ r ∈ permitted 11, notPayout r = true) _ hr) hp⟩

theorem asksLine_removeLine {n l : Nat} (hp : TicketLineArgs.parse k.params = some ⟨n, l⟩) : s.asksLine k (.removeLine k) true n l := by
  rintro code ⟨⟩ hr
  exact ⟨_, takeCommand_effect removeLine h ((by decide : ∀ r ∈ permitted 12, supervisorOrScalehouse r = true) _ hr) hp⟩

theorem asksLine_setDeduction {n l v : Nat} (hp : SetDeductionArgs.parse k.params = some ⟨n, l, v⟩) :
    s.asksLine k (.setDeduction k) (deductionValue? v).isSome n l := by
  rintro code ⟨⟩ hr
  exact ⟨_, takeCommand_effect setDeduction h ((by decide : ∀ r ∈ permitted 13, notPayout r = true) _ hr) hp⟩

theorem asksLine_keyWeight {n l code w : Nat} {side : Side} (hs : Side.ofCode? code = some side)
    (hp : KeyWeightArgs.parse k.params = some ⟨n, l, code, w⟩) : s.asksLine k (.keyWeight k) (decide (w ≤ 1000000)) n l := by
  rintro _ ⟨⟩ hr
  have e := takeCommand_effect keyWeight h ((by decide : ∀ r ∈ permitted 14, supervisorOnly r = true) _ hr) hp
  rw [keyWeight, hs] at e
  exact ⟨_, e⟩

/-- KEY WEIGHT with a slot that is neither GROSS nor TARE is refused with RANGE. -/
theorem refuses_keyWeight {n l code w : Nat} (hs : Side.ofCode? code = none) (hp : KeyWeightArgs.parse k.params = some ⟨n, l, code, w⟩) :
    s.refuses k (.keyWeight k) .range :=
  State.refuses_of_run <| by
    rintro _ ⟨⟩ hr
    exact ⟨_, takeCommand_effect keyWeight h ((by decide : ∀ r ∈ permitted 14, supervisorOnly r = true) _ hr) hp,
      by rw [keyWeight, hs]⟩

theorem asksTicket_acceptMargin {n : Nat} (hp : parseTicket k.params = some n) : s.asksTicket k (.acceptMargin k) true n isOpened := by
  rintro code ⟨⟩ hr
  exact ⟨_, takeCommand_effect acceptMargin h ((by decide : ∀ r ∈ permitted 15, supervisorOnly r = true) _ hr) hp⟩

theorem asksLine_capture {n l code grade : Nat} {c : ChannelId} {role : CaptureRole} (hro : CaptureRole.ofCode? code = some role)
    (hp : CaptureArgs.parse k.params = some ⟨n, l, code, c.val, grade⟩) :
    s.asksLine k (.capture k) (decide (role ≠ .chain) || gradeOk grade) n l := by
  rintro _ ⟨⟩ hr
  have e := takeCommand_effect (capture k) h ((by decide : ∀ r ∈ permitted 16, supervisorOrScalehouse r = true) _ hr) hp
  rw [capture, hro, indexOf?_val] at e
  exact ⟨_, e⟩

theorem asksTicket_voidTicket {n v : Nat} (hp : TicketByteArgs.parse k.params = some ⟨n, v⟩) :
    s.asksTicket k (.voidTicket k) true n voidable := by
  rintro code ⟨⟩ hr
  exact ⟨_, takeCommand_effect (voidTicket k.port) h ((by decide : ∀ r ∈ permitted 17, supervisorOrScalehouse r = true) _ hr) hp⟩

theorem asksTicket_reopenTicket {n : Nat} (hp : parseTicket k.params = some n) : s.asksTicket k (.reopenTicket k) true n reopenable := by
  rintro code ⟨⟩ hr
  exact ⟨_, takeCommand_effect reopenTicket h ((by decide : ∀ r ∈ permitted 18, supervisorOnly r = true) _ hr) hp⟩

theorem asksTicket_readTicket {n v : Nat} (hp : TicketByteArgs.parse k.params = some ⟨n, v⟩) :
    s.asksTicket k (.readTicket k) (decide (v ≤ 8)) n fun _ => true := by
  rintro code ⟨⟩ hr
  exact ⟨_, takeCommand_effect readTicket h ((by decide : ∀ r ∈ permitted 19, anyRole r = true) _ hr) hp⟩

theorem asksLine_useStoredTare {n l : Nat} (hp : TicketLineArgs.parse k.params = some ⟨n, l⟩) :
    s.asksLine k (.useStoredTare k) true n l := by
  rintro code ⟨⟩ hr
  exact ⟨_, takeCommand_effect useStoredTare h ((by decide : ∀ r ∈ permitted 24, supervisorOrScalehouse r = true) _ hr) hp⟩

theorem asksTicket_closeTicket {n v : Nat} (hp : TicketByteArgs.parse k.params = some ⟨n, v⟩) :
    s.asksTicket k (.closeTicket k) (yesNo? v).isSome n isOpened := by
  rintro code ⟨⟩ hr
  exact ⟨_, takeCommand_effect (closeTicket k.port) h ((by decide : ∀ r ∈ permitted 29, supervisorOrScalehouse r = true) _ hr) hp⟩

theorem asksTicket_releaseHold {n : Nat} (hp : parseTicket k.params = some n) : s.asksTicket k (.releaseHold k) true n isHeld := by
  rintro code ⟨⟩ hr
  exact ⟨_, takeCommand_effect releaseHold h ((by decide : ∀ r ∈ permitted 31, supervisorOnly r = true) _ hr) hp⟩

/-- READ TICKET of a line that the ticket has not is refused with NO_LINE (R55). -/
theorem readTicket_noLine {n v : Nat} {t : Ticket} (hp : TicketByteArgs.parse k.params = some ⟨n, v⟩) (hn : ticketNumberOk n = true)
    (ht : s.ticket? n = some t) (h1 : 1 ≤ v) (h8 : v ≤ 8) (hl : t.line? v = none) : s.refuses k (.readTicket k) .noLine :=
  State.refuses_of_run <| by
    rintro _ ⟨⟩ hr
    refine ⟨_, takeCommand_effect readTicket h ((by decide : ∀ r ∈ permitted 19, anyRole r = true) _ hr) hp, ?_⟩
    rw [readTicket, (s.hunt k.port).withTicket_eq _ n _ _ t hn (decide_eq_true h8) ht rfl, if_neg (show ¬v = 0 by omega), hl]

end

/-! ### The common checks by the layout of the parameters -/

theorem ticketNumberOk_fits {n : Nat} (hn : ticketNumberOk n = true) : n < 256 ^ 4 := by
  have := (ticketNumberOk_iff n).1 hn
  omega

/-- A state that REOPEN TICKET does not allow. -/
theorem reopenable_eq_false {st : TicketState} (h1 : st ≠ .held) (h2 : st ≠ .payable) : reopenable st = false := by
  simp [reopenable, h1, h2]

section
variable {s : State} {k : Packet} {n : Nat} (h : s.takes k) (hn : ticketNumberOk n = true)
include h hn

theorem commonChecks_ticket (hp : k.params = numBytes 4 n) :
    s.checksTicket k n (.acceptMargin k) ∧ (s.ticket? n = none → s.refuses k (.reopenTicket k) .noTicket) ∧
      ∀ t, s.ticket? n = some t → t.state ≠ .held → t.state ≠ .payable → s.refuses k (.reopenTicket k) .state := by
  have parse : parseTicket k.params = some n := hp ▸ parseTicket_bytes n (ticketNumberOk_fits hn)
  have reopen := asksTicket_reopenTicket h parse
  exact ⟨(asksTicket_acceptMargin h parse).opened hn, reopen.noTicket hn, fun t ht h1 h2 => reopen.state hn ht (reopenable_eq_false h1 h2)⟩

theorem commonChecks_addLine {grade : Nat} (hg : grade < 256 ^ 4) (hp : k.params = numBytes 4 n ++ numBytes 4 grade) :
    (grade ≤ 999999 → s.checksTicket k n (.addLine k)) ∧ (999999 < grade → s.refuses k (.addLine k) .range) := by
  have ask := asksTicket_addLine h (hp ▸ AddLineArgs.parse_bytes n grade (ticketNumberOk_fits hn) hg)
  refine ⟨fun hle => ?_, fun hlt => ask.range ?_⟩
  · rw [gradeOk, decide_eq_true hle] at ask
    exact ask.opened hn
  · rw [gradeOk, decide_eq_false (Nat.not_le.2 hlt), Bool.and_false]

theorem commonChecks_closeTicket {v : Nat} (hp : TicketByteArgs.parse k.params = some ⟨n, v⟩) :
    (v ≤ 1 → s.checksTicket k n (.closeTicket k)) ∧ (2 ≤ v → s.refuses k (.closeTicket k) .range) := by
  have ask := asksTicket_closeTicket h hp
  refine ⟨fun hle => ?_, fun hle => ask.range ?_⟩
  · rw [show (yesNo? v).isSome = true by interval_cases v <;> rfl] at ask
    exact ask.opened hn
  · match v, hle with
    | v + 2, _ => exact Bool.and_false _

theorem commonChecks_voidTicket {v : Nat} (hp : TicketByteArgs.parse k.params = some ⟨n, v⟩) :
    (s.ticket? n = none → s.refuses k (.voidTicket k) .noTicket) ∧
      ∀ t, s.ticket? n = some t → t.state = .paid ∨ t.state = .voided → s.refuses k (.voidTicket k) .state := by
  have ask := asksTicket_voidTicket h hp
  exact ⟨ask.noTicket hn, fun t ht hs => ask.state hn ht (by rcases hs with hs | hs <;> rw [hs] <;> rfl)⟩

theorem commonChecks_readTicket {v : Nat} (hp : TicketByteArgs.parse k.params = some ⟨n, v⟩) :
    (s.ticket? n = none → v ≤ 8 → s.refuses k (.readTicket k) .noTicket) ∧ (8 < v → s.refuses k (.readTicket k) .range) := by
  have ask := asksTicket_readTicket h hp
  refine ⟨fun ht hle => ?_, fun hlt => ask.range ?_⟩
  · rw [decide_eq_true hle] at ask
    exact ask.noTicket hn ht
  · rw [decide_eq_false (Nat.not_le.2 hlt), Bool.and_false]

theorem commonChecks_setDeduction {l v : Nat} (hl : l < 256) (hv : v < 65536)
    (hp : k.params = numBytes 4 n ++ numBytes 1 l ++ numBytes 2 v) :
    (v ≤ 500 ∨ v = 65535 → s.checksLine k n l (.setDeduction k)) ∧ (500 < v → v ≠ 65535 → s.refuses k (.setDeduction k) .range) := by
  have ask := asksLine_setDeduction h (hp ▸ SetDeductionArgs.parse_bytes n l v (ticketNumberOk_fits hn) hl hv)
  refine ⟨fun hv => ?_, fun h1 h2 => ask.ticket.range ?_⟩
  · have known : (deductionValue? v).isSome = true := by
      rcases hv with hv | rfl
      · rw [deductionValue?, if_neg (by omega), if_pos hv]; rfl
      · rfl
    rw [known] at ask
    exact ask.onLine hn
  · rw [deductionValue?, if_neg h2, if_neg (Nat.not_le.2 h1), Option.isSome_none, Bool.and_false, Bool.and_false]

theorem commonChecks_keyWeight {l side w : Nat} (hl : l < 256) (hw : w < 256 ^ 4) (hs : side < 256)
    (hp : k.params = numBytes 4 n ++ numBytes 1 l ++ numBytes 1 side ++ numBytes 4 w) :
    ((side = 1 ∨ side = 2) ∧ w ≤ 1000000 → s.checksLine k n l (.keyWeight k)) ∧
      (side = 0 ∨ 2 < side ∨ 1000000 < w → s.refuses k (.keyWeight k) .range) := by
  have parse : KeyWeightArgs.parse k.params = some ⟨n, l, side, w⟩ :=
    hp ▸ KeyWeightArgs.parse_bytes n l side w (ticketNumberOk_fits hn) hl hs hw
  refine ⟨fun ⟨hside, hle⟩ => ?_, fun hbad => ?_⟩
  · obtain ⟨x, hx⟩ : ∃ x, Side.ofCode? side = some x := by rcases hside with rfl | rfl <;> exact ⟨_, rfl⟩
    have ask := asksLine_keyWeight h hx parse
    rw [decide_eq_true hle] at ask
    exact ask.onLine hn
  · cases hx : Side.ofCode? side with
    | none => exact refuses_keyWeight h hx parse
    | some x =>
      have heavy : 1000000 < w := by
        rcases hbad with rfl | hlt | hlt
        · cases hx
        · match side, hlt with
          | side + 3, _ => cases hx
        · exact hlt
      refine (asksLine_keyWeight h hx parse).ticket.range ?_
      rw [decide_eq_false (Nat.not_le.2 heavy), Bool.and_false, Bool.and_false]

theorem commonChecks_capture {l role channel grade : Nat} (hl : l < 256) (hro : role ≤ 2) (hc : channel ≤ 3) (hg : grade ≤ 999999)
    (hp : k.params = numBytes 4 n ++ numBytes 1 l ++ numBytes 1 role ++ numBytes 1 channel ++ numBytes 4 grade) :
    s.checksLine k n l (.capture k) := by
  obtain ⟨x, hx⟩ : ∃ x, CaptureRole.ofCode? role = some x := by interval_cases role <;> exact ⟨_, rfl⟩
  have ask := asksLine_capture h (c := ⟨channel, by omega⟩) hx
    (hp ▸ CaptureArgs.parse_bytes n l role channel grade (ticketNumberOk_fits hn) hl (by omega) (by omega) (by omega))
  rw [show (decide (x ≠ .chain) || gradeOk grade) = true by rw [gradeOk, decide_eq_true hg, Bool.or_true]] at ask
  exact ask.onLine hn

end

/-! ### A ticket number outside its range (R32, R85, R120, R155) -/

theorem endOf_eq_some {α : Type} {a b : α} {bs : List Byte} (e : endOf a bs = some b) : a = b := by
  cases bs with
  | nil => exact Option.some.inj e
  | cons => cases e

section
variable {n : Nat} {rest : List Byte} (hf : n < 256 ^ 4)
include hf

theorem parseTicket_number {a : Nat} (e : parseTicket (numBytes 4 n ++ rest) = some a) : a = n := by
  rw [parseTicket, bind_some_step (takeNum_numBytes 4 n rest hf)] at e
  exact (endOf_eq_some e).symm

theorem AddLineArgs.parse_number {a : AddLineArgs} (e : AddLineArgs.parse (numBytes 4 n ++ rest) = some a) : a.ticket = n := by
  rw [AddLineArgs.parse, bind_some_step (takeNum_numBytes 4 n rest hf)] at e
  obtain ⟨_, -, e⟩ := Option.bind_eq_some_iff.1 e
  exact congrArg AddLineArgs.ticket (endOf_eq_some e).symm

theorem TicketLineArgs.parse_number {a : TicketLineArgs} (e : TicketLineArgs.parse (numBytes 4 n ++ rest) = some a) : a.ticket = n := by
  rw [TicketLineArgs.parse, bind_some_step (takeNum_numBytes 4 n rest hf)] at e
  obtain ⟨_, -, e⟩ := Option.bind_eq_some_iff.1 e
  exact congrArg TicketLineArgs.ticket (endOf_eq_some e).symm

theorem TicketByteArgs.parse_number {a : TicketByteArgs} (e : TicketByteArgs.parse (numBytes 4 n ++ rest) = some a) : a.ticket = n := by
  rw [TicketByteArgs.parse, bind_some_step (takeNum_numBytes 4 n rest hf)] at e
  obtain ⟨_, -, e⟩ := Option.bind_eq_some_iff.1 e
  exact congrArg TicketByteArgs.ticket (endOf_eq_some e).symm

theorem SetDeductionArgs.parse_number {a : SetDeductionArgs} (e : SetDeductionArgs.parse (numBytes 4 n ++ rest) = some a) :
    a.ticket = n := by
  rw [SetDeductionArgs.parse, bind_some_step (takeNum_numBytes 4 n rest hf)] at e
  obtain ⟨_, -, e⟩ := Option.bind_eq_some_iff.1 e
  obtain ⟨_, -, e⟩ := Option.bind_eq_some_iff.1 e
  exact congrArg SetDeductionArgs.ticket (endOf_eq_some e).symm

theorem KeyWeightArgs.parse_number {a : KeyWeightArgs} (e : KeyWeightArgs.parse (numBytes 4 n ++ rest) = some a) : a.ticket = n := by
  rw [KeyWeightArgs.parse, bind_some_step (takeNum_numBytes 4 n rest hf)] at e
  obtain ⟨_, -, e⟩ := Option.bind_eq_some_iff.1 e
  obtain ⟨_, -, e⟩ := Option.bind_eq_some_iff.1 e
  obtain ⟨_, -, e⟩ := Option.bind_eq_some_iff.1 e
  exact congrArg KeyWeightArgs.ticket (endOf_eq_some e).symm

theorem CaptureArgs.parse_number {a : CaptureArgs} (e : CaptureArgs.parse (numBytes 4 n ++ rest) = some a) : a.ticket = n := by
  rw [CaptureArgs.parse, bind_some_step (takeNum_numBytes 4 n rest hf)] at e
  obtain ⟨_, -, e⟩ := Option.bind_eq_some_iff.1 e
  obtain ⟨_, -, e⟩ := Option.bind_eq_some_iff.1 e
  obtain ⟨_, -, e⟩ := Option.bind_eq_some_iff.1 e
  obtain ⟨_, -, e⟩ := Option.bind_eq_some_iff.1 e
  exact congrArg CaptureArgs.ticket (endOf_eq_some e).symm

end

section
variable {s : State} {k : Packet} (h : s.takes k)
include h

/-- CAPTURE of a ticket number outside the range is refused with RANGE, whatever its role and channel. -/
theorem refuses_capture {a : CaptureArgs} (hp : CaptureArgs.parse k.params = some a) (hn : ticketNumberOk a.ticket = false) :
    s.refuses k (.capture k) .range :=
  State.refuses_of_run <| by
    rintro _ ⟨⟩ hr
    refine ⟨_, takeCommand_effect (capture k) h ((by decide : ∀ r ∈ permitted 16, supervisorOrScalehouse r = true) _ hr) hp, ?_⟩
    unfold capture
    split
    · rw [State.withLine, State.withTicket, hn]; rfl
    · rfl

theorem refuses_pay {a : TicketByteArgs} (hp : TicketByteArgs.parse k.params = some a) (hn : ticketNumberOk a.ticket = false) :
    s.refuses k (.pay k) .range :=
  State.refuses_of_run <| by
    rintro _ ⟨⟩ hr
    exact ⟨_, takeCommand_effect (pay k.port) h ((by decide : ∀ r ∈ permitted 35, supervisorOrPayout r = true) _ hr) hp,
      by rw [pay, hn]⟩

theorem refuses_printCopy {a : TicketByteArgs} (hp : TicketByteArgs.parse k.params = some a) (hn : ticketNumberOk a.ticket = false) :
    s.refuses k (.printCopy k) .range :=
  State.refuses_of_run <| by
    rintro _ ⟨⟩ hr
    exact ⟨_, takeCommand_effect (printCopy k.port) h ((by decide : ∀ r ∈ permitted 39, notYard r = true) _ hr) hp,
      by rw [printCopy, hn]⟩

/-- Every request that names a ticket is refused with RANGE for a number outside 1 to 999,999. -/
theorem refuses_ticketNumber {c : Instr} {code n : Nat} {rest : List Byte} (hc : c.command? = some (code, k))
    (hcode : code ∈ [11, 12, 13, 14, 15, 16, 17, 18, 19, 24, 29, 31, 35, 39]) (hfit : fitsLayout c = true) (hf : n < 256 ^ 4)
    (hn : ticketNumberOk n = false) (hp : k.params = numBytes 4 n ++ rest) : s.refuses k c .range := by
  have out : ∀ b, (ticketNumberOk n && b) = false := fun b => by rw [hn, Bool.false_and]
  cases c with
  | addLine k' =>
    cases hc
    obtain ⟨⟨m, grade⟩, e⟩ := Option.isSome_iff_exists.1 hfit
    obtain rfl : m = n := AddLineArgs.parse_number hf (hp ▸ e)
    exact (asksTicket_addLine h e).range (out _)
  | removeLine k' =>
    cases hc
    obtain ⟨⟨m, l⟩, e⟩ := Option.isSome_iff_exists.1 hfit
    obtain rfl : m = n := TicketLineArgs.parse_number hf (hp ▸ e)
    exact (asksLine_removeLine h e).ticket.range (out _)
  | setDeduction k' =>
    cases hc
    obtain ⟨⟨m, l, v⟩, e⟩ := Option.isSome_iff_exists.1 hfit
    obtain rfl : m = n := SetDeductionArgs.parse_number hf (hp ▸ e)
    exact (asksLine_setDeduction h e).ticket.range (out _)
  | keyWeight k' =>
    cases hc
    obtain ⟨⟨m, l, side, w⟩, e⟩ := Option.isSome_iff_exists.1 hfit
    obtain rfl : m = n := KeyWeightArgs.parse_number hf (hp ▸ e)
    cases hs : Side.ofCode? side with
    | none => exact refuses_keyWeight h hs e
    | some x => exact (asksLine_keyWeight h hs e).ticket.range (out _)
  | acceptMargin k' =>
    cases hc
    obtain ⟨m, e⟩ := Option.isSome_iff_exists.1 hfit
    obtain rfl : m = n := parseTicket_number hf (hp ▸ e)
    exact (asksTicket_acceptMargin h e).range (out _)
  | capture k' =>
    cases hc
    obtain ⟨a, e⟩ := Option.isSome_iff_exists.1 hfit
    exact refuses_capture h e (by rw [CaptureArgs.parse_number hf (hp ▸ e), hn])
  | voidTicket k' =>
    cases hc
    obtain ⟨⟨m, v⟩, e⟩ := Option.isSome_iff_exists.1 hfit
    obtain rfl : m = n := TicketByteArgs.parse_number hf (hp ▸ e)
    exact (asksTicket_voidTicket h e).range (out _)
  | reopenTicket k' =>
    cases hc
    obtain ⟨m, e⟩ := Option.isSome_iff_exists.1 hfit
    obtain rfl : m = n := parseTicket_number hf (hp ▸ e)
    exact (asksTicket_reopenTicket h e).range (out _)
  | readTicket k' =>
    cases hc
    obtain ⟨⟨m, v⟩, e⟩ := Option.isSome_iff_exists.1 hfit
    obtain rfl : m = n := TicketByteArgs.parse_number hf (hp ▸ e)
    exact (asksTicket_readTicket h e).range (out _)
  | useStoredTare k' =>
    cases hc
    obtain ⟨⟨m, l⟩, e⟩ := Option.isSome_iff_exists.1 hfit
    obtain rfl : m = n := TicketLineArgs.parse_number hf (hp ▸ e)
    exact (asksLine_useStoredTare h e).ticket.range (out _)
  | closeTicket k' =>
    cases hc
    obtain ⟨⟨m, v⟩, e⟩ := Option.isSome_iff_exists.1 hfit
    obtain rfl : m = n := TicketByteArgs.parse_number hf (hp ▸ e)
    exact (asksTicket_closeTicket h e).range (out _)
  | releaseHold k' =>
    cases hc
    obtain ⟨m, e⟩ := Option.isSome_iff_exists.1 hfit
    obtain rfl : m = n := parseTicket_number hf (hp ▸ e)
    exact (asksTicket_releaseHold h e).range (out _)
  | pay k' =>
    cases hc
    obtain ⟨a, e⟩ := Option.isSome_iff_exists.1 hfit
    exact refuses_pay h e (by rw [TicketByteArgs.parse_number hf (hp ▸ e), hn])
  | printCopy k' =>
    cases hc
    obtain ⟨a, e⟩ := Option.isSome_iff_exists.1 hfit
    exact refuses_printCopy h e (by rw [TicketByteArgs.parse_number hf (hp ▸ e), hn])
  | readStatus | portReset | configurePort | setOption | clearFault | systemReset | configureScale | zero | readScale
  | openTicket | listTickets | storeTare | dropTare | readTare | editRule | commitPrices | discardPrices | readRule
  | setClock | float | lift | readDrawer | lockPrinter | unlockPrinter | cancelJob | setHeader | readPrinter | readTotals
  | endDay | subscribe | releaseAttention | readAttention | clearOverflow =>
    cases hc
    exact absurd hcode (by decide)
  | unknownCommand | discardedPacket | frameAbandoned | interByteTimeout | frameSent | attentionHandover | readingFrame
  | staleExpiry | captureTimeout | printerStatusFrame | printerAnswer | answerTimerExpiry | statusTimerExpiry | arbiterTake
  | owedReceiptService | clockAdvance | holdExpiry | powerUp | mainSupplyFail | resetLineAssert | resetLineRelease
  | startByte | batteryFailure => cases hfit

end

/-! ### The item each request writes (R38, R39, R40, R66) -/

section
variable {s : State} {n l : Nat} {t : Ticket} {ln : Line} (h : s.OpenLine n l t ln)
include h

/-- A request for a line that passes the common checks. -/
theorem State.OpenLine.withLine {inRange : Bool} (hr : inRange = true) (run : Ticket → Line → Effect) :
    s.withLine inRange n l isOpened run = run t ln :=
  s.withLine_eq _ n l isOpened _ t ln h.number h.position hr h.found (decide_eq_true h.opened) h.line

theorem setDeduction_eq {v : Nat} (hv : v ≤ 500 ∨ v = 65535) : setDeduction ⟨n, l, v⟩ s =
    (s.putTicket (t.changeLine l fun ln => { ln with deduction := if v = 65535 then none else some v }), some (.success [])) := by
  have value : deductionValue? v = some (if v = 65535 then none else some v) := by
    unfold deductionValue?
    split_ifs with h1 h2
    · rfl
    · rfl
    · omega
  rw [setDeduction]
  dsimp only
  rw [value, Option.isSome_some, h.withLine rfl]
  rfl

theorem keyWeight_eq (side : Side) {w : Nat} (hw : w ≤ 1000000) : keyWeight ⟨n, l, markCode (some side), w⟩ s =
    if ln.mark = some side then s.refuse .capturePending
    else if (ln.weighing? side).isSome then s.refuse .state
    else ((s.putTicket (t.changeLine l fun ln => ln.setWeighing side (s.keyedWeighing w))).giveWeighing,
      some (.success (numBytes 4 s.nextWeighing))) := by
  have hs : Side.ofCode? (markCode (some side)) = some side := by cases side <;> rfl
  rw [keyWeight, hs]
  dsimp only
  rw [h.withLine (decide_eq_true hw)]
  rfl

theorem useStoredTare_eq : useStoredTare ⟨n, l⟩ s =
    match t.plate with
    | none => s.refuse .noPlate
    | some plate => match s.tareEntry? plate with
      | none => s.refuse .tareUnknown
      | some e =>
        if s.tareExpired e then s.refuse .tareExpired
        else if ln.mark = some .tare then s.refuse .capturePending
        else if ln.tare.isSome then s.refuse .state
        else (s.putTicket (t.changeLine l fun ln => { ln with tare := some { e.tare with source := .stored } }),
          some (.success (numBytes 4 e.tare.number))) := by
  rw [useStoredTare, h.withLine rfl]
  rfl

end

/-- An entry is expired when the clock's day is past its own by more than the tare expiry (R65). -/
theorem State.tareExpired_iff (s : State) (e : TareEntry) :
    s.tareExpired e = true ↔ e.tare.time.day + s.settings.tareExpiry < s.clock.day := by
  rw [State.tareExpired, decide_eq_true_eq, TareEntry.age]
  omega

/-- A slot of a line is taken. -/
theorem Line.weighing?_isSome {ln : Line} {side : Side} : (ln.weighing? side).isSome = true ↔
    (side = .gross ∧ ln.gross ≠ none) ∨ (side = .tare ∧ ln.tare ≠ none) := by
  cases side <;> simp [Line.weighing?, Option.isSome_iff_ne_none]

/-! ### The requests as commands -/

theorem carriedOut_refuse (k : Packet) (s : State) (r : Reason) : carriedOut k (s.refuse r) = s.replied k (.stop r 0) := rfl

theorem carriedOut_some (k : Packet) (t : State) (a : Answer) : carriedOut k (t, some a) = t.replied k a := rfl

theorem State.OpenLine.fits {s : State} {n l : Nat} {t : Ticket} {ln : Line} (h : s.OpenLine n l t ln) : n < 256 ^ 4 ∧ l ≤ 8 :=
  ⟨ticketNumberOk_fits h.number, ((positionOk_iff l).1 h.position).2⟩

section
variable {k : Packet} {s : State} {n l : Nat} {t : Ticket} {ln : Line} (h : s.takes k) (hl : (s.hunt k.port).OpenLine n l t ln)
include h hl

theorem exec_setDeduction {v : Nat} (hr : (s.port k.port).role ∈ permitted 13) (hv : v ≤ 500 ∨ v = 65535)
    (hp : k.params = numBytes 4 n ++ numBytes 1 l ++ numBytes 2 v) :
    exec (.setDeduction k) s = .next (((s.hunt k.port).putTicket
      (t.changeLine l fun ln => { ln with deduction := if v = 65535 then none else some v })).replied k (.success [])) := by
  obtain ⟨fn, fl⟩ := hl.fits
  refine (takeCommand_effect setDeduction h ((by decide : ∀ r ∈ permitted 13, notPayout r = true) _ hr)
    (hp ▸ SetDeductionArgs.parse_bytes n l v fn (by omega) (by omega))).trans ?_
  rw [setDeduction_eq hl hv]
  rfl

theorem exec_keyWeight {side : Side} {w : Nat} (hr : (s.port k.port).role = .supervisor) (hw : w ≤ 1000000)
    (hp : k.params = numBytes 4 n ++ numBytes 1 l ++ numBytes 1 (markCode (some side)) ++ numBytes 4 w) :
    (ln.mark = some side → exec (.keyWeight k) s = .next ((s.hunt k.port).replied k (.stop .capturePending 0))) ∧
    (ln.mark ≠ some side → (ln.weighing? side).isSome = true → exec (.keyWeight k) s = .next ((s.hunt k.port).replied k (.stop .state 0))) ∧
    (ln.mark ≠ some side → ¬(ln.weighing? side).isSome = true → exec (.keyWeight k) s = .next ((((s.hunt k.port).putTicket
      (t.changeLine l fun ln => ln.setWeighing side (s.keyedWeighing w))).giveWeighing).replied k (.success (numBytes 4 s.nextWeighing)))) := by
  obtain ⟨fn, fl⟩ := hl.fits
  have effect : exec (.keyWeight k) s = _ := takeCommand_effect keyWeight h (by rw [hr]; rfl)
    (hp ▸ KeyWeightArgs.parse_bytes n l _ w fn (by omega) (by cases side <;> decide) (by omega))
  rw [keyWeight_eq hl side hw] at effect
  refine ⟨fun hm => ?_, fun hm ht => ?_, fun hm ht => ?_⟩
  · rwa [if_pos hm] at effect
  · rwa [if_neg hm, if_pos ht] at effect
  · rwa [if_neg hm, if_neg ht] at effect

theorem exec_useStoredTare (hr : (s.port k.port).role ∈ permitted 24) (hp : k.params = numBytes 4 n ++ numBytes 1 l) :
    let refused : Reason → Prop := fun reason => exec (.useStoredTare k) s = .next ((s.hunt k.port).replied k (.stop reason 0))
    (t.plate = none → refused .noPlate) ∧
    (∀ plate, t.plate = some plate → s.tareEntry? plate = none → refused .tareUnknown) ∧
    ∀ plate e, t.plate = some plate → s.tareEntry? plate = some e →
      (s.tareExpired e = true → refused .tareExpired) ∧
      (¬s.tareExpired e = true → (ln.mark = some .tare → refused .capturePending) ∧
        (ln.mark ≠ some .tare → (ln.tare ≠ none → refused .state) ∧
          (ln.tare = none → exec (.useStoredTare k) s = .next (((s.hunt k.port).putTicket (t.changeLine l fun ln =>
            { ln with tare := some { e.tare with source := .stored } })).replied k (.success (numBytes 4 e.tare.number)))))) := by
  obtain ⟨fn, fl⟩ := hl.fits
  have effect : exec (.useStoredTare k) s = _ := takeCommand_effect useStoredTare h
    ((by decide : ∀ r ∈ permitted 24, supervisorOrScalehouse r = true) _ hr) (hp ▸ TicketLineArgs.parse_bytes n l fn (by omega))
  rw [useStoredTare_eq hl, show (s.hunt k.port).tareEntry? = s.tareEntry? from rfl,
    show (s.hunt k.port).tareExpired = s.tareExpired from rfl] at effect
  refine ⟨fun hpl => ?_, fun plate hpl hno => ?_, fun plate e hpl he => ⟨fun hx => ?_, fun hx => ⟨fun hm => ?_, fun hm => ⟨fun ht => ?_, fun ht => ?_⟩⟩⟩⟩
  · simpa only [hpl, carriedOut_refuse] using effect
  · simpa only [hpl, hno, carriedOut_refuse] using effect
  · simpa only [hpl, he, if_pos hx, carriedOut_refuse] using effect
  · simpa only [hpl, he, if_neg hx, if_pos hm, carriedOut_refuse] using effect
  · simpa only [hpl, he, if_neg hx, if_neg hm, if_pos (Option.isSome_iff_ne_none.2 ht), carriedOut_refuse] using effect
  · simpa only [hpl, he, if_neg hx, if_neg hm, ht, Option.isSome_none, Bool.false_eq_true, if_false, carriedOut_some] using effect

end

theorem exec_acceptMargin {k : Packet} {s : State} {n : Nat} {t : Ticket} (h : s.takes k) (hn : ticketNumberOk n = true)
    (ht : s.ticket? n = some t) (ho : t.state = .opened) (hr : (s.port k.port).role = .supervisor) (hp : k.params = numBytes 4 n) :
    exec (.acceptMargin k) s = .next (((s.hunt k.port).putTicket { t with marginAccepted := true }).replied k (.success [])) := by
  refine (takeCommand_effect acceptMargin h (by rw [hr]; rfl) (hp ▸ parseTicket_bytes n (ticketNumberOk_fits hn))).trans ?_
  rw [acceptMargin, (s.hunt k.port).withTicket_eq _ n _ _ t hn rfl ht (decide_eq_true ho)]
  rfl

/-- Settles O29: each request writes its item by its own equation, and the common checks go by the layout of the parameters. -/
theorem lineFieldsWritten : Obligations.LineFieldsWritten := by
  refine ⟨fun k s n t h hn1 hn2 ht ho => ?_, fun k s n h hn1 hn2 => ?_, fun k s c code n rest h hc hcode hr hfit hn hf hp => ?_⟩
  · have number : ticketNumberOk n = true := (ticketNumberOk_iff n).2 ⟨hn1, hn2⟩
    have line : ∀ l ln, 1 ≤ l → l ≤ 8 → t.line? l = some ln → (s.hunt k.port).OpenLine n l t ln := fun l ln h1 h8 hl =>
      ⟨number, (positionOk_iff l).2 ⟨h1, h8⟩, ht, ho, hl⟩
    refine ⟨fun l ln v hr h1 h8 hl hv hp => exec_setDeduction h (line l ln h1 h8 hl) hr hv hp,
      fun l ln side w hr h1 h8 hl hw hm hg hta hp => ?_, fun hr hp => exec_acceptMargin h number ht ho hr hp,
      fun l ln plate e hr h1 h8 hl hpl he hexp hm hta hp => ?_, fun l ln side w hr h1 h8 hl hw hp => ?_, fun l ln hr h1 h8 hl hp => ?_⟩
    · obtain ⟨-, -, written⟩ := exec_keyWeight h (line l ln h1 h8 hl) hr hw hp
      have free : ¬(ln.weighing? side).isSome = true := fun e =>
        (Line.weighing?_isSome.1 e).elim (fun x => x.2 (hg x.1)) fun x => x.2 (hta x.1)
      refine (written hm free).trans ?_
      cases side <;> rfl
    · obtain ⟨-, -, found⟩ := exec_useStoredTare h (line l ln h1 h8 hl) hr hp
      obtain ⟨-, inDate⟩ := found plate e hpl he
      obtain ⟨-, unmarked⟩ := inDate fun x => absurd hexp (Nat.not_le.2 ((s.tareExpired_iff e).1 x))
      exact (unmarked hm).2 hta
    · obtain ⟨pending, taken, -⟩ := exec_keyWeight h (line l ln h1 h8 hl) hr hw hp
      exact ⟨pending, fun hm ht => taken hm (Line.weighing?_isSome.2 ht)⟩
    · obtain ⟨noPlate, unknown, found⟩ := exec_useStoredTare h (line l ln h1 h8 hl) hr hp
      refine ⟨noPlate, fun plate hpl hno => unknown plate hpl (List.find?_eq_none.2 fun x hx => by simpa using hno x hx),
        fun plate e hpl he => ?_⟩
      obtain ⟨expired, inDate⟩ := found plate e hpl he
      refine ⟨fun hexp => expired ((s.tareExpired_iff e).2 hexp), fun hexp => ?_⟩
      obtain ⟨pending, unmarked⟩ := inDate fun x => absurd hexp (Nat.not_le.2 ((s.tareExpired_iff e).1 x))
      exact ⟨pending, fun hm ht => (unmarked hm).1 ht⟩
  · have number : ticketNumberOk n = true := (ticketNumberOk_iff n).2 ⟨hn1, hn2⟩
    have fits := ticketNumberOk_fits number
    refine ⟨commonChecks_ticket h number, fun grade hg hp => commonChecks_addLine h number hg hp, fun v hv hp => ?_,
      fun l v hl hv hp => commonChecks_setDeduction h number hl hv hp,
      fun l side w hl hw hp hs => commonChecks_keyWeight h number hl hw hs hp,
      fun l role channel grade hl hro hch hg hp => commonChecks_capture h number hl hro hch hg hp⟩
    have byte : TicketByteArgs.parse k.params = some ⟨n, v⟩ := hp ▸ TicketByteArgs.parse_bytes n v fits hv
    have line : TicketLineArgs.parse k.params = some ⟨n, v⟩ := hp ▸ TicketLineArgs.parse_bytes n v fits hv
    have close := commonChecks_closeTicket h number byte
    have void := commonChecks_voidTicket h number byte
    have read := commonChecks_readTicket h number byte
    exact ⟨(asksLine_removeLine h line).onLine number, (asksLine_useStoredTare h line).onLine number, close.1, close.2,
      fun ht => ⟨void.1 ht, read.1 ht⟩, read.2, void.2, fun t ht h1 h8 hl => readTicket_noLine h byte number ht h1 h8 hl⟩
  · refine refuses_ticketNumber h hc hcode hfit hf (Bool.eq_false_iff.2 fun e => ?_) hp code hc hr
    have := (ticketNumberOk_iff n).1 e
    omega

end Sys2Proof.Machine
end

section
/-! OPEN TICKET (R31, R33, R34). -/

namespace Sys2Proof.Machine

/-- The search for a ticket number passes over the numbers of the table alone (R31). -/
theorem freeTicketNumber_passesOver (tickets : List Ticket) (fuel n : Nat) :
    passesOver advanceNumber (fun m => ∃ t ∈ tickets, t.number = m) n (freeTicketNumber tickets fuel n) := by
  induction fuel generalizing n with
  | zero => exact passesOver_start _ _ _
  | succ fuel ih =>
    unfold freeTicketNumber
    split_ifs with h
    · exact passesOver_next (by simpa using h) (ih _)
    · exact passesOver_start _ _ _

/-- The search stays at a number that is free. -/
theorem freeTicketNumber_eq_self {tickets : List Ticket} {n : Nat} (h : ∀ t ∈ tickets, t.number ≠ n) (fuel : Nat) :
    freeTicketNumber tickets fuel n = n := by
  cases fuel with
  | zero => rfl
  | succ fuel =>
    rw [freeTicketNumber, if_neg]
    simpa using h

/-- In a table with room, the number OPEN TICKET gives is free and in range (R31). -/
theorem State.newTicketNumber_free {s : State} (room : s.tickets.length < 48) (h : numberInRange s.nextTicket) :
    (∀ t ∈ s.tickets, t.number ≠ s.newTicketNumber) ∧ numberInRange s.newTicketNumber := by
  have free := s.newTicketNumber_mayOpen.free h (by simpa [State.ledger] using room)
  rw [State.ledger_numbers] at free
  obtain ⟨i, -, e, -⟩ := s.newTicketNumber_mayOpen
  exact ⟨fun t ht hn => free (hn ▸ List.mem_map_of_mem ht), (congrArg numberInRange e).mpr (advanceNumber_iterate_inRange h i)⟩

/-- The plate a ticket records (R33, R34). -/
theorem presentText_upperCase (plate : Text) : presentText (upperCase plate) = if plate = [] then none else some (upperCase plate) := by
  cases plate <;> rfl

/-- A plate recorded is carried by an OPEN ticket (R33). -/
theorem State.plateOpen_iff (s : State) (plate : Text) : s.plateOpen (presentText (upperCase plate)) none = true ↔
    plate ≠ [] ∧ ∃ t ∈ s.tickets, t.state = .opened ∧ t.plate = some (upperCase plate) := by
  rw [presentText_upperCase]
  split_ifs with h
  · simp [State.plateOpen, h]
  · simp [State.plateOpen, h]

theorem CustomerClass.ofCode?_code (cls : CustomerClass) : CustomerClass.ofCode? cls.code = some cls := by cases cls <;> rfl

theorem CustomerClass.ofCode?_eq_none {v : Nat} (h : 3 < v) : CustomerClass.ofCode? v = none := by
  match v, h with
  | v + 4, _ => rfl

/-- A text with a character outside the printable ones. -/
theorem printable_eq_false {t : Text} (h : ∃ c ∈ t, c.toNat < 0x20 ∨ 0x7E < c.toNat) : printable t = false := by
  obtain ⟨c, hc, h⟩ := h
  refine List.all_eq_false.2 ⟨c, hc, ?_⟩
  simp only [printableChar, Bool.and_eq_true, decide_eq_true_eq]
  omega

/-- A plate too long or with a character that no plate has (R33). -/
theorem plateOk_eq_false {plate : Text} (h : 10 < plate.length ∨ ∃ c ∈ plate, ¬(0x41 ≤ c.toNat ∧ c.toNat ≤ 0x5A) ∧
    ¬(0x61 ≤ c.toNat ∧ c.toNat ≤ 0x7A) ∧ ¬(0x30 ≤ c.toNat ∧ c.toNat ≤ 0x39) ∧ c.toNat ≠ 0x2D) : plateOk plate = false := by
  rw [plateOk, Bool.and_eq_false_iff]
  rcases h with h | ⟨c, hc, h1, h2, h3, h4⟩
  · exact .inl (decide_eq_false (Nat.not_le.2 h))
  · refine .inr (List.all_eq_false.2 ⟨c, hc, ?_⟩)
    have hyphen : c ≠ 0x2D#8 := fun e => h4 (by rw [e]; rfl)
    simp only [plateChar, lowerChar, Bool.or_eq_true, Bool.and_eq_true, decide_eq_true_eq]
    tauto

section
variable {k : Packet} {s : State} (h : s.takes k) (hr : (s.port k.port).role ∈ permitted 10)
include h hr

/-- OPEN TICKET taken. -/
theorem exec_openTicket {cls : Nat} {customer plate : Text} (hc : cls < 256) (h1 : customer.length ≤ 255) (h2 : plate.length ≤ 255)
    (hp : k.params = numBytes 1 cls ++ textBytes customer ++ textBytes plate) :
    exec (.openTicket k) s = .next (carriedOut k (openTicket k.port ⟨cls, customer, plate⟩ (s.hunt k.port))) :=
  takeCommand_effect (openTicket k.port) h ((by decide : ∀ r ∈ permitted 10, supervisorOrScalehouse r = true) _ hr)
    (hp ▸ OpenTicketArgs.parse_bytes cls customer plate hc h1 h2)

end

/-- OPEN TICKET with parameters in their forms (R33, R34). -/
theorem openTicket_eq (port : PortId) (s : State) (cls : CustomerClass) {customer plate : Text} (h1 : customer.length ≤ 12)
    (h2 : printable customer = true) (h3 : plateOk plate = true) : openTicket port ⟨cls.code, customer, plate⟩ s =
      if 48 ≤ s.tickets.length then s.refuse .tableFull
      else if s.plateOpen (presentText (upperCase plate)) none then s.refuse .plateOpen
      else ((s.appendTicket (s.freshTicket port cls (presentText customer) (presentText (upperCase plate)))).raise
        (.ticket s.newTicketNumber (some .opened)), some (.success (numBytes 4 s.newTicketNumber))) := by
  rw [openTicket, CustomerClass.ofCode?_code]
  dsimp only
  rw [if_neg (by simp [h2, h3, h1])]
  rfl

/-- OPEN TICKET with a class, a customer id or a plate outside its form (R33). -/
theorem openTicket_range (port : PortId) (s : State) {a : OpenTicketArgs} (h : CustomerClass.ofCode? a.customerClass = none ∨
    12 < a.customer.length ∨ printable a.customer = false ∨ plateOk a.plate = false) : openTicket port a s = s.refuse .range := by
  unfold openTicket
  split
  · rfl
  · rename_i cls hcls
    rw [if_pos]
    exact h.resolve_left (by rw [hcls]; exact Option.some_ne_none _)

/-- Settles O27. -/
theorem openTicketCreates : Obligations.OpenTicketCreates := by
  refine ⟨fun k s cls customer plate h hr h1 h2 h3 hp => ?_, fun k s cls customer plate h hr hc h1 h2 hp hbad => ?_⟩
  · have plateLength : plate.length ≤ 255 := (length_le_of_plateOk h3).trans (by decide)
    have effect := exec_openTicket h hr (by cases cls <;> decide) (h1.trans (by decide)) plateLength hp
    rw [openTicket_eq k.port (s.hunt k.port) cls h1 h2 h3] at effect
    have carried : (s.hunt k.port).plateOpen = s.plateOpen := rfl
    have size : (s.hunt k.port).tickets.length = s.tickets.length := rfl
    rw [size, carried] at effect
    refine ⟨fun full => ?_, fun room hne hopen => ?_, fun room hfree => ⟨s.newTicketNumber, ?_, ?_, ?_, fun hn1 hn2 => ?_⟩⟩
    · rwa [if_pos full] at effect
    · rwa [if_neg (Nat.not_le.2 room), if_pos ((s.plateOpen_iff plate).2 ⟨hne, hopen⟩)] at effect
    · have free : ¬s.plateOpen (presentText (upperCase plate)) none = true := fun e => by
        obtain ⟨hne, t, ht, ho, hpl⟩ := (s.plateOpen_iff plate).1 e
        exact hfree.elim hne fun hno => hno t ht ho hpl
      rw [if_neg (Nat.not_le.2 room), if_neg free, presentText_upperCase] at effect
      exact effect
    · exact fun hno => freeTicketNumber_eq_self hno _
    · exact freeTicketNumber_passesOver s.tickets _ _
    · exact s.newTicketNumber_free room ⟨hn1, hn2⟩
  · refine (exec_openTicket h hr hc (by omega) (by omega) hp).trans ?_
    rw [openTicket_range k.port (s.hunt k.port)]
    · rfl
    · rcases hbad with hbad | hbad | hbad | hbad
      · exact .inl (CustomerClass.ofCode?_eq_none hbad)
      · exact .inr (.inl hbad)
      · exact .inr (.inr (.inl (printable_eq_false hbad)))
      · exact .inr (.inr (.inr (plateOk_eq_false hbad)))

end Sys2Proof.Machine
end

section
/-! ADD LINE and REMOVE LINE (R35 to R37), and what a list of captures ended leaves (R23, R180). -/

namespace Sys2Proof.Machine

/-! ### Captures ended together (R23, R180) -/

section
variable (s : State) (which : Capture → Bool) (a : Answer)

/-- Captures ended change the channels, the ports and the ticket table alone. -/
theorem State.endCaptures_eq : s.endCaptures which (fun u c => u.endCapture c a) = { s with
    channels := (s.endCaptures which fun u c => u.endCapture c a).channels
    ports := (s.endCaptures which fun u c => u.endCapture c a).ports
    tickets := (s.endCaptures which fun u c => u.endCapture c a).tickets } := by
  refine State.endCaptures_induct (fun u => u = { s with channels := u.channels, ports := u.ports, tickets := u.tickets }) s which _ rfl
    fun u c cap hu _ _ => ?_
  rw [State.endCapture_eq, hu]

/-- The channels after captures have ended. -/
theorem State.channel_endCapturesWith (c : ChannelId) : (s.endCaptures which fun u c => u.endCapture c a).channel c =
    if (s.channel c).slot.any which then { s.channel c with slot := none } else s.channel c :=
  s.channel_endCaptures which _ (fun u c d => u.channel_endCapture c d a) c

theorem State.hearsAlike_endCaptures : s.HearsAlike (s.endCaptures which fun u c => u.endCapture c a) :=
  State.endCaptures_induct (fun u => s.HearsAlike u) s which _ (.refl s) fun u c _ hu _ _ => hu.trans (u.hearsAlike_endCapture c a)

variable {s which}

/-- A capture that waits while others end waited before. -/
theorem State.slot_during_endCaptures {P : State → Prop} (h0 : P s)
    (h : ∀ u c cap, P u → (u.channel c).slot = some cap → (s.channel c).slot = some cap → which cap = true → P (u.endCapture c a)) :
    P (s.endCaptures which fun u c => u.endCapture c a) := by
  refine (State.endCaptures_induct (fun u => P u ∧ ∀ d cap, (u.channel d).slot = some cap → (s.channel d).slot = some cap) s which _
    ⟨h0, fun _ _ h => h⟩ fun u c cap ⟨hu, hs⟩ hc hw => ⟨h u c cap hu hc (hs c cap hc) hw, fun d x hd => ?_⟩).1
  rw [State.channel_endCapture] at hd
  split_ifs at hd
  exact hs d x hd

/-- The port of no capture that ends stays as it was. -/
theorem State.port_endCaptures_other {p : PortId} (h : ∀ c cap, (s.channel c).slot = some cap → which cap = true → cap.port ≠ p) :
    (s.endCaptures which fun u c => u.endCapture c a).port p = s.port p := by
  refine State.slot_during_endCaptures (P := fun u => u.port p = s.port p) a rfl fun u c cap hu hc hs hw => ?_
  rw [State.port_endCapture a hc, if_neg (Ne.symm (h c cap hs hw))]
  exact hu

/-- Where the captures wait for different ports, the port of each capture that ends is answered once. -/
theorem State.port_endCaptures {c : ChannelId} {cap : Capture} (hc : (s.channel c).slot = some cap) (hw : which cap = true)
    (one : ∀ c d a b, (s.channel c).slot = some a → (s.channel d).slot = some b → a.port = b.port → c = d) :
    (s.endCaptures which fun u c => u.endCapture c a).port cap.port = { s.port cap.port with
      busy := none, out := (s.port cap.port).out ++ [.reply { tag := cap.tag, answer := a }] } := by
  have h := State.slot_during_endCaptures (s := s) (which := which) (P := fun u => ((u.channel c).slot = some cap ∧ u.port cap.port = s.port cap.port) ∨
    ((u.channel c).slot = none ∧ u.port cap.port = { s.port cap.port with
      busy := none, out := (s.port cap.port).out ++ [.reply { tag := cap.tag, answer := a }] })) a (.inl ⟨hc, rfl⟩)
    fun u d x hu hd hs _ => ?_
  · rcases h with ⟨h, -⟩ | ⟨-, h⟩
    · rw [State.channel_endCapturesWith, hc, Option.any_some, hw] at h
      cases h
    · exact h
  · rw [State.channel_endCapture, State.port_endCapture a hd]
    by_cases e : d = c
    · subst e
      obtain rfl := Option.some.inj (hs.symm.trans hc)
      rcases hu with ⟨-, hu⟩ | ⟨hu, -⟩
      · exact .inr ⟨by rw [if_pos rfl], by rw [if_pos rfl, hu]⟩
      · rw [hd] at hu; cases hu
    · rw [if_neg (Ne.symm e), if_neg fun ep => e (one d c x cap hs hc ep.symm)]
      exact hu

/-- Captures of one ticket ended leave the other tickets, and that ticket but for its marks. -/
theorem State.ticket?_endCaptures_of {n : Nat} {t : Ticket} (ht : s.ticket? n = some t)
    (h : ∀ cap, which cap = true → ∃ k role grade, cap.owner = .line n k role grade) :
    (∀ m, m ≠ n → (s.endCaptures which fun u c => u.endCapture c a).ticket? m = s.ticket? m) ∧
      ∃ x, (s.endCaptures which fun u c => u.endCapture c a).ticket? n = some x ∧ x.unmarked = t.unmarked := by
  refine State.endCaptures_induct (fun u => (∀ m, m ≠ n → u.ticket? m = s.ticket? m) ∧ ∃ x, u.ticket? n = some x ∧ x.unmarked = t.unmarked)
    s which _ ⟨fun _ _ => rfl, t, ht, rfl⟩ fun u c cap ⟨hm, x, hx, e⟩ hc hw => ?_
  obtain ⟨k, role, grade, ho⟩ := h cap hw
  have tickets := State.ticket?_freeSlot hc ho hx
  rw [State.endCapture_some a hc]
  refine ⟨fun m hne => ?_, _, (tickets n).trans (if_pos rfl), (Ticket.unmarked_changeMark x k none).trans e⟩
  rw [State.ticket?_reply, tickets m, if_neg hne, hm m hne]

end

/-- A ticket with the marks of another left aside differs from it in its lines alone. -/
theorem Ticket.eq_of_unmarked {t x : Ticket} (h : x.unmarked = t.unmarked) : x = { t with lines := x.lines } := by
  obtain ⟨⟩ := x
  obtain ⟨⟩ := t
  simp only [Ticket.unmarked, Ticket.mk.injEq] at h ⊢
  tauto

/-- The capture of a line of a ticket (R37). -/
theorem Capture.forLine_iff {n l : Nat} {cap : Capture} : cap.forLine n l = true ↔ ∃ role grade, cap.owner = .line n l role grade := by
  cases h : cap.owner <;> simp [Capture.forLine, h]

/-- The captures of a ticket (R49). -/
theorem Capture.forTicket_iff {n : Nat} {cap : Capture} : cap.forTicket n = true ↔ ∃ k role grade, cap.owner = .line n k role grade := by
  cases h : cap.owner <;> simp [Capture.forTicket, h]

/-! ### ADD LINE (R35) -/

theorem exec_addLine {k : Packet} {s : State} {n grade : Nat} {t : Ticket} (h : s.takes k) (hn : ticketNumberOk n = true)
    (ht : s.ticket? n = some t) (ho : t.state = .opened) (hr : (s.port k.port).role ∈ permitted 11) (hg : grade ≤ 999999)
    (hp : k.params = numBytes 4 n ++ numBytes 4 grade) :
    exec (.addLine k) s = if 8 ≤ t.lines.length then .next ((s.hunt k.port).replied k (.stop .lineLimit 0))
      else .next (((s.hunt k.port).putTicket { t with lines := t.lines ++ [Line.fresh grade] }).replied k
        (.success (numBytes 1 (t.lines.length + 1)))) := by
  refine (takeCommand_effect addLine h ((by decide : ∀ r ∈ permitted 11, notPayout r = true) _ hr)
    (hp ▸ AddLineArgs.parse_bytes n grade (ticketNumberOk_fits hn) (by omega))).trans ?_
  rw [addLine, (s.hunt k.port).withTicket_eq _ n _ _ t hn (show gradeOk grade = true from decide_eq_true hg) ht
    (decide_eq_true ho)]
  by_cases full : 8 ≤ t.lines.length
  · rw [if_pos full, if_pos (show Config.maxLines ≤ _ from full)]
    rfl
  · rw [if_neg full, if_neg (show ¬Config.maxLines ≤ _ from full)]
    rfl

/-! ### REMOVE LINE (R36, R37) -/

/-- The state after the capture of a line to be removed has been cancelled, if one waits (R37). -/
def State.cancelMarked (s : State) (n l : Nat) (ln : Line) : State := if ln.mark.isSome then s.cancelLineCapture n l else s

theorem exec_removeLine {k : Packet} {s : State} {n l : Nat} {t : Ticket} {ln : Line} (h : s.takes k)
    (hl : (s.hunt k.port).OpenLine n l t ln) (hr : (s.port k.port).role ∈ permitted 12) (hp : k.params = numBytes 4 n ++ numBytes 1 l) :
    exec (.removeLine k) s = .next ((((s.hunt k.port).cancelMarked n l ln).removeLine n l).replied k (.success [])) := by
  obtain ⟨fn, fl⟩ := hl.fits
  refine (takeCommand_effect removeLine h ((by decide : ∀ r ∈ permitted 12, supervisorOrScalehouse r = true) _ hr)
    (hp ▸ TicketLineArgs.parse_bytes n l fn (by omega))).trans ?_
  rw [removeLine, hl.withLine rfl]
  dsimp only
  rw [State.ticket?_number hl.found]
  rfl

/-- The ticket table after a line has been removed (R36). -/
theorem State.ticket?_removeLine {s : State} {n : Nat} {x : Ticket} (hx : s.ticket? n = some x) (l m : Nat) :
    (s.removeLine n l).ticket? m = if m = n then some { x with lines := x.lines.eraseIdx (l - 1) } else s.ticket? m := by
  have hn := State.ticket?_number hx
  rw [State.removeLine, hx]
  change (s.putTicket { x with lines := x.lines.eraseIdx (l - 1) }).ticket? m = _
  split_ifs with e
  · subst e
    exact State.ticket?_putTicket_self hx hn
  · exact State.ticket?_putTicket_other s (by rw [hn]; exact e)

/-- A line removed gives no weighing number and changes no stored tare. -/
theorem State.removeLine_kept (s : State) (n l : Nat) :
    (s.removeLine n l).nextWeighing = s.nextWeighing ∧ (s.removeLine n l).tares = s.tares := by
  unfold State.removeLine
  split <;> exact ⟨rfl, rfl⟩

theorem State.port_removeLine (s : State) (n l : Nat) (p : PortId) : (s.removeLine n l).port p = s.port p := by
  unfold State.removeLine
  split <;> rfl

/-- The slots after a line has been removed: each capture keeps its line (R36). -/
theorem State.slot_removeLine {s : State} {n : Nat} {x : Ticket} (hx : s.ticket? n = some x) (l : Nat) (c : ChannelId) :
    ((s.removeLine n l).channel c).slot =
      (s.channel c).slot.map fun cap => { cap with owner := cap.owner.renumber n l } := by
  rw [State.removeLine, hx]
  simp [State.renumberCaptures, State.channel]

/-- An unmarked line has no waiting capture (R42). -/
theorem State.marksStand.forLine_eq_false {s : State} (hm : s.marksStand) {n l : Nat} {t : Ticket} {ln : Line} (ht : s.ticket? n = some t)
    (hl : t.line? l = some ln) (hu : ln.mark = none) {c : ChannelId} {cap : Capture} (hc : (s.channel c).slot = some cap) :
    cap.forLine n l = false := by
  refine Bool.eq_false_iff.2 fun hf => ?_
  obtain ⟨role, grade, ho⟩ := Capture.forLine_iff.1 hf
  obtain ⟨t', ln', ht', -, hl', hm'⟩ := hm.1 c cap n l role grade hc ho
  obtain rfl := Option.some.inj (ht.symm.trans ht')
  obtain rfl := Option.some.inj (hl.symm.trans hl')
  rw [hu] at hm'
  cases hm'

section
variable {s : State} {n l : Nat} {t : Ticket} {ln : Line}

theorem State.cancelMarked_kept (s : State) (n l : Nat) (ln : Line) :
    (s.cancelMarked n l ln).nextWeighing = s.nextWeighing ∧ (s.cancelMarked n l ln).tares = s.tares := by
  unfold State.cancelMarked State.cancelLineCapture
  split_ifs
  · rw [s.endCaptures_eq]
    exact ⟨rfl, rfl⟩
  · exact ⟨rfl, rfl⟩

/-- The tickets after the capture of a line has been cancelled: the ticket's marks alone may change. -/
theorem State.ticket?_cancelMarked (ht : s.ticket? n = some t) (l : Nat) (ln : Line) :
    (∀ m, m ≠ n → (s.cancelMarked n l ln).ticket? m = s.ticket? m) ∧
      ∃ x, (s.cancelMarked n l ln).ticket? n = some x ∧ x.unmarked = t.unmarked ∧ (ln.mark = none → x = t) := by
  unfold State.cancelMarked
  split_ifs with hm
  · obtain ⟨others, x, hx, e⟩ := State.ticket?_endCaptures_of (which := Capture.forLine n l) (.stop .cancelled 0) ht fun cap hw =>
      ⟨l, Capture.forLine_iff.1 hw⟩
    exact ⟨others, x, hx, e, fun hu => by rw [hu] at hm; cases hm⟩
  · exact ⟨fun _ _ => rfl, t, ht, rfl, fun _ => rfl⟩

/-- The slots after the capture of a line has been cancelled: that capture's alone is free. -/
theorem State.slot_cancelMarked (hm : s.marksStand) (ht : s.ticket? n = some t) (hl : t.line? l = some ln) (c : ChannelId) :
    ((s.cancelMarked n l ln).channel c).slot = if (s.channel c).slot.any (Capture.forLine n l) then none else (s.channel c).slot := by
  by_cases hu : ln.mark = none
  · rw [State.cancelMarked, if_neg (by rw [hu]; exact Bool.false_ne_true), if_neg]
    cases hc : (s.channel c).slot with
    | none => exact Bool.false_ne_true
    | some cap => rw [Option.any_some, hm.forLine_eq_false ht hl hu hc]; exact Bool.false_ne_true
  · rw [State.cancelMarked, if_pos (Option.isSome_iff_ne_none.2 hu), State.cancelLineCapture, State.channel_endCapturesWith]
    split_ifs <;> rfl

/-- The cancelled capture's port is answered once. -/
theorem State.port_cancelMarked (hm : s.marksStand) (ht : s.ticket? n = some t) (hl : t.line? l = some ln) {c : ChannelId} {cap : Capture}
    (hc : (s.channel c).slot = some cap) (hf : cap.forLine n l = true)
    (one : ∀ c d a b, (s.channel c).slot = some a → (s.channel d).slot = some b → a.port = b.port → c = d) :
    (s.cancelMarked n l ln).port cap.port = { s.port cap.port with
      busy := none, out := (s.port cap.port).out ++ [.reply { tag := cap.tag, answer := .stop .cancelled 0 }] } := by
  have marked : ln.mark.isSome = true := Option.isSome_iff_ne_none.2 fun hu => by
    rw [hm.forLine_eq_false ht hl hu hc] at hf
    cases hf
  rw [State.cancelMarked, if_pos marked]
  exact State.port_endCaptures _ hc hf one

/-- A port without a waiting capture stays as it was. -/
theorem State.port_cancelMarked_other {p : PortId} (h : ∀ c cap, (s.channel c).slot = some cap → cap.port ≠ p) (n l : Nat) (ln : Line) :
    (s.cancelMarked n l ln).port p = s.port p := by
  unfold State.cancelMarked
  split_ifs
  · exact State.port_endCaptures_other _ fun c cap hc _ => h c cap hc
  · rfl

end

/-- The lines of a ticket with the marks left aside, one of them removed. -/
theorem Ticket.eraseIdx_unmarked {t x : Ticket} (h : x.unmarked = t.unmarked) (i : Nat) :
    (x.lines.eraseIdx i).map (fun ln => ({ ln with mark := none } : Line)) =
      (t.lines.eraseIdx i).map fun ln => ({ ln with mark := none } : Line) := by
  rw [← List.eraseIdx_map, ← List.eraseIdx_map]
  exact congrArg (·.eraseIdx i) (congrArg Ticket.lines h)

/-- A port without a command in progress has no waiting capture (R180). -/
theorem State.capturesStand.port_ne {s : State} (h : s.capturesStand) {p : PortId} (hp : (s.port p).busy = none) {c : ChannelId}
    {cap : Capture} (hc : (s.channel c).slot = some cap) : cap.port ≠ p := by
  rintro rfl
  rw [h.1 c cap hc] at hp
  cases hp

/-- Settles O28: the line's capture is cancelled, then the line leaves and the captures of the later lines follow. -/
theorem linesAddedAndRemoved : Obligations.LinesAddedAndRemoved := by
  intro k s n t h hn1 hn2 ht ho
  have number : ticketNumberOk n = true := (ticketNumberOk_iff n).2 ⟨hn1, hn2⟩
  refine ⟨fun grade hr hg room hp => ?_, fun grade hr hg full hp => ?_, fun l ln hr h1 h8 hl hcs hms hp => ?_⟩
  · exact (exec_addLine h number ht ho hr hg hp).trans (if_neg (Nat.not_le.2 room))
  · exact (exec_addLine h number ht ho hr hg hp).trans (if_pos full)
  · have line : (s.hunt k.port).OpenLine n l t ln := ⟨number, (positionOk_iff l).2 ⟨h1, h8⟩, ht, ho, hl⟩
    obtain ⟨others, x, hx, hxt, hxu⟩ := State.ticket?_cancelMarked (s := s.hunt k.port) ht l ln
    have table := State.ticket?_removeLine hx l
    have slots : ∀ c, ((((s.hunt k.port).cancelMarked n l ln).removeLine n l).channel c).slot =
        (if (s.channel c).slot.any (Capture.forLine n l) then none else (s.channel c).slot).map
          fun cap => { cap with owner := cap.owner.renumber n l } := fun c => by
      rw [State.slot_removeLine hx, State.slot_cancelMarked (s := s.hunt k.port) hms ht hl]
      rfl
    have away : ∀ c cap, (s.channel c).slot = some cap → cap.port ≠ k.port := fun c cap hc => hcs.port_ne h.2 hc
    have idle := State.port_cancelMarked_other (s := s.hunt k.port) (p := k.port) away n l ln
    refine ⟨_, x.lines.eraseIdx (l - 1), exec_removeLine h line hr hp, ?_, fun hu => ?_, Ticket.eraseIdx_unmarked hxt _, fun m hne => ?_,
      fun c cap hc hf => ⟨?_, ?_⟩, fun c cap hc hf => ?_, ?_, ?_, ?_⟩
    · rw [State.ticket?_reply, table, if_pos rfl, Ticket.eq_of_unmarked hxt]
    · rw [hxu hu]
    · rw [State.ticket?_reply, table, if_neg hne, others m hne]
      rfl
    · rw [State.channel_reply, slots, hc, Option.any_some, if_pos hf]
      rfl
    · have ended := State.port_cancelMarked (s := s.hunt k.port) hms ht hl hc hf hcs.2.1
      rw [State.port_reply, if_neg (Ne.symm (away c cap hc)), State.port_removeLine, ended]
      exact ⟨rfl, by rw [State.hunt_port_out]⟩
    · rw [State.channel_reply, slots, hc, Option.any_some, if_neg (by rw [hf]; exact Bool.false_ne_true)]
      rfl
    · exact (State.removeLine_kept _ n l).1.trans (State.cancelMarked_kept _ n l ln).1
    · exact (State.removeLine_kept _ n l).2.trans (State.cancelMarked_kept _ n l ln).2
    · rw [State.port_reply, if_pos rfl, State.port_removeLine, idle, State.hunt_port_out]

end Sys2Proof.Machine
end

section
/-! CLOSE TICKET (R85 to R87, R99 to R101, R135): its checks as a list, and the stamp of the receipt that it makes owed. -/

namespace Sys2Proof.Machine

/-! ### The checks of Table 5-3 as a list (R86, R87) -/

/-- The checks over the lines in their order, with the reason of each. -/
def lineChecks (b : Bank) (t : Ticket) : List (Reason × (Line → Bool)) :=
  [(.capturePending, fun ln => ln.mark.isSome), (.incompleteLine, Line.incomplete), (.invalidNet, Line.invalidNet),
    (.marginUnaccepted, fun ln => ln.hasMargin && !t.marginAccepted), (.noPrice, Line.noPrice b t.customerClass)]

/-- What one check answers: its reason with the first line that fails it. -/
def checkLines (lines : List Line) (check : Reason × (Line → Bool)) : Option (Reason × Nat) :=
  (firstLine check.2 lines).map fun k => (check.1, k)

/-- CLOSE TICKET asks for a line, and then answers by the first check that some line fails. -/
theorem closeCheck_eq_findSome? (b : Bank) (t : Ticket) :
    closeCheck b t = if t.lines = [] then some (.noLines, 0) else (lineChecks b t).findSome? (checkLines t.lines) := by
  unfold closeCheck lineChecks
  split_ifs with empty
  · rfl
  · simp only [List.findSome?_cons, List.findSome?_nil, checkLines]
    repeat' split
    all_goals simp_all

theorem checkLines_eq_none {lines : List Line} {check : Reason × (Line → Bool)} :
    checkLines lines check = none ↔ ∀ ln ∈ lines, check.2 ln = false := by
  rw [checkLines, Option.map_eq_none_iff, firstLine_eq_none]

/-- The first line that fails a check gives the position that the reply carries. -/
theorem checkLines_eq_some {lines : List Line} {reason : Reason} {fail : Line → Bool} {l : Nat} {ln : Line} (hl : lines[l]? = some ln)
    (hf : fail ln = true) (before : ∀ y ∈ lines.take l, fail y = false) : checkLines lines (reason, fail) = some (reason, l + 1) := by
  obtain ⟨hlt, rfl⟩ := List.getElem?_eq_some_iff.1 hl
  have first : lines.findIdx? fail = some l := by
    rw [List.findIdx?_eq_some_iff_getElem]
    refine ⟨hlt, hf, fun j hj => ?_⟩
    rw [before lines[j] (List.mem_take_iff_getElem.2 ⟨j, by omega, rfl⟩)]
    exact Bool.false_ne_true
  rw [checkLines, firstLine, first]
  rfl

/-- The first check that some line fails is the one answered. -/
theorem closeCheck_eq_some {b : Bank} {t : Ticket} {i : Nat} {reason : Reason} {fail : Line → Bool} {l : Nat} {ln : Line}
    (hi : (lineChecks b t)[i]? = some (reason, fail)) (earlier : ∀ x ∈ (lineChecks b t).take i, ∀ y ∈ t.lines, x.2 y = false)
    (hl : t.lines[l]? = some ln) (hf : fail ln = true) (before : ∀ y ∈ t.lines.take l, fail y = false) :
    closeCheck b t = some (reason, l + 1) := by
  have nonempty : t.lines ≠ [] := List.ne_nil_of_mem (List.mem_of_getElem? hl)
  obtain ⟨hlt, he⟩ := List.getElem?_eq_some_iff.1 hi
  rw [closeCheck_eq_findSome?, if_neg nonempty, List.findSome?_eq_some_iff]
  refine ⟨(lineChecks b t).take i, (reason, fail), (lineChecks b t).drop (i + 1), ?_, checkLines_eq_some hl hf before,
    fun x hx => checkLines_eq_none.2 (earlier x hx)⟩
  rw [← he, List.getElem_cons_drop, List.take_append_drop]

/-- A ticket with lines that pass every check closes. -/
theorem closeCheck_passes {b : Bank} {t : Ticket} (nonempty : t.lines ≠ [])
    (pass : ∀ x ∈ lineChecks b t, ∀ y ∈ t.lines, x.2 y = false) : closeCheck b t = none := by
  rw [closeCheck_eq_findSome?, if_neg nonempty, List.findSome?_eq_none_iff]
  exact fun x hx => checkLines_eq_none.2 (pass x hx)

/-! ### The stamp of a receipt that becomes owed (R135) -/

/-- Before its last stamp the counter goes to the next. -/
theorem State.advanceStamp_of_lt {s : State} (h : s.nextStamp < 4294967295) : s.advanceStamp = { s with nextStamp := s.nextStamp + 1 } :=
  if_pos h

/-- After the last stamp every owed receipt is renumbered. -/
theorem State.advanceStamp_renumbered {s : State} (h : 4294967295 ≤ s.nextStamp) : s.renumbered s.advanceStamp := by
  rw [State.advanceStamp, if_neg (Nat.not_lt.2 (show Config.maxStamp ≤ s.nextStamp from h))]
  exact s.restamp_renumbered

/-! ### The command -/

section
variable {k : Packet} {s : State} {n : Nat} {t : Ticket} {print : Bool} (h : s.takes k) (hr : (s.port k.port).role ∈ permitted 29)
  (hn : ticketNumberOk n = true) (ht : s.ticket? n = some t) (ho : t.state = .opened) (hp : k.params = numBytes 4 n ++ yesNoBytes print)
include h hr hn ht ho hp

/-- CLOSE TICKET of an OPEN ticket goes by its checks. -/
theorem exec_closeTicket : exec (.closeTicket k) s = .next (carriedOut k (match closeCheck s.active t with
    | some (reason, line) => (s.hunt k.port, some (.stop reason line))
    | none =>
      let u := (s.hunt k.port).moveTicket (s.settled t)
      (if print then u.owe (s.settled t) .settlement k.port else u, some (closeAnswer (s.settled t))))) := by
  have parse : TicketByteArgs.parse k.params = some ⟨n, if print then 1 else 0⟩ := by
    rw [hp, yesNoBytes_eq]
    exact TicketByteArgs.parse_bytes n _ (ticketNumberOk_fits hn) (by cases print <;> decide)
  refine (takeCommand_effect (closeTicket k.port) h ((by decide : ∀ r ∈ permitted 29, supervisorOrScalehouse r = true) _ hr) parse).trans ?_
  rw [closeTicket, yesNo?_num, (s.hunt k.port).withTicket_eq (some print).isSome n _ _ t hn rfl ht (decide_eq_true ho)]
  simp only [Option.some.injEq]
  rfl

/-- A check that fails refuses the close. -/
theorem exec_closeTicket_refused {reason : Reason} {line : Nat} (hc : closeCheck s.active t = some (reason, line)) :
    exec (.closeTicket k) s = .next ((s.hunt k.port).replied k (.stop reason line)) := by
  have effect := exec_closeTicket h hr hn ht ho hp
  rw [hc] at effect
  exact effect

/-- A close that passes settles the ticket, and with print-settlement makes its SETTLEMENT receipt owed. -/
theorem exec_closeTicket_settles (hc : closeCheck s.active t = none) : exec (.closeTicket k) s = .next
    ((if print then ((s.hunt k.port).moveTicket (s.settled t)).owe (s.settled t) .settlement k.port
      else (s.hunt k.port).moveTicket (s.settled t)).replied k (closeAnswer (s.settled t))) := by
  have effect := exec_closeTicket h hr hn ht ho hp
  rw [hc] at effect
  exact effect

end

/-- The receipt that a close makes owed names the closing port's default printer and the next stamp. -/
theorem State.newOwed_afterMove (s : State) (t : Ticket) (port : PortId) :
    ((s.hunt port).moveTicket t).newOwed .settlement (((s.hunt port).moveTicket t).port port).defaultPrinter port =
      { kind := .settlement, printer := (s.port port).defaultPrinter, port := port, stamp := s.nextStamp, started := false } := by
  have printer : (((s.hunt port).moveTicket t).port port).defaultPrinter = (s.port port).defaultPrinter := by
    rw [State.moveTicket, State.port_raise, Port.offer_defaultPrinter, State.port_putTicket, State.hunt_port_defaultPrinter]
  rw [printer]
  rfl

/-- Settles O35: the checks go as one list, and a close that passes them owes its receipt before the counter goes on. -/
theorem closeTicketCloses : Obligations.CloseTicketCloses := by
  intro k s n t print h hr hn1 hn2 ht ho hp
  have hn := (ticketNumberOk_iff n).2 ⟨hn1, hn2⟩
  refine ⟨fun empty => exec_closeTicket_refused h hr hn ht ho hp (if_pos empty), fun i reason fail l ln hi earlier hl hf before => ?_,
    fun nonempty pass => ?_⟩
  · exact exec_closeTicket_refused h hr hn ht ho hp (closeCheck_eq_some (b := s.active) (t := t) hi earlier hl hf before)
  · have effect := exec_closeTicket_settles h hr hn ht ho hp (closeCheck_passes (b := s.active) nonempty pass)
    obtain ⟨r, settlement, answer⟩ := closeAnswer_settled s t
    rw [answer] at effect
    refine ⟨r, settlement, fun off => ?_, fun on hlt => ?_, fun on hle => ?_⟩
    · rw [off] at effect
      exact effect
    · rw [on, if_pos rfl, State.owe, State.newOwed_afterMove,
        State.advanceStamp_of_lt (s := ((s.hunt k.port).moveTicket _).putTicket _) hlt] at effect
      exact effect
    · rw [on, if_pos rfl, State.owe, State.newOwed_afterMove] at effect
      exact ⟨_, State.advanceStamp_renumbered hle, effect⟩

end Sys2Proof.Machine
end

section
/-! PAY (R120 to R126, R135, R138): the payment before the counter goes on, and the job that served a replaced SETTLEMENT receipt. -/

namespace Sys2Proof.Machine

/-! ### The job that served a replaced receipt (R138) -/

/-- The job that serves a receipt replaced by another dealt with, where there is one. -/
def State.convertServing (s : State) (t : Ticket) (o : Owed) (old : Option Owed) : State :=
  match old.bind (s.servingJob? t.number) with
  | none => s
  | some j => s.convertJob t o j

theorem State.owePayout_eq (s : State) (t : Ticket) (port : PortId) :
    let o := s.newOwed .payout (s.port port).defaultPrinter port
    let u : Ticket := { t with owed := some o }
    s.owePayout t port = ((s.putTicket u).convertServing u o t.owed).advanceStamp := by
  unfold State.owePayout State.convertServing
  cases t.owed with
  | none => rfl
  | some old => rfl

section
variable {s : State} {t : Ticket} {o : Owed} {j : Job}

theorem State.convertJob_queued (h : j.state = .queued) : s.convertJob t o j = s.putJob (s.convertedJob t o j) := by
  rw [State.convertJob, h]

theorem State.convertJob_printing (h : j.state = .printing) : s.convertJob t o j = s := by
  rw [State.convertJob, h]

theorem State.convertJob_taken (h : j.state = .taken) : s.convertJob t o j =
    if o.printer = j.printer then s.putJob (s.convertedJob t o j)
    else (s.putJob { s.convertedJob t o j with state := .queued }).closeReceipt j.printer := by
  rw [State.convertJob, h]
  rfl

end

theorem State.convertJob_ports (s : State) (t : Ticket) (o : Owed) (j : Job) : (s.convertJob t o j).ports = s.ports := by
  cases h : j.state with
  | queued => rw [State.convertJob_queued h]; rfl
  | taken =>
    rw [State.convertJob_taken h]
    split_ifs
    · rfl
    · exact State.closeReceipt_ports _ _
  | printing => rw [State.convertJob_printing h]

section
variable (s : State) (t : Ticket) (o : Owed) (old : Option Owed)

theorem State.convertServing_induct {P : State → Prop} (h0 : P s) (h : ∀ j, P (s.convertJob t o j)) : P (s.convertServing t o old) := by
  unfold State.convertServing
  cases old.bind (s.servingJob? t.number) with
  | none => exact h0
  | some j => exact h j

theorem State.poolStep_convertServing : s.PoolStep (s.convertServing t o old) :=
  s.convertServing_induct t o old (.refl s) fun _ => s.poolStep_convertJob t o _

theorem State.convertServing_ports : (s.convertServing t o old).ports = s.ports :=
  s.convertServing_induct (P := fun u => u.ports = s.ports) t o old rfl fun _ => s.convertJob_ports t o _

end

/-- What a payment on a port makes of the job that served the receipt replaced by that of the paid ticket (R138). -/
def State.ConvertsServing (s u : State) (t : Ticket) (old : Option Owed) (port : PortId) : Prop :=
  let printer := (s.port port).defaultPrinter
  let put : Job → List Job := fun y => s.jobs.map fun x => if x.id = y.id then y else x
  let counted := (List.finRange 4).filter fun i => !blankText s.headers[i]
  let marks := receiptMarks t s.storeLost false false
  ((∀ o, old = some o → s.servingJob? t.number o = none) → u.jobs = s.jobs ∧ u.printers = s.printers) ∧
  (∀ o j, old = some o → s.servingJob? t.number o = some j →
    let y : Job := { j with
      kind := .ticket .payout, source := .owed t.number s.nextStamp, printer := printer, port := port,
      rank := (s.port port).role.rank, counted := counted, marks := marks, markLine := [],
      total := counted.length + 4 * t.lines.length + marks.length + 10 }
    (j.state = .queued → u.jobs = put y ∧ u.printers = s.printers) ∧
    (j.state = .taken → j.printer = printer → u.jobs = put y ∧ u.printers = s.printers) ∧
    (j.state = .taken → j.printer ≠ printer → u.jobs = put { y with state := .queued } ∧
      (∀ v, v ≠ j.printer → u.printer v = s.printer v) ∧
      u.printer j.printer =
        if (s.printer j.printer).awaited = none then
          { s.printer j.printer with sent := (s.printer j.printer).sent ++ [.fin], closeOwed := false }
        else { s.printer j.printer with closeOwed := true }) ∧
    (j.state = .printing → u.jobs = s.jobs ∧ u.printers = s.printers))

/-- A state converts as another does that reads the same and leaves the same pool and printers. -/
theorem State.ConvertsServing.congr {s s' u u' : State} {t : Ticket} {old : Option Owed} {port : PortId} (h : s'.ConvertsServing u' t old port)
    (printer : (s'.port port).defaultPrinter = (s.port port).defaultPrinter) (role : (s'.port port).role = (s.port port).role)
    (jobs : s'.jobs = s.jobs) (printers : s'.printers = s.printers) (headers : s'.headers = s.headers)
    (lost : s'.storeLost = s.storeLost) (stamp : s'.nextStamp = s.nextStamp) (jobs' : u'.jobs = u.jobs)
    (printers' : u'.printers = u.printers) : s.ConvertsServing u t old port := by
  have one : ∀ v, s'.printer v = s.printer v := fun v => congrArg (fun x => x[v]) printers
  have one' : ∀ v, u'.printer v = u.printer v := fun v => congrArg (fun x => x[v]) printers'
  simpa only [State.ConvertsServing, State.servingJob?, printer, role, jobs, printers, headers, lost, stamp, jobs', printers', one, one']
    using h

/-- The payment's conversion of the job that served the replaced receipt. -/
theorem State.convertsServing (s : State) (t : Ticket) (port : PortId) (old : Option Owed) :
    let o : Owed :=
      { kind := .payout, printer := (s.port port).defaultPrinter, port := port, stamp := s.nextStamp, started := false }
    s.ConvertsServing (s.convertServing t o old) t old port := by
  intro o
  refine ⟨fun none => ?_, fun q j hq hj => ?_⟩
  · have idle : old.bind (s.servingJob? t.number) = .none := by
      cases old with
      | none => rfl
      | some q => exact none q rfl
    rw [State.convertServing, idle]
    exact ⟨rfl, rfl⟩
  · have serving : s.convertServing t o old = s.convertJob t o j := by
      cases hq
      rw [State.convertServing, Option.bind_some, hj]
    rw [serving]
    refine ⟨fun queued => ?_, fun taken same => ?_, fun taken other => ?_, fun printing => ?_⟩
    · rw [State.convertJob_queued queued]
      exact ⟨rfl, rfl⟩
    · rw [State.convertJob_taken taken, if_pos same.symm]
      exact ⟨rfl, rfl⟩
    · rw [State.convertJob_taken taken, if_neg (Ne.symm other)]
      refine ⟨State.closeReceipt_jobs _ _, fun v hv => ?_, ?_⟩
      · rw [State.closeReceipt_printer, if_neg hv]
        rfl
      · rw [State.closeReceipt_printer, if_pos rfl]
        rfl
    · rw [State.convertJob_printing printing]
      exact ⟨rfl, rfl⟩

end Sys2Proof.Machine
end

section
/-! PAY (R120 to R126, R135): what a payment writes. -/

namespace Sys2Proof.Machine

/-! ### A payment before the counter goes on (R124, R125) -/

section
variable (s : State) (t : Ticket) (port : PortId) (method : PayMethod) (amount : Nat) (rounding : Int) (totals : Totals)

theorem State.moveTicket_defaultPrinter (q : PortId) : ((s.moveTicket t).port q).defaultPrinter = (s.port q).defaultPrinter := by
  rw [State.moveTicket, State.port_raise, Port.offer_defaultPrinter, State.port_putTicket]

theorem State.moveTicket_role (q : PortId) : ((s.moveTicket t).port q).role = (s.port q).role := by
  rw [State.moveTicket, State.port_raise, Port.offer_role, State.port_putTicket]

/-- The PAYOUT receipt that a payment makes owed. -/
def State.payoutOwed : Owed :=
  { kind := .payout, printer := (s.port port).defaultPrinter, port := port, stamp := s.nextStamp, started := false }

/-- The ticket that a payment leaves. -/
def State.paidOwing : Ticket := { s.paidTicket t port method amount rounding with owed := some (s.payoutOwed port) }

/-- The totals written, the ticket PAID and owing its receipt, and its event raised. -/
def State.recordsPayment : State :=
  (({ s with totals := totals } : State).moveTicket (s.paidTicket t port method amount rounding)).putTicket
    (s.paidOwing t port method amount rounding)

/-- A payment before the counter goes on past the stamp of its receipt. -/
def State.paysOut : State :=
  (s.recordsPayment t port method amount rounding totals).convertServing (s.paidOwing t port method amount rounding) (s.payoutOwed port) t.owed

theorem State.payTicket_eq (hit : Bool) : s.payTicket t port method amount rounding hit =
    (s.paysOut t port method amount rounding ((s.totals.feed t.lines method amount rounding).orSaturated hit)).advanceStamp := by
  rw [State.payTicket]
  generalize (s.totals.feed t.lines method amount rounding).orSaturated hit = totals
  have owed : (({ s with totals := totals } : State).moveTicket (s.paidTicket t port method amount rounding)).newOwed .payout
      ((({ s with totals := totals } : State).moveTicket (s.paidTicket t port method amount rounding)).port port).defaultPrinter port =
        s.payoutOwed port := by
    rw [State.newOwed, State.moveTicket_defaultPrinter]
    rfl
  refine (State.owePayout_eq _ _ port).trans ?_
  rw [owed]
  rfl

theorem State.poolStep_paysOut :
    (s.recordsPayment t port method amount rounding totals).PoolStep (s.paysOut t port method amount rounding totals) :=
  State.poolStep_convertServing _ _ _ _

/-- A payment changes the ports by its TICKET event alone. -/
theorem State.paysOut_ports :
    (s.paysOut t port method amount rounding totals).ports = (s.raise (.ticket t.number (some .paid))).ports :=
  State.convertServing_ports _ _ _ _

theorem State.port_paysOut (q : PortId) : (s.paysOut t port method amount rounding totals).port q =
    (s.port q).offer { event := .ticket t.number (some .paid), time := s.clock } := by
  rw [State.port, State.paysOut_ports, ← s.port_raise]
  rfl

theorem State.hearsAlike_paysOut :
    (s.raise (.ticket t.number (some .paid))).HearsAlike (s.paysOut t port method amount rounding totals) :=
  State.hearsAlike_of_ports (by rw [(s.poolStep_paysOut t port method amount rounding totals).1]; rfl)
    (s.paysOut_ports t port method amount rounding totals)

variable {s t}

theorem State.ticket?_paysOut_self {n : Nat} (ht : s.ticket? n = some t) :
    (s.paysOut t port method amount rounding totals).ticket? n = some (s.paidOwing t port method amount rounding) := by
  have hn : t.number = n := State.ticket?_number ht
  have moved : (({ s with totals := totals } : State).moveTicket (s.paidTicket t port method amount rounding)).ticket? n =
      some (s.paidTicket t port method amount rounding) :=
    State.ticket?_putTicket_self (s := { s with totals := totals }) ht hn
  rw [(s.poolStep_paysOut t port method amount rounding totals).ticket?]
  exact State.ticket?_putTicket_self moved hn

theorem State.ticket?_paysOut_other {m : Nat} (hm : m ≠ t.number) :
    (s.paysOut t port method amount rounding totals).ticket? m = s.ticket? m := by
  rw [(s.poolStep_paysOut t port method amount rounding totals).ticket?]
  exact (State.ticket?_putTicket_other _ (t := s.paidOwing t port method amount rounding) hm).trans
    (State.ticket?_putTicket_other ({ s with totals := totals } : State) (t := s.paidTicket t port method amount rounding) hm)

/-- The job that served the replaced receipt, as a payment leaves it (R138). -/
theorem State.convertsServing_paysOut : s.ConvertsServing (s.paysOut t port method amount rounding totals)
    (s.paidOwing t port method amount rounding) t.owed port := by
  have same : ∀ q, ((s.recordsPayment t port method amount rounding totals).port q).defaultPrinter = (s.port q).defaultPrinter ∧
      ((s.recordsPayment t port method amount rounding totals).port q).role = (s.port q).role := fun q => by
    rw [State.recordsPayment, State.port_putTicket, State.moveTicket_defaultPrinter, State.moveTicket_role]
    exact ⟨rfl, rfl⟩
  have owed : s.payoutOwed port = (s.recordsPayment t port method amount rounding totals).payoutOwed port := by
    rw [State.payoutOwed, State.payoutOwed, (same port).1]
    rfl
  rw [State.paysOut, owed]
  exact ((s.recordsPayment t port method amount rounding totals).convertsServing _ port t.owed).congr (same port).1 (same port).2
    rfl rfl rfl rfl rfl rfl rfl

end

end Sys2Proof.Machine
end

section
/-! PAY (R120 to R126, R135, R138): the command, for CASH and for VOUCHER. -/

namespace Sys2Proof.Machine

/-! ### What a payment writes -/

/-- A state that differs from another in the receivers and the drawers of its ports alone. -/
def State.Readies (s w : State) : Prop :=
  w = { s with ports := w.ports } ∧
    ∀ q, w.port q = { s.port q with receiver := (w.port q).receiver, drawer := (w.port q).drawer }

theorem State.readies_hunt (s : State) (p : PortId) : s.Readies (s.hunt p) := by
  refine ⟨rfl, fun q => ?_⟩
  rw [State.hunt, State.port_setPort]
  split_ifs with e
  · rw [e]
  · rfl

theorem State.Readies.setDrawer {s w : State} (h : s.Readies w) (p : PortId) (d : Drawer) : s.Readies (w.setDrawer p d) := by
  refine ⟨by rw [State.setDrawer, State.setPort, h.1], fun q => ?_⟩
  rw [State.setDrawer, State.port_setPort]
  split_ifs with e
  · rw [e, h.2 q]
  · rw [h.2 q]

theorem State.Readies.hearsAlike {s w : State} (h : s.Readies w) : s.HearsAlike w :=
  ⟨by rw [h.1], fun p => by rw [h.2 p]; exact ⟨rfl, rfl, rfl⟩⟩

/-- A payment of a ticket on a port, apart from drawers, replies and the stamp counter. -/
structure State.Pays (s u : State) (t : Ticket) (port : PortId) (payout : Payout) : Prop where
  ticket : u.ticket? t.number = some { t with state := .paid, payout := some payout, owed := some (s.payoutOwed port) }
  others : ∀ m, m ≠ t.number → u.ticket? m = s.ticket? m
  converts : s.ConvertsServing u { t with state := .paid, payout := some payout, owed := some (s.payoutOwed port) } t.owed port
  hears : (s.raise (.ticket t.number (some .paid))).HearsAlike u
  active : u.active = s.active
  channels : u.channels = s.channels
  report : u.report = s.report

section
variable {s w : State} {t : Ticket} (h : s.Readies w) (ht : s.ticket? t.number = some t) (port : PortId)
  (method : PayMethod) (amount : Nat) (rounding : Int) (totals : Totals)
include h ht

theorem State.Readies.pays :
    s.Pays (w.paysOut t port method amount rounding totals) t port (Payout.mk method amount rounding port s.clock) := by
  have owed : w.payoutOwed port = s.payoutOwed port := by
    rw [State.payoutOwed, h.1, show ({ s with ports := w.ports } : State).port port = w.port port from rfl, h.2 port]
    rfl
  have owing : w.paidOwing t port method amount rounding = { t with
      state := .paid, payout := some (Payout.mk method amount rounding port s.clock), owed := some (s.payoutOwed port) } := by
    rw [State.paidOwing, owed, State.paidTicket, h.1]
  have ticket : w.ticket? t.number = some t := by rw [h.1]; exact ht
  have self := State.ticket?_paysOut_self port method amount rounding totals ticket
  have step := w.poolStep_paysOut t port method amount rounding totals
  refine ⟨self.trans (congrArg some owing), fun m hm => ?_, owing ▸ ?_, ?_, ?_, ?_, ?_⟩
  · rw [State.ticket?_paysOut_other port method amount rounding totals hm, h.1]
    rfl
  · exact (State.convertsServing_paysOut (s := w) (t := t) port method amount rounding totals).congr
      (by rw [h.2 port]) (by rw [h.2 port]) (by rw [h.1]) (by rw [h.1]) (by rw [h.1]) (by rw [h.1]) (by rw [h.1]) rfl rfl
  · exact (h.hearsAlike.raise _).trans (w.hearsAlike_paysOut t port method amount rounding totals)
  · rw [step.1, h.1]
    rfl
  · rw [step.1, h.1]
    rfl
  · rw [step.1, h.1]
    rfl

end

theorem State.Pays.tells {s u : State} {t : Ticket} {port : PortId} {payout : Payout} (h : s.Pays u t port payout) :
    s.tells u [.ticket t.number (some .paid)] :=
  State.HearsAlike.tells (es := [.ticket t.number (some .paid)]) h.hears

/-- The reply of a payment, and the counter gone on, leave what it wrote. -/
theorem State.Pays.replied {s u : State} {t : Ticket} {port : PortId} {payout : Payout} (h : s.Pays u t port payout) (k : Packet)
    (a : Answer) (n : Nat) : s.Pays (({ u with nextStamp := n } : State).replied k a) t port payout where
  ticket := h.ticket
  others := h.others
  converts := h.converts.congr rfl rfl rfl rfl rfl rfl rfl rfl rfl
  hears := h.hears.trans ((State.hearsAlike_of_ports rfl rfl).trans (State.hearsAlike_reply _ _ _ _))
  active := h.active
  channels := h.channels
  report := h.report

/-! ### The drawer -/

/-- A drawer that pays C: its balance lowered, its paid today raised up to its limit (R114, R122). -/
theorem Drawer.payOut_eq (d : Drawer) (amount : Nat) : d.payOut amount =
    ({ balance := d.balance - amount, paidToday := min (d.paidToday + amount) 99999999999 },
      decide (99999999999 < d.paidToday + amount)) := by
  rw [Drawer.payOut, addCapped, show Config.maxFigure = 99999999999 from rfl]
  split_ifs with above
  · rw [Nat.min_eq_right (Nat.le_of_lt above), decide_eq_true above]
  · rw [Nat.min_eq_left (Nat.not_lt.1 above), decide_eq_false above]

theorem Totals.orSaturated_false (x : Totals) : x.orSaturated false = x := by
  rw [Totals.orSaturated, Bool.or_false]

/-! ### The command -/

/-- The payment of a PAYABLE ticket by a method (R121, R123). -/
def State.payBy (w : State) (port : PortId) (t : Ticket) (total : Nat) : PayMethod → Effect
  | .cash => w.payCash port t total
  | .voucher => w.payVoucher port t total

/-- What a payment on a port leaves before the counter goes on. -/
def State.paymentBy (w : State) (t : Ticket) (port : PortId) (method : PayMethod) (amount : Nat) (rounding : Int) (hit : Bool) : State :=
  w.paysOut t port method amount rounding ((w.totals.feed t.lines method amount rounding).orSaturated hit)

section
variable {k : Packet} {s : State} {n : Nat} {t : Ticket} {r : Settlement} (h : s.takes k) (hr : (s.port k.port).role ∈ permitted 35)
  (hn : ticketNumberOk n = true) (ht : s.ticket? n = some t) (hs : t.state = .payable) (hst : t.settlement = some r)
include h hr hn ht hs hst

/-- PAY of a PAYABLE ticket goes by its method. -/
theorem exec_pay {v : Nat} {method : PayMethod} (hm : PayMethod.ofCode? v = some method) (hv : v < 256)
    (hp : k.params = numBytes 4 n ++ numBytes 1 v) : exec (.pay k) s = .next (carriedOut k ((s.hunt k.port).payBy k.port t r.total method)) := by
  have parse : TicketByteArgs.parse k.params = some ⟨n, v⟩ := hp ▸ TicketByteArgs.parse_bytes n v (ticketNumberOk_fits hn) hv
  refine (takeCommand_effect (pay k.port) h ((by decide : ∀ r ∈ permitted 35, supervisorOrPayout r = true) _ hr) parse).trans ?_
  rw [pay, hn, hm, State.ticket?_hunt, ht]
  dsimp only
  rw [hs, if_neg (by decide), if_neg (by decide), Ticket.total, hst]
  cases method <;> rfl

/-- A payment by CASH that its drawer can make. -/
theorem exec_pay_cash {d : Drawer} (hd : (s.port k.port).drawer = some d) (hl : r.total ≤ s.settings.cashLimit)
    (hb : cashAmount s.settings.cashUnit r.total ≤ d.balance) (hp : k.params = numBytes 4 n ++ numBytes 1 0) :
    let c := cashAmount s.settings.cashUnit r.total
    let rounding := cashRounding s.settings.cashUnit r.total
    let hit := decide (99999999999 < d.paidToday + c)
    exec (.pay k) s = .next ((((s.hunt k.port).setDrawer k.port
        { balance := d.balance - c, paidToday := min (d.paidToday + c) 99999999999 }).paymentBy t k.port .cash c rounding hit).advanceStamp.replied
      k (answerWith (notesOf [(decide (rounding ≠ 0), .cashRounded), (s.paySaturates t .cash c rounding hit, .totalsSaturated)])
        (numBytes 1 0 ++ numBytes 5 c ++ intBytes 5 rounding ++ (1#8 :: numBytes 5 (d.balance - c))))) := by
  intro c rounding hit
  refine (exec_pay h hr hn ht hs hst (method := .cash) rfl (by decide) hp).trans ?_
  rw [State.payBy, State.payCash, State.hunt_port_drawer, hd]
  dsimp only
  rw [show (s.hunt k.port).settings = s.settings from rfl, if_neg (Nat.not_lt.2 hl), if_neg (Nat.not_lt.2 hb), Drawer.payOut_eq]
  dsimp only
  rw [State.payTicket_eq]
  rfl

/-- A payment by VOUCHER. -/
theorem exec_pay_voucher (hp : k.params = numBytes 4 n ++ numBytes 1 1) : exec (.pay k) s = .next
    (((s.hunt k.port).paymentBy t k.port .voucher r.total 0 false).advanceStamp.replied k
      (answerWith (notesOf [(s.paySaturates t .voucher r.total 0 false, .totalsSaturated)])
        (numBytes 1 1 ++ numBytes 5 r.total ++ intBytes 5 0 ++ List.replicate 6 0#8))) := by
  refine (exec_pay h hr hn ht hs hst (method := .voucher) rfl (by decide) hp).trans ?_
  rw [State.payBy, State.payVoucher, State.payTicket_eq]
  rfl

end

/-! ### The payment and its reply -/

section
variable {s w : State} {t : Ticket} (hw : s.Readies w) (ht : s.ticket? t.number = some t) (k : Packet)
  (method : PayMethod) (amount : Nat) (rounding : Int) (hit : Bool) (a : Answer)

include hw ht in
/-- Before the last stamp, a payment's reply leaves what the payment writes, with the next stamp. -/
theorem State.Readies.pays_replied (hlt : s.nextStamp < 4294967295) :
    let u := (w.paymentBy t k.port method amount rounding hit).advanceStamp.replied k a
    s.Pays u t k.port (Payout.mk method amount rounding k.port s.clock) ∧ u.nextStamp = s.nextStamp + 1 ∧
      u.totals = (s.totals.feed t.lines method amount rounding).orSaturated hit := by
  intro u
  have pays := hw.pays ht k.port method amount rounding ((w.totals.feed t.lines method amount rounding).orSaturated hit)
  have step := w.poolStep_paysOut t k.port method amount rounding ((w.totals.feed t.lines method amount rounding).orSaturated hit)
  have stamp : (w.paymentBy t k.port method amount rounding hit).nextStamp = s.nextStamp := by
    rw [State.paymentBy, step.1, hw.1]
    rfl
  have written : u = ({ w.paymentBy t k.port method amount rounding hit with nextStamp := s.nextStamp + 1 } : State).replied k a := by
    rw [← stamp, ← State.advanceStamp_of_lt (stamp ▸ hlt)]
  rw [written]
  refine ⟨pays.replied k a _, rfl, ?_⟩
  have fed : (w.paymentBy t k.port method amount rounding hit).totals = (w.totals.feed t.lines method amount rounding).orSaturated hit := by
    rw [State.paymentBy, step.1]
    rfl
  exact fed.trans (by rw [hw.1])

/-- The counter goes on without touching the ports. -/
theorem State.advanceStamp_ports (u : State) : u.advanceStamp.ports = u.ports := by
  unfold State.advanceStamp
  split_ifs <;> rfl

/-- The ports after a payment's reply: the TICKET event offered, and the reply in the output queue of the paying port. -/
theorem State.port_paymentBy_replied (q : PortId) :
    (((w.paymentBy t k.port method amount rounding hit).advanceStamp.replied k a).port q).drawer = (w.port q).drawer ∧
    (((w.paymentBy t k.port method amount rounding hit).advanceStamp.replied k a).port q).out =
      (w.port q).out ++ if k.port = q then [.reply { tag := k.tag, answer := a }] else [] := by
  have port : ∀ q, (w.paymentBy t k.port method amount rounding hit).advanceStamp.port q =
      (w.port q).offer { event := .ticket t.number (some .paid), time := w.clock } := fun q => by
    rw [State.port, State.advanceStamp_ports]
    exact w.port_paysOut t k.port method amount rounding _ q
  rw [State.port_reply]
  split_ifs with e
  · subst e
    rw [port, Port.offer_drawer, Port.offer_out]
    exact ⟨rfl, rfl⟩
  · rw [port, Port.offer_drawer, Port.offer_out, List.append_nil]
    exact ⟨rfl, rfl⟩

end

/-- Settles O41: the payment is followed up to the stamp counter, then before and after its last stamp. -/
theorem payPaysTheTicket : Obligations.PayPaysTheTicket := by
  refine ⟨?_, fun k s n method t r h hle hr hn1 hn2 ht hs hst hp hm => ?_⟩
  · intro k s n t r h hlt hr hn1 hn2 ht hs hst owed converted
    have hn := (ticketNumberOk_iff n).2 ⟨hn1, hn2⟩
    obtain rfl : t.number = n := State.ticket?_number ht
    have hunted := s.readies_hunt k.port
    refine ⟨?_, fun hp => ?_⟩
    · intro d c rounding hd hl hb hp
      have ready := hunted.setDrawer k.port { balance := d.balance - c, paidToday := min (d.paidToday + c) 99999999999 }
      refine ⟨_, exec_pay_cash h hr hn ht hs hst hd hl hb hp, ?_⟩
      obtain ⟨pays, stamp, totals⟩ := ready.pays_replied ht k .cash c rounding (decide (99999999999 < d.paidToday + c)) _ hlt
      have port := State.port_paymentBy_replied (w := (s.hunt k.port).setDrawer k.port
        { balance := d.balance - c, paidToday := min (d.paidToday + c) 99999999999 }) (t := t) k .cash c rounding
        (decide (99999999999 < d.paidToday + c))
      refine ⟨(port _ k.port).1.trans ?_, pays.ticket, totals, fun t' ht' => ?_, pays.tells, stamp, pays.others,
        pays.active, pays.channels, fun q hq => (port _ q).1.trans ?_, (port _ k.port).2.trans ?_⟩
      · rw [State.setDrawer, State.port_setPort, if_pos rfl]
      · cases ht'.symm.trans pays.ticket
        exact pays.converts
      · rw [State.setDrawer, State.port_setPort, if_neg (Ne.symm hq), State.hunt_port_drawer]
      · rw [if_pos rfl, State.setDrawer, State.port_setPort, if_pos rfl, State.hunt_port_out]
    · refine ⟨_, exec_pay_voucher h hr hn ht hs hst hp, ?_⟩
      obtain ⟨pays, stamp, totals⟩ := hunted.pays_replied ht k .voucher r.total 0 false _ hlt
      have port := State.port_paymentBy_replied (w := s.hunt k.port) (t := t) k .voucher r.total 0 false
      refine ⟨pays.ticket, totals.trans (Totals.orSaturated_false _), fun t' ht' => ?_, pays.tells, stamp, pays.others,
        pays.active, pays.channels, fun q => (port _ q).1.trans (s.hunt_port_drawer _ _), (port _ k.port).2.trans ?_⟩
      · cases ht'.symm.trans pays.ticket
        exact pays.converts
      · rw [if_pos rfl, State.hunt_port_out]
  · have hn := (ticketNumberOk_iff n).2 ⟨hn1, hn2⟩
    obtain rfl : t.number = n := State.ticket?_number ht
    have hunted := s.readies_hunt k.port
    have last : ∀ {w : State} (method : PayMethod) (amount : Nat) (rounding : Int) (hit : Bool), s.Readies w →
        4294967295 ≤ (w.paymentBy t k.port method amount rounding hit).nextStamp := fun {w} method amount rounding hit hw => by
      rw [State.paymentBy, (w.poolStep_paysOut ..).1]
      rw [hw.1]
      exact hle
    rcases hm with rfl | ⟨rfl, d, hd, hl, hb⟩
    · have pays := hunted.pays ht k.port .voucher r.total 0 ((s.totals.feed t.lines .voucher r.total 0).orSaturated false)
      exact ⟨_, _, _, _, exec_pay_voucher h hr hn ht hs hst hp, pays.ticket, pays.others, pays.report,
        State.advanceStamp_renumbered (last .voucher _ _ _ hunted)⟩
    · have ready := hunted.setDrawer k.port
        { balance := d.balance - cashAmount s.settings.cashUnit r.total,
          paidToday := min (d.paidToday + cashAmount s.settings.cashUnit r.total) 99999999999 }
      have pays := ready.pays ht k.port .cash (cashAmount s.settings.cashUnit r.total) (cashRounding s.settings.cashUnit r.total)
        ((s.totals.feed t.lines .cash (cashAmount s.settings.cashUnit r.total) (cashRounding s.settings.cashUnit r.total)).orSaturated
          (decide (99999999999 < d.paidToday + cashAmount s.settings.cashUnit r.total)))
      exact ⟨_, _, _, _, exec_pay_cash h hr hn ht hs hst hd hl hb hp, pays.ticket, pays.others, pays.report,
        State.advanceStamp_renumbered (last .cash _ _ _ ready)⟩

end Sys2Proof.Machine
end

section
/-! What cancellations in the pool tell the ports (R139, R145, R152, R156) and what they leave of a printer's line (R149). -/

namespace Sys2Proof.Machine

/-! ### The events of the pool -/

/-- An event that the pool or a printer raises. -/
def Event.ofPool (e : Event) : Prop := e.kind = .job ∨ e.kind = .printer

/-- A state that hears as another after some events of the pool. -/
def State.TellsPool (s u : State) : Prop := ∃ es : List Event, (es.foldl State.raise s).HearsAlike u ∧ ∀ e ∈ es, e.ofPool

theorem State.HearsAlike.tellsPool {s u : State} (h : s.HearsAlike u) : s.TellsPool u := ⟨[], h, fun _ he => nomatch he⟩

theorem State.TellsPool.trans {s u v : State} (h : s.TellsPool u) (h' : u.TellsPool v) : s.TellsPool v := by
  obtain ⟨es, hs, he⟩ := h
  obtain ⟨fs, hu, hf⟩ := h'
  refine ⟨es ++ fs, ?_, fun e => ?_⟩
  · rw [List.foldl_append]
    exact (hs.foldl_raise fs).trans hu
  · rw [List.mem_append]
    exact fun h => h.elim (he e) (hf e)

/-- A pool operation whose ports are those after one event of the pool. -/
theorem State.PoolStep.tellsPool_of_raise {s u : State} (h : s.PoolStep u) {e : Event} (he : e.ofPool)
    (hp : u.ports = (s.raise e).ports) : s.TellsPool u :=
  ⟨[e], State.hearsAlike_of_ports (by rw [h.1]; rfl) hp, fun _ hm => List.mem_singleton.1 hm ▸ he⟩

theorem State.PoolStep.hearsAlike {s u : State} (h : s.PoolStep u) (hp : u.ports = s.ports) : s.HearsAlike u :=
  State.hearsAlike_of_ports (by rw [h.1]) hp

theorem State.tellsPool_leavePool (s : State) (j : Job) (o : JobOutcome) : s.TellsPool (s.leavePool j o) :=
  (s.poolStep_leavePool j o).tellsPool_of_raise (.inl rfl) (s.leavePool_ports j o)

theorem State.tellsPool_setLock (s : State) (r : PrinterId) (l : Lock) : s.TellsPool (s.setLock r l) := by
  by_cases h : (s.printer r).lock = l
  · rw [State.setLock, if_pos h]
    exact (State.HearsAlike.refl s).tellsPool
  · exact (s.poolStep_setLock r l).tellsPool_of_raise (.inr rfl) (s.setLock_ports r h)

theorem State.tellsPool_settleLock (s : State) (r : PrinterId) : s.TellsPool (s.settleLock r) := by
  unfold State.settleLock
  split
  · split_ifs
    · exact (State.HearsAlike.refl s).tellsPool
    · exact s.tellsPool_setLock _ _
  · exact (State.HearsAlike.refl s).tellsPool
  · exact (State.HearsAlike.refl s).tellsPool

theorem State.tellsPool_cancelOne (s : State) (j : Job) : s.TellsPool (s.cancelOne j) :=
  (s.tellsPool_leavePool j .cancelled).trans (State.tellsPool_settleLock _ _)

theorem State.tellsPool_cancelWhere (s : State) (p : Job → Bool) : s.TellsPool (s.cancelWhere p) := by
  unfold State.cancelWhere
  generalize s.jobs.filter p = l
  induction l generalizing s with
  | nil => exact (State.HearsAlike.refl s).tellsPool
  | cons j js ih => exact (s.tellsPool_cancelOne j).trans (ih _)

theorem State.tellsPool_withdrawAtReopen (s : State) (t : Ticket) : s.TellsPool (s.withdrawAtReopen t) := by
  unfold State.withdrawAtReopen
  split
  · exact (State.HearsAlike.refl s).tellsPool
  · split
    · exact (State.HearsAlike.refl s).tellsPool
    · split_ifs
      · exact ((s.poolStep_putJob _).hearsAlike rfl).tellsPool
      · exact s.tellsPool_cancelOne _

/-! ### The line of a printer through cancellations (R149) -/

/-- The line of a printer as in another state, its lock apart. -/
def State.SameLine (s u : State) (v : PrinterId) : Prop := u.printer v = { s.printer v with lock := (u.printer v).lock }

theorem State.SameLine.refl (s : State) (v : PrinterId) : s.SameLine s v := rfl

theorem State.SameLine.trans {s u w : State} {v : PrinterId} (h : s.SameLine u v) (h' : u.SameLine w v) : s.SameLine w v := by
  unfold State.SameLine at *
  rw [h', h]

/-- The receipt begun on a printer is closed: by an END, or once the awaited answer has come. -/
def State.ClosesReceipt (s u : State) (v : PrinterId) : Prop :=
  ((s.printer v).awaited = none → (u.printer v).sent = (s.printer v).sent ++ [.fin]) ∧
    ((s.printer v).awaited ≠ none → (u.printer v).closeOwed = true)

theorem State.ClosesReceipt.sameLine {s u w : State} {v : PrinterId} (h : s.ClosesReceipt u v) (h' : u.SameLine w v) :
    s.ClosesReceipt w v := by
  unfold State.ClosesReceipt
  rw [h']
  exact h

/-- A job that is not on a printer's line leaves it. -/
theorem State.sameLine_cancelOne (s : State) {j : Job} {v : PrinterId} (h : j.printer = v → j.active = false) :
    s.SameLine (s.cancelOne j) v := by
  have left : (s.leavePool j .cancelled).printer v = s.printer v := by
    rw [State.leavePool_printer]
    split_ifs with active
    · rw [State.closeReceipt_printer, if_neg]
      rintro rfl
      exact Bool.false_ne_true ((h rfl).symm.trans active.1)
    · rfl
  rw [State.SameLine, State.cancelOne, ((s.leavePool j .cancelled).settleLock_printer j.printer v).1, left]

theorem State.sameLine_foldl_cancelOne (s : State) {l : List Job} {v : PrinterId} (h : ∀ j ∈ l, j.printer = v → j.active = false) :
    s.SameLine (l.foldl State.cancelOne s) v := by
  induction l generalizing s with
  | nil => exact .refl s v
  | cons j js ih =>
    exact (s.sameLine_cancelOne (h j List.mem_cons_self)).trans (ih _ fun x hx => h x (List.mem_cons_of_mem _ hx))

theorem State.sameLine_cancelWhere (s : State) {p : Job → Bool} {v : PrinterId}
    (h : ∀ j ∈ s.jobs, p j = true → j.printer = v → j.active = false) : s.SameLine (s.cancelWhere p) v :=
  s.sameLine_foldl_cancelOne fun j hj => h j (List.mem_filter.1 hj).1 (List.mem_filter.1 hj).2

/-- A job on a printer's line that is cancelled has its receipt closed. -/
theorem State.closesReceipt_cancelOne (s : State) {j : Job} (h : j.active = true) : s.ClosesReceipt (s.cancelOne j) j.printer := by
  have closed : s.ClosesReceipt (s.leavePool j .cancelled) j.printer := by
    unfold State.ClosesReceipt
    rw [State.leavePool_printer, if_pos ⟨h, by decide⟩, State.closeReceipt_printer, if_pos rfl]
    refine ⟨fun free => by rw [if_pos free], fun waits => by rw [if_neg waits]⟩
  exact closed.sameLine ((s.leavePool j .cancelled).settleLock_printer j.printer j.printer).1

/-! ### The job that serves a receipt (R133, R136) -/

theorem State.servingJob?_spec {s : State} {n : Nat} {o : Owed} {j : Job} (h : s.servingJob? n o = some j) :
    j ∈ s.jobs ∧ j.source = .owed n o.stamp :=
  ⟨List.mem_of_find?_eq_some h, by simpa using List.find?_some h⟩

theorem State.servingJob?_eq_none {s : State} {n : Nat} {o : Owed} :
    s.servingJob? n o = none ↔ ∀ j ∈ s.jobs, j.source ≠ .owed n o.stamp := by
  simp [State.servingJob?, List.find?_eq_none]

theorem Job.refersTo_iff {j : Job} {n : Nat} : j.refersTo n = true ↔ ∃ stamp, j.source = .owed n stamp := by
  unfold Job.refersTo
  cases j.source <;> simp [eq_comm]

/-- In a pool that stands, the job that serves a receipt of a ticket is the only one that refers to the ticket. -/
theorem State.poolStands.eq_serving {s : State} (h : s.poolStands) {n : Nat} {o : Owed} {j x : Job} (hj : s.servingJob? n o = some j)
    (hx : x ∈ s.jobs) (hr : x.refersTo n = true) : x = j := by
  obtain ⟨-, ids, -, -, -, one⟩ := h
  obtain ⟨mem, source⟩ := State.servingJob?_spec hj
  exact List.inj_on_of_nodup_map ids hx mem (one n x hx j mem hr (Job.refersTo_iff.2 ⟨_, source⟩))

end Sys2Proof.Machine
end

section
/-! REOPEN TICKET (R30, R52, R53, R139, R156). -/

namespace Sys2Proof.Machine

/-! ### The receipt withdrawn (R53, R139) -/

section
variable {s : State} {t : Ticket} {o : Owed} {j : Job}

theorem State.withdrawAtReopen_unserved (h : ∀ o, t.owed = some o → s.servingJob? t.number o = none) : s.withdrawAtReopen t = s := by
  unfold State.withdrawAtReopen
  cases ho : t.owed with
  | none => rfl
  | some o =>
    dsimp only
    rw [h o ho]

theorem State.withdrawAtReopen_printing (ho : t.owed = some o) (hj : s.servingJob? t.number o = some j) (hp : j.state = .printing) :
    s.withdrawAtReopen t = s.putJob { j with frozen := some t } := by
  unfold State.withdrawAtReopen
  rw [ho]
  dsimp only
  rw [hj]
  exact if_pos hp

theorem State.withdrawAtReopen_waiting (ho : t.owed = some o) (hj : s.servingJob? t.number o = some j) (hp : j.state ≠ .printing) :
    s.withdrawAtReopen t = s.cancelOne j := by
  unfold State.withdrawAtReopen
  rw [ho]
  dsimp only
  rw [hj]
  exact if_neg hp

/-- A record put in the place of a job of its id keeps the ids of the pool. -/
theorem State.putJob_ids (s : State) (j : Job) : (s.putJob j).jobs.map Job.id = s.jobs.map Job.id := by
  rw [State.putJob, List.map_map]
  refine List.map_congr_left fun x _ => ?_
  rw [Function.comp_apply]
  split_ifs with e
  · exact e.symm
  · rfl

/-- The withdrawal adds no job. -/
theorem State.withdrawAtReopen_ids (s : State) (t : Ticket) :
    List.Sublist ((s.withdrawAtReopen t).jobs.map Job.id) (s.jobs.map Job.id) := by
  unfold State.withdrawAtReopen
  split
  · exact .refl _
  · split
    · exact .refl _
    · split_ifs
      · rw [State.putJob_ids]
      · rw [State.cancelOne_jobs]
        exact List.filter_sublist.map _

end

/-! ### The ticket reopened -/

/-- A ticket reopened, with its receipt withdrawn and its copies cancelled. -/
def State.reopenedBy (s : State) (t : Ticket) : State :=
  ((s.withdrawAtReopen t).moveTicket t.reopened).cancelWhere fun j => decide (j.source = .copyTicket t.number)

/-- A ticket moved after a step of the pool. -/
theorem State.PoolStep.moveTicket_eq {s u : State} (h : s.PoolStep u) (t : Ticket) : u.moveTicket t = { s with
    tickets := (s.putTicket t).tickets, jobs := u.jobs, printers := u.printers, ports := (u.moveTicket t).ports } := by
  obtain ⟨e, -⟩ := h
  generalize u.jobs = jobs, u.printers = printers, u.ports = ports at e ⊢
  subst e
  rfl

/-- A reopening changes the ticket, the pool, the printers and the ports alone. -/
theorem State.reopenedBy_eq (s : State) (t : Ticket) : s.reopenedBy t = { s with
    tickets := (s.putTicket t.reopened).tickets
    jobs := (s.reopenedBy t).jobs, printers := (s.reopenedBy t).printers, ports := (s.reopenedBy t).ports } := by
  have cancelled := (((s.withdrawAtReopen t).moveTicket t.reopened).poolStep_cancelWhere fun j => decide (j.source = .copyTicket t.number)).1
  rw [(s.poolStep_withdrawAtReopen t).moveTicket_eq] at cancelled
  rw [State.reopenedBy, (s.poolStep_withdrawAtReopen t).moveTicket_eq]
  exact cancelled

theorem State.out_reopenedBy (s : State) (t : Ticket) (p : PortId) : ((s.reopenedBy t).port p).out = (s.port p).out := by
  rw [State.reopenedBy, (State.poolStep_cancelWhere _ _).out, State.moveTicket, State.port_raise, Port.offer_out, State.port_putTicket,
    (s.poolStep_withdrawAtReopen t).out]

/-- What a reopening tells the ports: the pool's events and, between them, one TICKET event carrying OPEN. -/
theorem State.tells_reopenedBy (s : State) (t : Ticket) : ∃ earlier later : List Event,
    ((earlier ++ .ticket t.number (some .opened) :: later).foldl State.raise s).HearsAlike (s.reopenedBy t) ∧
      ∀ e ∈ earlier ++ later, e.ofPool := by
  obtain ⟨es, withdrawn, hes⟩ := s.tellsPool_withdrawAtReopen t
  obtain ⟨fs, cancelled, hfs⟩ :=
    ((s.withdrawAtReopen t).moveTicket t.reopened).tellsPool_cancelWhere fun j => decide (j.source = .copyTicket t.number)
  have moved : ((s.withdrawAtReopen t).raise (.ticket t.number (some .opened))).HearsAlike ((s.withdrawAtReopen t).moveTicket t.reopened) :=
    State.hearsAlike_of_ports rfl rfl
  refine ⟨es, fs, ?_, fun e he => (List.mem_append.1 he).elim (hes e) (hfs e)⟩
  rw [List.foldl_append, List.foldl_cons]
  exact (((withdrawn.raise _).trans moved).foldl_raise fs).trans cancelled

section
variable {s : State} (h : s.poolStands) (t : Ticket)
include h

/-- The pool after a reopening: that of the withdrawal without the ticket's copies. -/
theorem State.poolStands.reopenedBy_jobs : (s.reopenedBy t).jobs =
    (s.withdrawAtReopen t).jobs.filter fun x => decide (x.source ≠ .copyTicket t.number) := by
  obtain ⟨-, ids, -⟩ := h
  have nodup : (((s.withdrawAtReopen t).moveTicket t.reopened).jobs.map Job.id).Nodup := ids.sublist (s.withdrawAtReopen_ids t)
  rw [State.reopenedBy, State.cancelWhere_jobs nodup]
  exact List.filter_congr fun x _ => (decide_not ..).symm

variable {t} {o : Owed} {j : Job} (ho : t.owed = some o) (hj : s.servingJob? t.number o = some j)
include ho hj

theorem State.poolStands.reopenedBy_jobs_printing (hp : j.state = .printing) : (s.reopenedBy t).jobs =
    (s.jobs.map fun x => if x.id = j.id then { j with frozen := some t } else x).filter
      fun x => decide (x.source ≠ .copyTicket t.number) := by
  rw [h.reopenedBy_jobs, State.withdrawAtReopen_printing ho hj hp]
  rfl

theorem State.poolStands.reopenedBy_jobs_waiting (hp : j.state ≠ .printing) : (s.reopenedBy t).jobs =
    s.jobs.filter fun x => decide (x.id ≠ j.id ∧ x.source ≠ .copyTicket t.number) := by
  rw [h.reopenedBy_jobs, State.withdrawAtReopen_waiting ho hj hp, State.cancelOne_jobs, List.filter_filter]
  exact List.filter_congr fun x _ => by rw [Bool.decide_and, Bool.and_comm]

/-- The receipt begun for a TAKEN job withdrawn is closed. -/
theorem State.poolStands.closesReceipt_reopenedBy (hp : j.state = .taken) : s.ClosesReceipt (s.reopenedBy t) j.printer := by
  have active : j.active = true := decide_eq_true (by rw [hp]; decide)
  obtain ⟨-, -, -, -, one, -⟩ := h
  have withdrawn := State.withdrawAtReopen_waiting ho hj (by rw [hp]; decide)
  have closed : s.ClosesReceipt ((s.withdrawAtReopen t).moveTicket t.reopened) j.printer := by
    rw [withdrawn]
    exact s.closesReceipt_cancelOne active
  refine closed.sameLine (State.sameLine_cancelWhere _ fun x hx _ hv => Bool.eq_false_iff.2 fun hx' => ?_)
  have mem : x ∈ (s.withdrawAtReopen t).jobs := hx
  rw [withdrawn, State.cancelOne_jobs] at mem
  obtain ⟨mem, differs⟩ := List.mem_filter.1 mem
  exact of_decide_eq_true differs (one x mem j (State.servingJob?_spec hj).1 hx' active hv)

end

/-- A job that serves the withdrawn receipt afterwards is PRINTING, from a snapshot of the ticket. -/
theorem State.poolStands.served_reopenedBy {s : State} (h : s.poolStands) {t : Ticket} {o : Owed} (ho : t.owed = some o) {x : Job}
    (hx : x ∈ (s.reopenedBy t).jobs) (source : x.source = .owed t.number o.stamp) : x.state = .printing ∧ x.frozen = some t := by
  have refers : x.refersTo t.number = true := Job.refersTo_iff.2 ⟨_, source⟩
  cases hj : s.servingJob? t.number o with
  | none =>
    rw [h.reopenedBy_jobs, State.withdrawAtReopen_unserved fun q hq => Option.some.inj (ho.symm.trans hq) ▸ hj] at hx
    exact absurd source (State.servingJob?_eq_none.1 hj x (List.mem_filter.1 hx).1)
  | some j =>
    by_cases hp : j.state = .printing
    · rw [h.reopenedBy_jobs_printing ho hj hp] at hx
      obtain ⟨y, hy, rfl⟩ := List.mem_map.1 (List.mem_filter.1 hx).1
      split_ifs at refers ⊢ with e
      · exact ⟨hp, rfl⟩
      · exact absurd (congrArg Job.id (h.eq_serving hj hy refers)) e
    · rw [h.reopenedBy_jobs_waiting ho hj hp] at hx
      obtain ⟨mem, differs⟩ := List.mem_filter.1 hx
      exact absurd (congrArg Job.id (h.eq_serving hj mem refers)) (of_decide_eq_true differs).1

/-! ### The command -/

/-- The plates that OPEN tickets other than one of a given number carry (R52). -/
theorem State.plateOpen_except_iff (s : State) (plate : Option Text) (n : Nat) : s.plateOpen plate (some n) = true ↔
    plate ≠ none ∧ ∃ x ∈ s.tickets, x.number ≠ n ∧ x.state = .opened ∧ x.plate = plate := by
  simp only [State.plateOpen, Bool.and_eq_true, List.any_eq_true, decide_eq_true_eq, ne_eq, Option.some.injEq, Option.isSome_iff_ne_none]
  constructor
  · rintro ⟨hne, x, hx, ⟨ho, hp⟩, hn⟩
    exact ⟨hne, x, hx, hn, ho, hp⟩
  · rintro ⟨hne, x, hx, hn, ho, hp⟩
    exact ⟨hne, x, hx, ⟨ho, hp⟩, hn⟩

theorem exec_reopenTicket {k : Packet} {s : State} {t : Ticket} (h : s.takes k) (hr : (s.port k.port).role = .supervisor)
    (hn : ticketNumberOk t.number = true) (ht : s.ticket? t.number = some t) (hs : t.state = .held ∨ t.state = .payable)
    (hp : k.params = numBytes 4 t.number) : exec (.reopenTicket k) s =
      .next (if s.plateOpen t.plate (some t.number) then (s.hunt k.port).replied k (.stop .plateOpen 0)
        else ((s.hunt k.port).reopenedBy t).replied k (.success [])) := by
  refine (takeCommand_effect reopenTicket h (by rw [hr]; rfl) (hp ▸ parseTicket_bytes t.number (ticketNumberOk_fits hn))).trans ?_
  rw [reopenTicket, (s.hunt k.port).withTicket_eq _ _ _ _ t hn rfl ht (by rcases hs with hs | hs <;> rw [hs] <;> rfl),
    show (s.hunt k.port).plateOpen = s.plateOpen from rfl]
  split_ifs <;> rfl

/-- Settles O31: the receipt is withdrawn, the ticket moved, and its copies cancelled, each by its own lemmas. -/
theorem reopenTicketReopens : Obligations.ReopenTicketReopens := by
  intro k s n t h stands _ hr hn1 hn2 ht hs hp
  have hn := (ticketNumberOk_iff n).2 ⟨hn1, hn2⟩
  obtain rfl : t.number = n := State.ticket?_number ht
  have effect := exec_reopenTicket h hr hn ht hs hp
  refine ⟨fun ⟨x, hx, hxn, hxo, hxp, hne⟩ => ?_, fun free => ?_⟩
  · rwa [if_pos ((s.plateOpen_except_iff _ _).2 ⟨hne, x, hx, hxn, hxo, hxp⟩)] at effect
  · have closed : ¬s.plateOpen t.plate (some t.number) = true := fun e => by
      obtain ⟨hne, x, hx, hxn, hxo, hxp⟩ := (s.plateOpen_except_iff _ _).1 e
      exact free.elim hne fun free => free x hx hxn hxo hxp
    rw [if_neg closed] at effect
    have frame := (s.hunt k.port).reopenedBy_eq t
    have pool : (s.hunt k.port).poolStands := stands
    obtain ⟨earlier, later, told, events⟩ := (s.hunt k.port).tells_reopenedBy t
    refine ⟨_, effect, ?_, fun m hm => ?_, fun o ho j hj source => pool.served_reopenedBy ho hj source, fun j hj => ?_, fun unserved => ?_,
      fun o j ho hj => ⟨pool.reopenedBy_jobs_printing ho hj, pool.reopenedBy_jobs_waiting ho hj, pool.closesReceipt_reopenedBy ho hj⟩,
      ⟨earlier, later, ?_, events⟩, ?_, ?_, ?_, ?_, ?_, ?_⟩
    · rw [State.ticket?_reply, frame]
      exact State.ticket?_putTicket_self (s := s) (t := t.reopened) ht rfl
    · rw [State.ticket?_reply, frame]
      exact State.ticket?_putTicket_other s (t := t.reopened) hm
    · have kept : j ∈ ((s.hunt k.port).reopenedBy t).jobs := hj
      rw [pool.reopenedBy_jobs t] at kept
      exact of_decide_eq_true (List.mem_filter.1 kept).2
    · refine (pool.reopenedBy_jobs t).trans ?_
      rw [State.withdrawAtReopen_unserved (s := s.hunt k.port) unserved]
      rfl
    · exact (s.readies_hunt k.port).hearsAlike.tells_trans (told.trans (State.hearsAlike_reply _ _ _ _))
    · exact (congrArg State.totals frame :)
    · exact (congrArg State.nextStamp frame :)
    · exact (congrArg State.clock frame :)
    · exact (congrArg State.tares frame :)
    · exact (congrArg State.channels frame :)
    · rw [State.port_reply, if_pos rfl, State.out_reopenedBy, State.hunt_port_out]

end Sys2Proof.Machine
end

section
/-! VOID TICKET (R49 to R51, R54, R139): the receipt withdrawn, the notice owed and the ticket retired, each as a step of the part. -/

namespace Sys2Proof.Machine

/-! ### The steps of a void -/

/-- A step that touches one ticket, the pool, the printers, the reprint store and the stamp counter, and raises events. -/
structure State.VoidStep (s u : State) (n : Nat) : Prop where
  frame : u = { s with
    tickets := u.tickets, jobs := u.jobs, printers := u.printers, ports := u.ports, snapshots := u.snapshots
    nextStamp := u.nextStamp }
  ports : ∀ p, u.port p = { s.port p with attention := (u.port p).attention, overflow := (u.port p).overflow }
  others : ∀ m, m ≠ n → u.ticket? m = s.ticket? m

theorem State.VoidStep.refl (s : State) (n : Nat) : s.VoidStep s n := ⟨rfl, fun _ => rfl, fun _ _ => rfl⟩

theorem State.VoidStep.trans {s u w : State} {n : Nat} (h : s.VoidStep u n) (h' : u.VoidStep w n) : s.VoidStep w n where
  frame := by rw [h'.frame, h.frame]
  ports p := by rw [h'.ports p, h.ports p]
  others m hm := (h'.others m hm).trans (h.others m hm)

theorem State.PoolStep.voidStep {s u : State} (h : s.PoolStep u) (n : Nat) : s.VoidStep u n where
  frame := by rw [h.1]
  ports := h.2
  others m _ := h.ticket? m

theorem State.voidStep_putTicket (s : State) (t : Ticket) : s.VoidStep (s.putTicket t) t.number where
  frame := rfl
  ports _ := rfl
  others _ hm := s.ticket?_putTicket_other hm

theorem State.hearsAlike_putTicket (s : State) (t : Ticket) : s.HearsAlike (s.putTicket t) := State.hearsAlike_of_ports rfl rfl

/-- What the ports hear from a void after its TICKET event: events of the pool, and one of the retired ticket. -/
def State.TellsVoid (s u : State) (n retired : Nat) : Prop := ∃ rest : List Event, (rest.foldl State.raise s).HearsAlike u ∧
  (∀ e ∈ rest, e.ofPool ∨ e = .ticket n none) ∧ rest.count (.ticket n none) = retired

theorem State.TellsPool.tellsVoid {s u : State} (h : s.TellsPool u) (n : Nat) : s.TellsVoid u n 0 := by
  obtain ⟨es, hears, he⟩ := h
  refine ⟨es, hears, fun e hm => .inl (he e hm), List.count_eq_zero.2 fun hm => ?_⟩
  rcases he _ hm with h | h <;> cases h

theorem State.TellsVoid.trans {s u w : State} {n i j : Nat} (h : s.TellsVoid u n i) (h' : u.TellsVoid w n j) : s.TellsVoid w n (i + j) := by
  obtain ⟨es, hs, he, hi⟩ := h
  obtain ⟨fs, hu, hf, hj⟩ := h'
  refine ⟨es ++ fs, ?_, fun e hm => (List.mem_append.1 hm).elim (he e) (hf e), by rw [List.count_append, hi, hj]⟩
  rw [List.foldl_append]
  exact (hs.foldl_raise fs).trans hu

/-! ### Retirement (R54, R157) -/

/-- The oldest snapshot dropped, in the frame of a void. -/
theorem State.voidStep_dropOldest (s : State) (n : Nat) : s.VoidStep s.dropOldest n where
  frame := by
    have h : s.dropOldest = { s with
        jobs := s.dropOldest.jobs, printers := s.dropOldest.printers, ports := s.dropOldest.ports, snapshots := s.dropOldest.snapshots } :=
      congrArg (fun u : State => { u with snapshots := s.dropOldest.snapshots }) s.dropOldest_eq.1
    rw [h]
  ports := s.dropOldest_eq.2
  others m _ := s.dropOldest_eq.ticket? m

theorem State.tellsPool_dropOldest (s : State) : s.TellsPool s.dropOldest := by
  unfold State.dropOldest
  split_ifs
  · refine (s.tellsPool_cancelWhere fun j => decide (j.source = .copySnapshot 0)).trans (State.HearsAlike.tellsPool ?_)
    exact State.hearsAlike_of_ports rfl rfl
  · exact (State.HearsAlike.refl s).tellsPool

/-- A ticket put in the reprint store and taken from the table, its copies with it. -/
def State.snapshotTaken (s : State) (t : Ticket) : State := { s with
  snapshots := s.snapshots ++ [t]
  tickets := s.tickets.filter fun x => decide (x.number ≠ t.number)
  jobs := s.jobs.map fun j => { j with source := j.source.follow t.number s.snapshots.length } }

theorem State.retire_eq_dropOldest (s : State) (t : Ticket) :
    s.retire t = ((s.snapshotTaken t).raise (.ticket t.number none)).dropOldest := rfl

theorem State.voidStep_retire (s : State) (t : Ticket) : s.VoidStep (s.retire t) t.number := by
  have dropped := ((s.snapshotTaken t).raise (.ticket t.number none)).voidStep_dropOldest t.number
  have raised := ((s.snapshotTaken t).poolStep_raise (.ticket t.number none)).voidStep t.number
  have both := raised.trans dropped
  rw [← State.retire_eq_dropOldest] at both
  exact ⟨both.frame, both.ports, fun m hm => by rw [State.retire_ticket?, if_neg hm]⟩

/-- A retirement tells the ports of the ticket once, and then of the pool. -/
theorem State.tellsVoid_retire (s : State) (t : Ticket) : s.TellsVoid (s.retire t) t.number 1 := by
  have gone : s.TellsVoid ((s.snapshotTaken t).raise (.ticket t.number none)) t.number 1 :=
    ⟨[.ticket t.number none], State.hearsAlike_of_ports rfl rfl, fun e he => .inr (List.mem_singleton.1 he), List.count_singleton_self ..⟩
  exact gone.trans ((State.tellsPool_dropOldest _).tellsVoid _)

/-- The retired ticket is the newest snapshot. -/
theorem State.retire_newest (s : State) (t : Ticket) : (s.retire t).snapshots.getLast? = some t := by
  rw [State.retire_eq_dropOldest, State.dropOldest]
  split_ifs with full
  · dsimp only
    rw [(State.poolStep_cancelWhere _ _).1]
    change ((s.snapshots ++ [t]).drop 1).getLast? = some t
    have long : ¬(s.snapshots ++ [t]).length ≤ 1 := fun h => absurd (Nat.lt_of_lt_of_le full h) (by decide)
    rw [List.getLast?_drop, if_neg long, List.getLast?_concat]
  · exact List.getLast?_concat

/-- A retirement adds no job. -/
theorem State.retire_ids (s : State) (t : Ticket) {x : Job} (hx : x ∈ (s.retire t).jobs) : ∃ y ∈ s.jobs, y.id = x.id := by
  have taken : ∀ y ∈ (s.snapshotTaken t).jobs, ∃ z ∈ s.jobs, z.id = y.id := fun y hy => by
    obtain ⟨z, hz, rfl⟩ := List.mem_map.1 hy
    exact ⟨z, hz, rfl⟩
  rw [State.retire_eq_dropOldest, State.dropOldest] at hx
  split_ifs at hx
  · obtain ⟨y, hy, rfl⟩ := List.mem_map.1 hx
    exact taken y (State.mem_cancelWhere (s := (s.snapshotTaken t).raise (.ticket t.number none)) hy)
  · exact taken x hx

/-! ### The receipt withdrawn (R51, R139) -/

section
variable {s : State} {t : Ticket}

theorem State.withdrawAtVoid_printing {o : Owed} {j : Job} (ho : t.owed = some o) (hj : s.servingJob? t.number o = some j)
    (hp : j.state = .printing) : s.withdrawAtVoid t = s := by
  unfold State.withdrawAtVoid
  rw [ho]
  dsimp only
  rw [hj]
  exact if_pos hp

theorem State.withdrawAtVoid_waiting {o : Owed} {j : Job} (ho : t.owed = some o) (hj : s.servingJob? t.number o = some j)
    (hp : j.state ≠ .printing) : s.withdrawAtVoid t = (s.putTicket { t with owed := none }).cancelOne j := by
  unfold State.withdrawAtVoid
  rw [ho]
  dsimp only
  rw [hj]
  exact if_neg hp

theorem State.withdrawAtVoid_unserved {o : Owed} (ho : t.owed = some o) (hj : s.servingJob? t.number o = none) :
    s.withdrawAtVoid t = s.putTicket { t with owed := none } := by
  unfold State.withdrawAtVoid
  rw [ho]
  dsimp only
  rw [hj]

theorem State.withdrawAtVoid_settled (ho : t.owed = none) : s.withdrawAtVoid t = s := by
  rw [State.withdrawAtVoid, ho]

/-- Every outcome of the withdrawal. -/
theorem State.withdrawAtVoid_induct {P : State → Prop} (left : P s) (cleared : P (s.putTicket { t with owed := none }))
    (cancelled : ∀ j, P (s.putTicket { t with owed := none }) → P ((s.putTicket { t with owed := none }).cancelOne j)) :
    P (s.withdrawAtVoid t) := by
  cases ho : t.owed with
  | none => rw [State.withdrawAtVoid_settled ho]; exact left
  | some o =>
    cases hj : s.servingJob? t.number o with
    | none => rw [State.withdrawAtVoid_unserved ho hj]; exact cleared
    | some j =>
      by_cases hp : j.state = .printing
      · rw [State.withdrawAtVoid_printing ho hj hp]; exact left
      · rw [State.withdrawAtVoid_waiting ho hj hp]; exact cancelled j cleared

variable (s t)

theorem State.voidStep_withdrawAtVoid : s.VoidStep (s.withdrawAtVoid t) t.number :=
  State.withdrawAtVoid_induct (P := fun u => s.VoidStep u t.number) (.refl s _) (s.voidStep_putTicket { t with owed := none })
    fun j h => h.trans ((State.poolStep_cancelOne _ j).voidStep _)

theorem State.tellsPool_withdrawAtVoid : s.TellsPool (s.withdrawAtVoid t) :=
  State.withdrawAtVoid_induct (P := fun u => s.TellsPool u) (State.HearsAlike.refl s).tellsPool
    (s.hearsAlike_putTicket _).tellsPool fun j h => h.trans (State.tellsPool_cancelOne _ j)

/-- The withdrawal gives no stamp and takes no snapshot. -/
theorem State.withdrawAtVoid_kept : (s.withdrawAtVoid t).nextStamp = s.nextStamp ∧ (s.withdrawAtVoid t).snapshots = s.snapshots ∧
    (s.withdrawAtVoid t).report = s.report :=
  State.withdrawAtVoid_induct (P := fun u => u.nextStamp = s.nextStamp ∧ u.snapshots = s.snapshots ∧ u.report = s.report) ⟨rfl, rfl, rfl⟩
    ⟨rfl, rfl, rfl⟩ fun j h => by rw [(State.poolStep_cancelOne _ j).1]; exact h

end

/-- A ticket's receipt is being printed for no job. -/
def State.notPrinting (s : State) (t : Ticket) : Prop :=
  ∀ o j, t.owed = some o → s.servingJob? t.number o = some j → j.state ≠ .printing

section
variable {s : State} {t : Ticket} (h : s.notPrinting t)
include h

/-- A receipt that is not being printed is withdrawn. -/
theorem State.notPrinting.ticket? (ht : s.ticket? t.number = some t) :
    (s.withdrawAtVoid t).ticket? t.number = some { t with owed := none } := by
  have cleared : (s.putTicket { t with owed := none }).ticket? t.number = some { t with owed := none } := State.ticket?_putTicket_self ht rfl
  cases ho : t.owed with
  | none => rw [State.withdrawAtVoid_settled ho, ← ho]; exact ht
  | some o =>
    cases hj : s.servingJob? t.number o with
    | none => rw [State.withdrawAtVoid_unserved ho hj]; exact cleared
    | some j => rw [State.withdrawAtVoid_waiting ho hj (h o j ho hj), (State.poolStep_cancelOne _ _).ticket?]; exact cleared

/-- The pool after the withdrawal: the job that served the receipt is gone. -/
theorem State.notPrinting.mem_jobs {x : Job} : x ∈ (s.withdrawAtVoid t).jobs ↔
    x ∈ s.jobs ∧ ∀ o j, t.owed = some o → s.servingJob? t.number o = some j → x.id ≠ j.id := by
  cases ho : t.owed with
  | none =>
    rw [State.withdrawAtVoid_settled ho]
    exact (and_iff_left fun o j hq => by cases hq).symm
  | some o =>
    cases hj : s.servingJob? t.number o with
    | none =>
      rw [State.withdrawAtVoid_unserved ho hj]
      refine (and_iff_left fun q j hq hqj => ?_).symm
      cases hq
      rw [hj] at hqj
      cases hqj
    | some j =>
      rw [State.withdrawAtVoid_waiting ho hj (h o j ho hj), State.cancelOne_jobs, List.mem_filter, decide_eq_true_eq]
      refine and_congr_right fun _ => ⟨fun hne q y hq hy => ?_, fun hall => hall o j rfl hj⟩
      cases hq
      cases hj.symm.trans hy
      exact hne

/-- The receipt begun for a TAKEN job withdrawn is closed. -/
theorem State.notPrinting.closesReceipt {o : Owed} {j : Job} (ho : t.owed = some o) (hj : s.servingJob? t.number o = some j)
    (hp : j.state = .taken) : s.ClosesReceipt (s.withdrawAtVoid t) j.printer := by
  rw [State.withdrawAtVoid_waiting ho hj (h o j ho hj)]
  exact (s.putTicket { t with owed := none }).closesReceipt_cancelOne (decide_eq_true (by rw [hp]; decide))

end

end Sys2Proof.Machine
end

section
/-! VOID TICKET (R49 to R51, R54, R135): how a void ends once its ticket is VOID. -/

namespace Sys2Proof.Machine

/-! ### The notice owed (R51, R135) -/

/-- The VOID_NOTICE that a ticket comes to owe on a port. -/
def State.noticeOwed (s : State) (port : PortId) : Owed :=
  { kind := .voidNotice, printer := (s.port port).defaultPrinter, port := port, stamp := s.nextStamp, started := false }

/-- A ticket owing its VOID_NOTICE, before the counter goes on. -/
def State.owingNotice (s : State) (t : Ticket) (port : PortId) : State := s.putTicket { t with owed := some (s.noticeOwed port) }

theorem State.ticket?_owingNotice_self {s : State} {t x : Ticket} {n : Nat} (hx : s.ticket? n = some x) (hn : t.number = n) (port : PortId) :
    (s.owingNotice t port).ticket? n = some { t with owed := some (s.noticeOwed port) } :=
  State.ticket?_putTicket_self hx hn

theorem State.ticket?_owingNotice_other (s : State) {t : Ticket} {m : Nat} (hm : m ≠ t.number) (port : PortId) :
    (s.owingNotice t port).ticket? m = s.ticket? m :=
  State.ticket?_putTicket_other s (t := { t with owed := some (s.noticeOwed port) }) hm

section
variable {s : State} {t : Ticket} {n : Nat} (ht : s.ticket? n = some t) (port : PortId)
include ht

theorem State.oweNoticeAtVoid_owes (hp : t.settlementPrinted = true) (ho : t.owed = none) :
    s.oweNoticeAtVoid n port = (s.owingNotice t port).advanceStamp := by
  rw [State.oweNoticeAtVoid, ht]
  dsimp only
  rw [hp, ho]
  rfl

theorem State.oweNoticeAtVoid_unprinted (hp : t.settlementPrinted = false) : s.oweNoticeAtVoid n port = s := by
  rw [State.oweNoticeAtVoid, ht]
  dsimp only
  rw [hp]
  rfl

theorem State.oweNoticeAtVoid_owing (ho : t.owed ≠ none) : s.oweNoticeAtVoid n port = s := by
  rw [State.oweNoticeAtVoid, ht]
  dsimp only
  rw [Bool.eq_false_iff.2 fun e => ho (Option.isNone_iff_eq_none.1 e), Bool.and_false]
  rfl

end

/-- New stamps leave what is owed. -/
theorem State.renumbered_owes {s u : State} (h : s.renumbered u) {n : Nat} (hs : ∀ x, s.ticket? n = some x → x.owed ≠ none) :
    ∀ y, u.ticket? n = some y → y.owed ≠ none := by
  intro y hy
  obtain ⟨-, tickets, -⟩ := h
  rw [State.ticket?, tickets, List.find?_map] at hy
  obtain ⟨x, hx, rfl⟩ := Option.map_eq_some_iff.1 hy
  have owes := hs x hx
  cases ho : x.owed with
  | none => exact absurd ho owes
  | some o => simp

/-- The counter gone on leaves what is owed. -/
theorem State.advanceStamp_owes {s : State} {n : Nat} (hs : ∀ x, s.ticket? n = some x → x.owed ≠ none) :
    ∀ y, s.advanceStamp.ticket? n = some y → y.owed ≠ none := by
  rcases Nat.lt_or_ge s.nextStamp 4294967295 with hlt | hle
  · rw [State.advanceStamp_of_lt hlt]
    exact hs
  · exact State.renumbered_owes (State.advanceStamp_renumbered hle) hs

/-! ### How a void ends -/

/-- What a void does once its ticket is VOID: the receipt withdrawn, the notice owed, the ticket retired if nothing is left. -/
def State.endsVoid (s : State) (t : Ticket) (port : PortId) : State :=
  ((s.withdrawAtVoid t).oweNoticeAtVoid t.number port).retireIfDone t.number

section
variable {s : State} {t : Ticket} (ht : s.ticket? t.number = some t) (port : PortId)
include ht

/-- A receipt that is being printed is left, and the ticket with it. -/
theorem State.endsVoid_printing {o : Owed} {j : Job} (ho : t.owed = some o) (hj : s.servingJob? t.number o = some j)
    (hp : j.state = .printing) : s.endsVoid t port = s := by
  have owes : t.owed ≠ none := by rw [ho]; exact Option.some_ne_none o
  rw [State.endsVoid, State.withdrawAtVoid_printing ho hj hp, State.oweNoticeAtVoid_owing ht port owes]
  exact State.retireIfDone_eq_self fun x hx => .inr (.inl (Option.some.inj (ht.symm.trans hx) ▸ owes))

variable (h : s.notPrinting t)
include h

/-- A ticket whose settlement was printed comes to owe its notice, and stays. -/
theorem State.endsVoid_notice (printed : t.settlementPrinted = true) :
    s.endsVoid t port = ((s.withdrawAtVoid t).owingNotice { t with owed := none } port).advanceStamp := by
  have found := h.ticket? ht
  have owing := State.ticket?_owingNotice_self (t := { t with owed := none }) found rfl port
  rw [State.endsVoid, State.oweNoticeAtVoid_owes found port printed rfl]
  refine State.retireIfDone_eq_self fun x hx => .inr (.inl (State.advanceStamp_owes (fun y hy => ?_) x hx))
  cases owing.symm.trans hy
  exact Option.some_ne_none _

variable (unprinted : t.settlementPrinted = false)
include unprinted

/-- Without a notice, the ticket is retired when no job refers to it. -/
theorem State.endsVoid_retired (voided : t.state = .voided) (free : ∀ x ∈ (s.withdrawAtVoid t).jobs, x.refersTo t.number = false) :
    s.endsVoid t port = (s.withdrawAtVoid t).retire { t with owed := none } := by
  rw [State.endsVoid, State.oweNoticeAtVoid_unprinted (h.ticket? ht) port unprinted]
  exact State.retireIfDone_eq_retire (h.ticket? ht) (.inr voided) rfl free

/-- Without a notice, the ticket stays while a job refers to it. -/
theorem State.endsVoid_kept (held : ∃ x ∈ (s.withdrawAtVoid t).jobs, x.refersTo t.number = true) :
    s.endsVoid t port = s.withdrawAtVoid t := by
  rw [State.endsVoid, State.oweNoticeAtVoid_unprinted (h.ticket? ht) port unprinted]
  exact State.retireIfDone_eq_self fun _ _ => .inr (.inr held)

end

/-- What a void leaves of its ticket, and what the ports hear of it after the TICKET event. -/
structure State.VoidEnd (s u : State) (t : Ticket) : Prop where
  step : s.VoidStep u t.number
  tells : s.TellsVoid u t.number (if u.ticket? t.number = none then 1 else 0)
  record : (∃ o, u.ticket? t.number = some { t with owed := o }) ∨
    (u.ticket? t.number = none ∧ u.snapshots.getLast? = some { t with owed := none })

/-- A void whose ticket stays. -/
theorem State.VoidStep.voidEnd {s u : State} {t : Ticket} {o : Option Owed} (step : s.VoidStep u t.number) (tells : s.TellsPool u)
    (found : u.ticket? t.number = some { t with owed := o }) : s.VoidEnd u t where
  step := step
  tells := by
    rw [found, if_neg (Option.some_ne_none _)]
    exact tells.tellsVoid _
  record := .inl ⟨o, found⟩

/-- A void before the last stamp ends in one of four ways: its receipt left, its notice owed, its ticket retired or kept for a job. -/
theorem State.voidEnd_endsVoid {s : State} {t : Ticket} (ht : s.ticket? t.number = some t) (port : PortId) (voided : t.state = .voided)
    (hlt : s.nextStamp < 4294967295) : s.VoidEnd (s.endsVoid t port) t := by
  have step := s.voidStep_withdrawAtVoid t
  have tells := s.tellsPool_withdrawAtVoid t
  by_cases h : s.notPrinting t
  · have found := h.ticket? ht
    cases printed : t.settlementPrinted with
    | true =>
      have lt : ((s.withdrawAtVoid t).owingNotice { t with owed := none } port).nextStamp < 4294967295 :=
        (s.withdrawAtVoid_kept t).1.symm ▸ hlt
      rw [State.endsVoid_notice ht port h printed, State.advanceStamp_of_lt lt]
      refine State.VoidStep.voidEnd (o := some ((s.withdrawAtVoid t).noticeOwed port)) (step.trans ?_) (tells.trans ?_) ?_
      · exact (State.voidStep_putTicket _ { t with owed := some ((s.withdrawAtVoid t).noticeOwed port) }).trans
          ⟨rfl, fun _ => rfl, fun _ _ => rfl⟩
      · exact State.HearsAlike.tellsPool (State.hearsAlike_of_ports rfl rfl)
      · exact State.ticket?_putTicket_self found rfl
    | false =>
      by_cases held : ∃ x ∈ (s.withdrawAtVoid t).jobs, x.refersTo t.number = true
      · rw [State.endsVoid_kept ht port h printed held]
        exact step.voidEnd tells found
      · rw [State.endsVoid_retired ht port h printed voided fun x hx => Bool.eq_false_iff.2 fun e => held ⟨x, hx, e⟩]
        have gone : ((s.withdrawAtVoid t).retire { t with owed := none }).ticket? t.number = none := by
          rw [State.retire_ticket?, if_pos rfl]
        refine ⟨step.trans (State.voidStep_retire _ { t with owed := none }), ?_, .inr ⟨gone, State.retire_newest _ _⟩⟩
        rw [if_pos gone, ← Nat.zero_add 1]
        exact (tells.tellsVoid _).trans (State.tellsVoid_retire _ { t with owed := none })
  · unfold State.notPrinting at h
    push Not at h
    obtain ⟨o, j, ho, hj, hp⟩ := h
    rw [State.endsVoid_printing ht port ho hj hp]
    exact (State.VoidStep.refl s _).voidEnd (o := t.owed) (State.HearsAlike.refl s).tellsPool ht

end Sys2Proof.Machine
end

section
/-! VOID TICKET (R133, R136, R139): the pool after a void, by what referred to the ticket before. -/

namespace Sys2Proof.Machine

/-! ### The pool after a void -/

theorem State.servingJob?_congr {s u : State} (h : u.jobs = s.jobs) (n : Nat) (o : Owed) : u.servingJob? n o = s.servingJob? n o := by
  rw [State.servingJob?, h, State.servingJob?]

theorem State.retire_nextStamp (s : State) (t : Ticket) : (s.retire t).nextStamp = s.nextStamp :=
  (congrArg State.nextStamp ((s.snapshotTaken t).raise (.ticket t.number none)).dropOldest_eq.1 :)

section
variable {s : State} {t : Ticket}

theorem State.notPrinting_of_serving {o : Owed} {j : Job} (ho : t.owed = some o) (hj : s.servingJob? t.number o = some j)
    (hp : j.state ≠ .printing) : s.notPrinting t := by
  intro q y hq hy
  cases ho.symm.trans hq
  cases hj.symm.trans hy
  exact hp

/-- In a pool that stands, no job refers to a ticket once the only one that did has been withdrawn. -/
theorem State.notPrinting.unreferred (h : s.notPrinting t) (stands : s.poolStands)
    (serving : ∀ x ∈ s.jobs, x.refersTo t.number = true → ∃ o, t.owed = some o ∧ x.source = .owed t.number o.stamp) :
    ∀ x ∈ (s.withdrawAtVoid t).jobs, x.refersTo t.number = false := by
  refine fun x hx => Bool.eq_false_iff.2 fun refers => ?_
  obtain ⟨mem, differs⟩ := h.mem_jobs.1 hx
  obtain ⟨o, ho, source⟩ := serving x mem refers
  cases hj : s.servingJob? t.number o with
  | none => exact State.servingJob?_eq_none.1 hj x mem source
  | some j => exact differs o j ho hj (congrArg Job.id (stands.eq_serving hj mem refers))

/-- A job that refers to a ticket without serving its receipt stays in the pool. -/
theorem State.notPrinting.referred (h : s.notPrinting t) (stands : s.poolStands)
    (other : ∃ x ∈ s.jobs, x.refersTo t.number = true ∧ ∀ o, t.owed = some o → x.source ≠ .owed t.number o.stamp) :
    ∃ x ∈ (s.withdrawAtVoid t).jobs, x.refersTo t.number = true := by
  obtain ⟨x, mem, refers, unserving⟩ := other
  refine ⟨x, h.mem_jobs.2 ⟨mem, fun o j ho hj _ => unserving o ho ?_⟩, refers⟩
  rw [stands.eq_serving hj mem refers]
  exact (State.servingJob?_spec hj).2

end

/-- The withdrawal leaves the notice that a ticket would owe. -/
theorem State.noticeOwed_withdrawAtVoid (s : State) (t : Ticket) (port : PortId) :
    (s.withdrawAtVoid t).noticeOwed port = s.noticeOwed port := by
  rw [State.noticeOwed, State.noticeOwed, (s.withdrawAtVoid_kept t).1, (s.voidStep_withdrawAtVoid t).ports port]

section
variable {s : State} {t : Ticket} (ht : s.ticket? t.number = some t) (port : PortId) (voided : t.state = .voided)
  (hlt : s.nextStamp < 4294967295)
include ht voided hlt

/-- What a void leaves of a pool and its printers, from what the withdrawal left: with a snapshot to drop, more jobs may go. -/
theorem State.notPrinting.endsVoid_pool (h : s.notPrinting t) :
    (∀ x ∈ (s.endsVoid t port).jobs, ∃ y ∈ (s.withdrawAtVoid t).jobs, y.id = x.id) ∧
      (s.snapshots.length < 8 → (s.endsVoid t port).printers = (s.withdrawAtVoid t).printers) := by
  obtain ⟨stamp, snapshots, -⟩ := s.withdrawAtVoid_kept t
  cases printed : t.settlementPrinted with
  | true =>
    have lt : ((s.withdrawAtVoid t).owingNotice { t with owed := none } port).nextStamp < 4294967295 := stamp.symm ▸ hlt
    rw [State.endsVoid_notice ht port h printed, State.advanceStamp_of_lt lt]
    exact ⟨fun x hx => ⟨x, hx, rfl⟩, fun _ => rfl⟩
  | false =>
    by_cases held : ∃ x ∈ (s.withdrawAtVoid t).jobs, x.refersTo t.number = true
    · rw [State.endsVoid_kept ht port h printed held]
      exact ⟨fun x hx => ⟨x, hx, rfl⟩, fun _ => rfl⟩
    · rw [State.endsVoid_retired ht port h printed voided fun x hx => Bool.eq_false_iff.2 fun e => held ⟨x, hx, e⟩]
      refine ⟨fun x hx => State.retire_ids _ _ hx, fun room => ?_⟩
      rw [State.retire_eq _ (snapshots.symm ▸ room)]
      rfl

/-- A job withdrawn leaves the pool, and the receipt begun for a TAKEN one is closed. -/
theorem State.endsVoid_withdrawn {o : Owed} {j : Job} (ho : t.owed = some o) (hj : s.servingJob? t.number o = some j)
    (hp : j.state ≠ .printing) : (∀ x ∈ (s.endsVoid t port).jobs, x.id ≠ j.id) ∧
      (s.snapshots.length < 8 → j.state = .taken → s.ClosesReceipt (s.endsVoid t port) j.printer) := by
  have h := State.notPrinting_of_serving ho hj hp
  obtain ⟨jobs, printers⟩ := h.endsVoid_pool ht port voided hlt
  refine ⟨fun x hx => ?_, fun room taken => ?_⟩
  · obtain ⟨y, hy, e⟩ := jobs x hx
    exact e ▸ (h.mem_jobs.1 hy).2 o j ho hj
  · have same : (s.endsVoid t port).printer j.printer = (s.withdrawAtVoid t).printer j.printer :=
      congrArg (fun x => x[j.printer]) (printers room)
    unfold State.ClosesReceipt
    rw [same]
    exact h.closesReceipt ho hj taken

omit voided in
/-- A ticket whose settlement was printed takes the next stamp for its notice. -/
theorem State.endsVoid_owes (h : s.notPrinting t) (printed : t.settlementPrinted = true) :
    (s.endsVoid t port).nextStamp = s.nextStamp + 1 ∧
      (s.endsVoid t port).ticket? t.number = some { t with owed := some (s.noticeOwed port) } := by
  have stamp := (s.withdrawAtVoid_kept t).1
  have lt : ((s.withdrawAtVoid t).owingNotice { t with owed := none } port).nextStamp < 4294967295 := stamp.symm ▸ hlt
  rw [State.endsVoid_notice ht port h printed, State.advanceStamp_of_lt lt]
  refine ⟨congrArg (· + 1) stamp, ?_⟩
  rw [← s.noticeOwed_withdrawAtVoid t port]
  exact State.ticket?_putTicket_self (h.ticket? ht) rfl

omit hlt in
/-- A ticket that comes to owe nothing is retired unless another job refers to it. -/
theorem State.endsVoid_owesNothing (h : s.notPrinting t) (stands : s.poolStands) (unprinted : t.settlementPrinted = false) :
    (s.endsVoid t port).nextStamp = s.nextStamp ∧
    ((∀ x ∈ s.jobs, x.refersTo t.number = true → ∃ o, t.owed = some o ∧ x.source = .owed t.number o.stamp) →
      (s.endsVoid t port).ticket? t.number = none) ∧
    ((∃ x ∈ s.jobs, x.refersTo t.number = true ∧ ∀ o, t.owed = some o → x.source ≠ .owed t.number o.stamp) →
      (s.endsVoid t port).ticket? t.number = some { t with owed := none }) := by
  have stamp := (s.withdrawAtVoid_kept t).1
  refine ⟨?_, fun serving => ?_, fun other => ?_⟩
  · by_cases held : ∃ x ∈ (s.withdrawAtVoid t).jobs, x.refersTo t.number = true
    · rw [State.endsVoid_kept ht port h unprinted held, stamp]
    · rw [State.endsVoid_retired ht port h unprinted voided fun x hx => Bool.eq_false_iff.2 fun e => held ⟨x, hx, e⟩,
        State.retire_nextStamp, stamp]
  · rw [State.endsVoid_retired ht port h unprinted voided (h.unreferred stands serving), State.retire_ticket?, if_pos rfl]
  · rw [State.endsVoid_kept ht port h unprinted (h.referred stands other)]
    exact h.ticket? ht

end

end Sys2Proof.Machine
end

section
/-! VOID TICKET (R48, R49, R164): the ticket VOID and counted once its captures are cancelled, and the command. -/

namespace Sys2Proof.Machine

/-! ### The ticket VOID and counted (R49, R164) -/

/-- The captures of a ticket cancelled, the void counted, and the record of the ticket VOID written with its event. -/
def State.marksVoid (s : State) (v : Ticket) : State :=
  ({ s.cancelTicketCaptures v.number with totals := s.totals.countVoid } : State).moveTicket v

theorem Totals.countVoid_voidCount (x : Totals) : x.countVoid.voidCount = min (x.voidCount + 1) 999999 := by
  rw [Totals.countVoid, addCapped, show Config.maxCount = 999999 from rfl]
  split_ifs with above
  · exact (Nat.min_eq_right (Nat.le_of_lt above)).symm
  · exact (Nat.min_eq_left (Nat.not_lt.1 above)).symm

/-- The captures of a ticket cancelled: the channels, the ports and the ticket table change alone. -/
theorem State.cancelTicketCaptures_eq (s : State) (n : Nat) : s.cancelTicketCaptures n = { s with
    channels := (s.cancelTicketCaptures n).channels
    ports := (s.cancelTicketCaptures n).ports
    tickets := (s.cancelTicketCaptures n).tickets } := s.endCaptures_eq _ _

/-- A ticket moved under other totals, in a state with other channels, ports and tickets. -/
theorem State.moveTicket_counted {s a : State} (e : a = { s with channels := a.channels, ports := a.ports, tickets := a.tickets })
    (x : Totals) (v : Ticket) : ({ a with totals := x } : State).moveTicket v = { s with
      totals := x, channels := a.channels, tickets := (({ a with totals := x } : State).moveTicket v).tickets
      ports := (({ a with totals := x } : State).moveTicket v).ports } := by
  generalize a.channels = channels, a.ports = ports, a.tickets = tickets at e ⊢
  subst e
  rfl

theorem State.moveTicket_withTotals_ports (a : State) (x : Totals) (v : Ticket) :
    (({ a with totals := x } : State).moveTicket v).ports = (a.raise (.ticket v.number (some v.state))).ports := rfl

theorem State.moveTicket_withTotals_tickets (a : State) (x : Totals) (v : Ticket) :
    (({ a with totals := x } : State).moveTicket v).tickets = (a.putTicket v).tickets := rfl

section
variable (s : State) (v : Ticket)

theorem State.marksVoid_frame : s.marksVoid v = { s with
    totals := s.totals.countVoid, channels := (s.cancelTicketCaptures v.number).channels
    tickets := (s.marksVoid v).tickets, ports := (s.marksVoid v).ports } :=
  State.moveTicket_counted (s.cancelTicketCaptures_eq v.number) _ v

theorem State.marksVoid_ports :
    (s.marksVoid v).ports = ((s.cancelTicketCaptures v.number).raise (.ticket v.number (some v.state))).ports :=
  State.moveTicket_withTotals_ports _ _ v

theorem State.marksVoid_tickets : (s.marksVoid v).tickets = ((s.cancelTicketCaptures v.number).putTicket v).tickets :=
  State.moveTicket_withTotals_tickets _ _ v

theorem State.port_marksVoid (q : PortId) : (s.marksVoid v).port q =
    ((s.cancelTicketCaptures v.number).port q).offer { event := .ticket v.number (some v.state), time := s.clock } := by
  have clock : (s.cancelTicketCaptures v.number).clock = s.clock := by rw [s.cancelTicketCaptures_eq]
  rw [State.port, State.marksVoid_ports, ← clock, ← State.port_raise]
  rfl

theorem State.hearsAlike_marksVoid : (s.raise (.ticket v.number (some v.state))).HearsAlike (s.marksVoid v) := by
  refine ((s.hearsAlike_endCaptures (Capture.forTicket v.number) (.stop .cancelled 0)).raise _).trans
    (State.hearsAlike_of_ports ?_ (s.marksVoid_ports v))
  rw [s.marksVoid_frame v, s.endCaptures_eq]
  rfl

theorem State.channel_marksVoid (c : ChannelId) : (s.marksVoid v).channel c =
    if (s.channel c).slot.any (Capture.forTicket v.number) then { s.channel c with slot := none } else s.channel c := by
  rw [← s.channel_endCapturesWith (Capture.forTicket v.number) (.stop .cancelled 0), State.channel, s.marksVoid_frame v]
  rfl

variable {s v}

theorem State.ticket?_marksVoid_self {x : Ticket} (hx : (s.cancelTicketCaptures v.number).ticket? v.number = some x) :
    (s.marksVoid v).ticket? v.number = some v :=
  (State.ticket?_congr (s.marksVoid_tickets v) _).trans (State.ticket?_putTicket_self hx rfl)

theorem State.ticket?_marksVoid_other {t : Ticket} (ht : s.ticket? v.number = some t) {m : Nat} (hm : m ≠ v.number) :
    (s.marksVoid v).ticket? m = s.ticket? m :=
  (State.ticket?_congr (s.marksVoid_tickets v) m).trans ((State.ticket?_putTicket_other _ hm).trans
    ((State.ticket?_endCaptures_of (.stop .cancelled 0) ht fun _ hw => Capture.forTicket_iff.1 hw).1 m hm))

/-- A void of a ticket that the table holds: its record with the marks of its lines cleared is written VOID, and the void ends. -/
theorem State.voidTicket_eq {n : Nat} {t : Ticket} (ht : s.ticket? n = some t) (port : PortId) (reason : Nat) : ∃ x : Ticket,
    x.unmarked = t.unmarked ∧ (s.cancelTicketCaptures n).ticket? n = some x ∧
      s.voidTicket n port reason = (s.marksVoid (x.voidedBy port reason)).endsVoid (x.voidedBy port reason) port := by
  obtain ⟨-, x, hx, e⟩ := State.ticket?_endCaptures_of (.stop .cancelled 0) ht fun cap hw => Capture.forTicket_iff (n := n).1 hw
  have found : (s.cancelTicketCaptures n).ticket? n = some x := hx
  obtain rfl : x.number = n := State.ticket?_number found
  have totals : (s.cancelTicketCaptures x.number).totals = s.totals := by rw [s.cancelTicketCaptures_eq]
  refine ⟨x, e, found, ?_⟩
  rw [State.voidTicket, found]
  dsimp only
  rw [totals]
  rfl

end

/-! ### The command -/

/-- No line of a ticket holds a weighing. -/
theorem Ticket.weighed_eq_false {t : Ticket} (h : ∀ ln ∈ t.lines, ln.gross = none ∧ ln.tare = none) : t.weighed = false := by
  rw [Ticket.weighed, List.any_eq_false]
  intro ln hln
  obtain ⟨hg, ht⟩ := h ln hln
  rw [hg, ht]
  exact Bool.false_ne_true

theorem Ticket.weighed_eq_true {t : Ticket} (h : ∃ ln ∈ t.lines, ln.gross ≠ none ∨ ln.tare ≠ none) : t.weighed = true := by
  obtain ⟨ln, hln, hw⟩ := h
  rw [Ticket.weighed, List.any_eq_true]
  refine ⟨ln, hln, ?_⟩
  rw [Bool.or_eq_true, Option.isSome_iff_ne_none, Option.isSome_iff_ne_none]
  exact hw

section
variable {k : Packet} {s : State} {n reason : Nat} {t : Ticket} (h : s.takes k) (hn : ticketNumberOk n = true) (hb : reason ≤ 255)
  (ht : s.ticket? n = some t) (hs : voidable t.state = true) (hp : k.params = numBytes 4 n ++ numBytes 1 reason)
include h hn hb ht hs hp

theorem exec_voidTicket (hr : supervisorOrScalehouse (s.port k.port).role = true) : exec (.voidTicket k) s =
    .next (if (s.port k.port).role = .scalehouse ∧ (t.state ≠ .opened ∨ t.weighed = true)
      then (s.hunt k.port).replied k (.stop .weighed 0)
      else ((s.hunt k.port).voidTicket n k.port reason).replied k (.success [])) := by
  have parse : TicketByteArgs.parse k.params = some ⟨n, reason⟩ :=
    hp ▸ TicketByteArgs.parse_bytes n reason (ticketNumberOk_fits hn) (by omega)
  refine (takeCommand_effect (voidTicket k.port) h hr parse).trans ?_
  rw [voidTicket, (s.hunt k.port).withTicket_eq _ n _ _ t hn rfl ht hs, State.hunt_port_role]
  split_ifs <;> rfl

/-- A SCALEHOUSE port voids neither a settled ticket nor a weighed one (R48). -/
theorem exec_voidTicket_weighed (hr : (s.port k.port).role = .scalehouse)
    (hw : t.state ≠ .opened ∨ ∃ ln ∈ t.lines, ln.gross ≠ none ∨ ln.tare ≠ none) :
    exec (.voidTicket k) s = .next ((s.hunt k.port).replied k (.stop .weighed 0)) := by
  rw [exec_voidTicket h hn hb ht hs hp (by rw [hr]; rfl), if_pos ⟨hr, hw.imp_right Ticket.weighed_eq_true⟩]

theorem exec_voidTicket_allowed (hr : (s.port k.port).role = .supervisor ∨ ((s.port k.port).role = .scalehouse ∧ t.state = .opened ∧
    ∀ ln ∈ t.lines, ln.gross = none ∧ ln.tare = none)) :
    exec (.voidTicket k) s = .next (((s.hunt k.port).voidTicket n k.port reason).replied k (.success [])) := by
  rcases hr with hr | ⟨hr, ho, hw⟩
  · rw [exec_voidTicket h hn hb ht hs hp (by rw [hr]; rfl), if_neg]
    rw [hr]
    exact fun hc => nomatch hc.1
  · rw [exec_voidTicket h hn hb ht hs hp (by rw [hr]; rfl), if_neg]
    rintro ⟨-, hc | hc⟩
    · exact hc ho
    · rw [Ticket.weighed_eq_false hw] at hc
      cases hc

end

end Sys2Proof.Machine
end

section
/-! VOID TICKET (R30, R48, R49, R51, R54, R135, R139, R164): a void from the request to its reply. -/

namespace Sys2Proof.Machine

/-! ### The beginning of a void -/

/-- A ticket VOID, with its lines as they are once its captures have been cancelled. -/
def Ticket.voidedWith (t : Ticket) (lines : List Line) (port : PortId) (reason : Nat) : Ticket :=
  ({ t with lines := lines } : Ticket).voidedBy port reason

/-- A void of a ticket that the table holds writes it VOID with its lines, their marks apart, and then ends. -/
theorem State.voidTicket_eq_endsVoid {s : State} {t : Ticket} (ht : s.ticket? t.number = some t) (port : PortId) (reason : Nat) :
    ∃ lines : List Line, lines.map (fun ln => ({ ln with mark := none } : Line)) = t.lines.map (fun ln => ({ ln with mark := none } : Line)) ∧
      (s.cancelTicketCaptures t.number).ticket? t.number = some { t with lines := lines } ∧
      s.voidTicket t.number port reason =
        (s.marksVoid (t.voidedWith lines port reason)).endsVoid (t.voidedWith lines port reason) port := by
  obtain ⟨x, e, found, run⟩ := State.voidTicket_eq ht port reason
  have record := Ticket.eq_of_unmarked e
  refine ⟨x.lines, congrArg Ticket.lines e, found.trans (congrArg some record), ?_⟩
  rw [Ticket.voidedWith, ← record]
  exact run

section
variable {k : Packet} {s : State} (h : s.takes k) (stands : s.capturesStand) (v : Ticket)

include h stands in
/-- The port of the request has no capture to cancel: it hears the TICKET event alone. -/
theorem State.port_marksVoid_request : ((s.hunt k.port).marksVoid v).port k.port =
    ((s.hunt k.port).port k.port).offer { event := .ticket v.number (some v.state), time := s.clock } := by
  rw [State.port_marksVoid, State.cancelTicketCaptures,
    State.port_endCaptures_other (s := s.hunt k.port) _ fun c cap hc _ => stands.port_ne h.2 hc]
  rfl

include stands in
/-- The port of each cancelled capture is answered once. -/
theorem State.port_marksVoid_cancelled {c : ChannelId} {cap : Capture} (hc : (s.channel c).slot = some cap)
    (hf : cap.forTicket v.number = true) : (((s.hunt k.port).marksVoid v).port cap.port).busy = none ∧
    (((s.hunt k.port).marksVoid v).port cap.port).out =
      (s.port cap.port).out ++ [.reply { tag := cap.tag, answer := .stop .cancelled 0 }] := by
  rw [State.port_marksVoid, Port.offer_busy, Port.offer_out, State.cancelTicketCaptures,
    State.port_endCaptures (s := s.hunt k.port) _ hc hf stands.2.1, State.hunt_port_out]
  exact ⟨rfl, rfl⟩

/-- The beginning of a void changes the totals, the channels, the tickets and the ports alone. -/
theorem State.marksVoid_hunt_frame : (s.hunt k.port).marksVoid v = { s with
    totals := s.totals.countVoid, channels := ((s.hunt k.port).marksVoid v).channels
    tickets := ((s.hunt k.port).marksVoid v).tickets, ports := ((s.hunt k.port).marksVoid v).ports } := by
  have channels : ((s.hunt k.port).marksVoid v).channels = ((s.hunt k.port).cancelTicketCaptures v.number).channels :=
    (congrArg State.channels ((s.hunt k.port).marksVoid_frame v) :)
  rw [channels]
  exact (s.hunt k.port).marksVoid_frame v

include h stands in
/-- The notice that a voided ticket comes to owe is of the voiding port, its default printer and the next stamp. -/
theorem State.noticeOwed_marksVoid : ((s.hunt k.port).marksVoid v).noticeOwed k.port =
    Owed.mk .voidNotice (s.port k.port).defaultPrinter k.port s.nextStamp false := by
  rw [State.noticeOwed, State.port_marksVoid_request h stands, Port.offer_defaultPrinter, State.hunt_port_defaultPrinter,
    (congrArg State.nextStamp (State.marksVoid_hunt_frame (k := k) (s := s) v) :)]

theorem State.hearsAlike_marksVoid_hunt : (s.raise (.ticket v.number (some v.state))).HearsAlike ((s.hunt k.port).marksVoid v) :=
  ((s.readies_hunt k.port).hearsAlike.raise _).trans ((s.hunt k.port).hearsAlike_marksVoid v)

end

/-- A state in which a request has made its ticket VOID and cancelled its captures, from the state that took it. -/
structure State.BeginsVoid (s m : State) (k : Packet) (v : Ticket) : Prop where
  found : m.ticket? v.number = some v
  others : ∀ n, n ≠ v.number → m.ticket? n = s.ticket? n
  frame : m = { s with totals := s.totals.countVoid, channels := m.channels, tickets := m.tickets, ports := m.ports }
  out : (m.port k.port).out = (s.port k.port).out
  cancelled : ∀ c cap, (s.channel c).slot = some cap → cap.forTicket v.number = true → (m.port cap.port).busy = none ∧
    (m.port cap.port).out = (s.port cap.port).out ++ [.reply { tag := cap.tag, answer := .stop .cancelled 0 }]
  channel : ∀ c, m.channel c =
    if (s.channel c).slot.any (Capture.forTicket v.number) then { s.channel c with slot := none } else s.channel c
  notice : m.noticeOwed k.port = Owed.mk .voidNotice (s.port k.port).defaultPrinter k.port s.nextStamp false
  hears : (s.raise (.ticket v.number (some v.state))).HearsAlike m

theorem State.beginsVoid {k : Packet} {s : State} (h : s.takes k) (stands : s.capturesStand) {t v x : Ticket}
    (ht : s.ticket? v.number = some t) (hx : ((s.hunt k.port).cancelTicketCaptures v.number).ticket? v.number = some x) :
    s.BeginsVoid ((s.hunt k.port).marksVoid v) k v where
  found := State.ticket?_marksVoid_self hx
  others _ hn := State.ticket?_marksVoid_other (s := s.hunt k.port) ht hn
  frame := State.marksVoid_hunt_frame v
  out := by rw [State.port_marksVoid_request h stands, Port.offer_out, State.hunt_port_out]
  cancelled _ _ hc hf := State.port_marksVoid_cancelled stands v hc hf
  channel := (s.hunt k.port).channel_marksVoid v
  notice := State.noticeOwed_marksVoid h stands v
  hears := State.hearsAlike_marksVoid_hunt v

/-- A void of a ticket begins and ends. -/
theorem State.voidTicket_begins {k : Packet} {s : State} (h : s.takes k) (stands : s.capturesStand) {t : Ticket}
    (ht : s.ticket? t.number = some t) (reason : Nat) : ∃ (lines : List Line) (m : State),
      lines.map (fun ln => ({ ln with mark := none } : Line)) = t.lines.map (fun ln => ({ ln with mark := none } : Line)) ∧
      s.BeginsVoid m k (t.voidedWith lines k.port reason) ∧
      (s.hunt k.port).voidTicket t.number k.port reason = m.endsVoid (t.voidedWith lines k.port reason) k.port := by
  obtain ⟨lines, unmarked, found, run⟩ := State.voidTicket_eq_endsVoid (s := s.hunt k.port) ht k.port reason
  exact ⟨lines, _, unmarked, State.beginsVoid h stands (v := t.voidedWith lines k.port reason) ht found, run⟩

/-! ### The end of a void, from the state that took the request -/

section
variable {s m : State} {k : Packet} {v : Ticket} (b : s.BeginsVoid m k v)
include b

/-- A capture of the ticket waits no more. -/
theorem State.BeginsVoid.not_forTicket {c : ChannelId} {cap : Capture} (hc : (m.channel c).slot = some cap) :
    cap.forTicket v.number = false := by
  rw [b.channel] at hc
  split_ifs at hc with any
  rw [hc, Option.any_some] at any
  exact Bool.eq_false_iff.2 any

theorem State.BeginsVoid.servingJob? (o : Owed) : m.servingJob? v.number o = s.servingJob? v.number o :=
  State.servingJob?_congr (congrArg State.jobs b.frame :) _ o

theorem State.BeginsVoid.notPrinting (h : ∀ o j, v.owed = some o → s.servingJob? v.number o = some j → j.state ≠ .printing) :
    m.notPrinting v := fun o j ho hj => h o j ho ((b.servingJob? o).symm.trans hj)

/-- A receipt that is being printed is left with its job. -/
theorem State.BeginsVoid.printing {o : Owed} {j : Job} (ho : v.owed = some o) (hj : s.servingJob? v.number o = some j)
    (hp : j.state = .printing) : (m.endsVoid v k.port).ticket? v.number = some v ∧ (m.endsVoid v k.port).jobs = s.jobs ∧
      (m.endsVoid v k.port).printers = s.printers ∧ (m.endsVoid v k.port).nextStamp = s.nextStamp := by
  rw [State.endsVoid_printing b.found k.port ho ((b.servingJob? o).trans hj) hp]
  exact ⟨b.found, (congrArg State.jobs b.frame :), (congrArg State.printers b.frame :), (congrArg State.nextStamp b.frame :)⟩

theorem State.BeginsVoid.nextStamp : m.nextStamp = s.nextStamp := (congrArg State.nextStamp b.frame :)

variable (voided : v.state = .voided) (hlt : s.nextStamp < 4294967295)
include hlt

theorem State.BeginsVoid.stamp_lt : m.nextStamp < 4294967295 :=
  b.nextStamp.symm ▸ hlt

/-- A ticket whose settlement was printed comes to owe its notice with the next stamp. -/
theorem State.BeginsVoid.owes (h : m.notPrinting v) (printed : v.settlementPrinted = true) :
    (m.endsVoid v k.port).nextStamp = s.nextStamp + 1 ∧ (m.endsVoid v k.port).ticket? v.number =
      some { v with owed := some (Owed.mk .voidNotice (s.port k.port).defaultPrinter k.port s.nextStamp false) } := by
  obtain ⟨stamp, ticket⟩ := State.endsVoid_owes b.found k.port (b.stamp_lt hlt) h printed
  exact ⟨stamp.trans (congrArg (· + 1) b.nextStamp), b.notice ▸ ticket⟩

include voided

theorem State.BeginsVoid.voidEnd : m.VoidEnd (m.endsVoid v k.port) v :=
  State.voidEnd_endsVoid b.found k.port voided (b.stamp_lt hlt)

/-- The job of a receipt that is not being printed leaves the pool. -/
theorem State.BeginsVoid.withdrawn {o : Owed} {j : Job} (ho : v.owed = some o) (hj : s.servingJob? v.number o = some j)
    (hp : j.state ≠ .printing) : (∀ x ∈ (m.endsVoid v k.port).jobs, x.id ≠ j.id) ∧
      (s.snapshots.length < 8 → j.state = .taken → s.ClosesReceipt (m.endsVoid v k.port) j.printer) := by
  obtain ⟨left, closed⟩ := State.endsVoid_withdrawn b.found k.port voided (b.stamp_lt hlt) ho ((b.servingJob? o).trans hj) hp
  have printer : m.printer j.printer = s.printer j.printer :=
    congrArg (fun x => x[j.printer]) (congrArg State.printers b.frame :)
  have snapshots : m.snapshots = s.snapshots := (congrArg State.snapshots b.frame :)
  refine ⟨left, fun room taken => ?_⟩
  have closes := closed (snapshots ▸ room) taken
  unfold State.ClosesReceipt at closes ⊢
  rwa [printer] at closes

/-- What a void keeps and counts. -/
theorem State.BeginsVoid.endsVoid_frame : m.endsVoid v k.port = { s with
    totals := s.totals.countVoid, channels := m.channels, tickets := (m.endsVoid v k.port).tickets
    ports := (m.endsVoid v k.port).ports, jobs := (m.endsVoid v k.port).jobs, printers := (m.endsVoid v k.port).printers
    snapshots := (m.endsVoid v k.port).snapshots, nextStamp := (m.endsVoid v k.port).nextStamp } := by
  have step := (b.voidEnd voided hlt).step.frame
  rw [b.frame] at step ⊢
  exact step

end

/-- In a pool that stands, a ticket that comes to owe nothing is retired unless another job refers to it. -/
theorem State.BeginsVoid.owesNothing {s m : State} {k : Packet} {v : Ticket} (b : s.BeginsVoid m k v) (voided : v.state = .voided)
    (h : m.notPrinting v) (stands : s.poolStands) (unprinted : v.settlementPrinted = false) :
    (m.endsVoid v k.port).nextStamp = s.nextStamp ∧
    ((∀ x ∈ s.jobs, x.refersTo v.number = true → ∃ o, v.owed = some o ∧ x.source = .owed v.number o.stamp) →
      (m.endsVoid v k.port).ticket? v.number = none) ∧
    ((∃ x ∈ s.jobs, x.refersTo v.number = true ∧ ∀ o, v.owed = some o → x.source ≠ .owed v.number o.stamp) →
      (m.endsVoid v k.port).ticket? v.number = some { v with owed := none }) := by
  have jobs : m.jobs = s.jobs := (congrArg State.jobs b.frame :)
  have pool : m.poolStands := by
    rw [b.frame]
    exact stands
  obtain ⟨stamp, retired, kept⟩ := State.endsVoid_owesNothing b.found k.port voided h pool unprinted
  rw [jobs] at retired kept
  exact ⟨stamp.trans b.nextStamp, retired, kept⟩

/-! ### The obligation -/

theorem voidable_iff {st : TicketState} : voidable st = true ↔ st = .opened ∨ st = .held ∨ st = .payable := by
  cases st <;> decide

/-- Settles O30: a void begins with its captures and its record, and ends with its receipt left, its notice owed, or its ticket kept or
retired. -/
theorem voidTicketVoids : Obligations.VoidTicketVoids := by
  refine ⟨fun k s n reason t h captures _ hlt hn1 hn2 hb ht hs hr hp => ?_,
    fun k s n reason t h captures _ hle hn1 hn2 hb ht hs printed hr hnp hp => ?_,
    fun k s n reason t h hr hn1 hn2 hb ht hs hp => ?_⟩
  · obtain rfl : t.number = n := State.ticket?_number ht
    have effect := exec_voidTicket_allowed h ((ticketNumberOk_iff _).2 ⟨hn1, hn2⟩) hb ht (voidable_iff.2 hs) hp hr
    obtain ⟨lines, m, unmarked, b, run⟩ := State.voidTicket_begins h captures ht reason
    rw [run] at effect
    have ends := b.voidEnd rfl hlt
    have frame := b.endsVoid_frame rfl hlt
    have away : ∀ c cap, (s.channel c).slot = some cap → k.port ≠ cap.port := fun c cap hc => (captures.port_ne h.2 hc).symm
    refine ⟨_, effect, ?_, ?_, ?_, ?_, ?_, fun c cap hc => ?_, fun c cap hc hf => ?_, fun n hn => ?_, (congrArg State.tares frame :),
      (congrArg State.nextWeighing frame :), (congrArg State.active frame :), (congrArg State.settings frame :),
      (congrArg State.clock frame :), ?_, fun pool => ⟨fun o j ho hj hp => ?_, fun o j ho hj hp => ?_,
        fun hnp => ⟨fun printed => ?_, fun unprinted => ?_⟩⟩⟩
    · rw [State.port_reply, if_pos rfl, ends.step.ports]
      exact congrArg (· ++ _) b.out
    · rcases ends.record with ⟨o, found⟩ | ⟨gone, newest⟩
      · exact .inl ⟨_, found, rfl, rfl, rfl, rfl, unmarked⟩
      · exact .inr ⟨gone, _, newest, rfl, rfl, rfl, rfl, rfl, rfl⟩
    · exact (congrArg (fun x : State => x.totals.voidCount) frame).trans s.totals.countVoid_voidCount
    · exact (congrArg (fun x : State => x.totals.paidCount) frame :)
    · exact (congrArg (fun x : State => x.totals.slots) frame :)
    · rw [State.channel_reply, State.channel, frame] at hc
      exact b.not_forTicket hc
    · rw [State.port_reply, if_neg (away c cap hc), ends.step.ports]
      exact b.cancelled c cap hc hf
    · exact (ends.step.others n hn).trans (b.others n hn)
    · obtain ⟨rest, hears, kinds, count⟩ := ends.tells
      refine ⟨rest, State.HearsAlike.tells (((b.hears.foldl_raise rest).trans hears).trans (State.hearsAlike_reply _ _ _ _)),
        fun e he => or_assoc.1 (kinds e he), count⟩
    · obtain ⟨found, jobs, printers, stamp⟩ := b.printing ho hj hp
      exact ⟨⟨_, found, ho⟩, jobs, printers, stamp⟩
    · exact b.withdrawn rfl hlt ho hj hp
    · obtain ⟨stamp, found⟩ := b.owes hlt (b.notPrinting hnp) printed
      exact ⟨stamp, _, found, rfl⟩
    · obtain ⟨stamp, retired, kept⟩ := b.owesNothing rfl (b.notPrinting hnp) pool unprinted
      exact ⟨stamp, retired, fun other => ⟨_, kept other, rfl⟩⟩
  · obtain rfl : t.number = n := State.ticket?_number ht
    have effect := exec_voidTicket_allowed h ((ticketNumberOk_iff _).2 ⟨hn1, hn2⟩) hb ht (voidable_iff.2 (.inr hs)) hp (.inl hr)
    obtain ⟨lines, m, -, b, run⟩ := State.voidTicket_begins h captures ht reason
    have waits := b.notPrinting hnp
    obtain ⟨stamp, -, report⟩ := m.withdrawAtVoid_kept (t.voidedWith lines k.port reason)
    rw [run, State.endsVoid_notice b.found k.port waits printed] at effect
    have notice : (m.withdrawAtVoid (t.voidedWith lines k.port reason)).noticeOwed k.port =
        Owed.mk .voidNotice (s.port k.port).defaultPrinter k.port s.nextStamp false := b.notice ▸ m.noticeOwed_withdrawAtVoid _ _
    have found := State.ticket?_owingNotice_self (t := { t.voidedWith lines k.port reason with owed := none }) (waits.ticket? b.found) rfl k.port
    refine ⟨_, _, _, effect, found, rfl, congrArg some notice, fun n hn => ?_,
      report.trans (congrArg State.report b.frame :), State.advanceStamp_renumbered ?_⟩
    · exact (State.ticket?_owingNotice_other _ (t := { t.voidedWith lines k.port reason with owed := none }) hn k.port).trans
        (((m.voidStep_withdrawAtVoid (t.voidedWith lines k.port reason)).others n hn).trans (b.others n hn))
    · exact (stamp.trans b.nextStamp).symm ▸ hle
  · have state : voidable t.state = true := voidable_iff.2 (by tauto)
    refine exec_voidTicket_weighed h ((ticketNumberOk_iff _).2 ⟨hn1, hn2⟩) hb ht state hp hr ?_
    rcases hs with hs | hs | ⟨-, hw⟩
    · exact .inl (by rw [hs]; decide)
    · exact .inl (by rw [hs]; decide)
    · exact .inr hw

end Sys2Proof.Machine
end

section
/-! The tare table (R58, R59, R61, R63): a STORE TARE that its channel's newest entry completes at once, and DROP TARE. -/

namespace Sys2Proof.Machine

/-! ### STORE TARE on a STABLE channel (R17, R59, R61) -/

/-- The tests of R61 pass on a NORMAL reading of at least 20 × d with room for its plate. -/
theorem tareFault_eq_none {s : State} {plate : Text} {d : Nat} {r : Reading} (hcl : r.readingClass = .normal)
    (hw : 20 * d ≤ r.weight) (room : s.tares.length < 64 ∨ ∃ e ∈ s.tares, e.plate = plate) : tareFault s plate d r = none := by
  have notFull : ¬((∀ e ∈ s.tares, e.plate ≠ plate) ∧ 64 ≤ s.tares.length) := by
    rintro ⟨hno, hfull⟩
    rcases room with hlt | ⟨e, he, hp⟩
    · exact absurd hfull (Nat.not_le.2 hlt)
    · exact hno e he hp
  rw [tareFault_normal hcl, if_neg (not_lt.2 hw), if_neg notFull]

/-- The record of a NORMAL reading is not a MARGIN record (R20). -/
theorem State.weighingOf_normal (s : State) (c : ChannelId) {r : Reading} (hcl : r.readingClass = .normal) :
    s.weighingOf c r = ⟨r.weight.toNat, false, .scale c, s.nextWeighing, s.clock⟩ := by
  rw [State.weighingOf, hcl]
  rfl

/-- STORE TARE on a STABLE channel with a free slot and room for its plate completes with the newest entry. -/
theorem exec_storeTare_stable {k : Packet} {s : State} {plate : Text} {c : ChannelId} {r : Reading} (h : s.takes k)
    (hne : plate ≠ []) (hok : plateOk plate = true) (hr : (s.port k.port).role ∈ permitted 21)
    (h1 : (s.channel c).state = .stable) (h2 : (s.channel c).zeroRequired = false) (h3 : (s.channel c).slot = none)
    (h4 : (s.channel c).window.getLast? = some r) (room : s.tares.length < 64 ∨ ∃ e ∈ s.tares, e.plate = upperCase plate)
    (hp : k.params = textBytes plate ++ numBytes 1 c.val) :
    exec (.storeTare k) s = (tareFault s (upperCase plate) (s.channel c).config.division r).elim
      (.next ((((s.hunt k.port).storeTare ⟨upperCase plate, s.weighingOf c r, c⟩).giveWeighing).replied k
        (.success (numBytes 4 s.nextWeighing ++ yesNoBytes (s.tares.any fun e => decide (e.plate = upperCase plate))))))
      fun reason => .next ((s.hunt k.port).replied k (.stop reason 0)) := by
  have hparse : PlateByteArgs.parse k.params = some ⟨plate, c.val⟩ := by
    rw [hp]
    exact PlateByteArgs.parse_bytes plate c ((length_le_of_plateOk hok).trans (by decide)) (by omega)
  have sameFault : tareFault (s.hunt k.port) = tareFault s := rfl
  refine (takeCommand_carriedOut (storeTare k) h (permitted_storeTare ▸ hr) hparse).trans ?_
  rw [storeTare_requested (s := s.hunt k.port) hne hok room,
    State.requestCapture_stable (s := s.hunt k.port) _ _ _ h1 h2 h3 h4, State.completeCapture_tare, State.channel_hunt, sameFault]
  cases tareFault s (upperCase plate) (s.channel c).config.division r <;> rfl

/-! ### DROP TARE (R63) -/

/-- DROP TARE of a plate: its entry leaves the table, or is not found. -/
theorem dropTare_eq (s : State) {plate : Text} (hne : plate ≠ []) (hok : plateOk plate = true) :
    dropTare plate s = if ∃ e ∈ s.tares, e.plate = upperCase plate then
        ({ s with tares := s.tares.filter fun e => decide (e.plate ≠ upperCase plate) } : State).finish []
      else s.refuse .notFound := by
  rw [dropTare, if_pos (by simp [presentPlateOk, hok, hne])]
  cases he : s.tareEntry? (upperCase plate) with
  | none =>
    rw [State.tareEntry?_eq_none] at he
    exact (if_neg (by simpa using he)).symm
  | some e =>
    have found : ∃ e ∈ s.tares, e.plate = upperCase plate :=
      ⟨e, List.mem_of_find?_eq_some he, by simpa using List.find?_some he⟩
    exact (if_pos found).symm

/-- Settles O32: the tests of R61 decide a STORE TARE at once, and the search for the plate a DROP TARE. -/
theorem taresStoredAndDropped : Obligations.TaresStoredAndDropped := by
  intro k s plate h hne hok
  refine ⟨fun c r hr h1 h2 h3 h4 room hp => ?_, fun hr hp => ?_⟩
  · have effect := exec_storeTare_stable h hne hok hr h1 h2 h3 h4 room hp
    refine ⟨fun hcl hw => ?_, fun hcl => ?_, fun hcl hw => ?_⟩
    · rw [effect, tareFault_eq_none hcl hw room, s.weighingOf_normal c hcl]
      rfl
    · rw [effect, tareFault_of_class (by rw [hcl]; decide)]
      rfl
    · rw [effect, tareFault_normal hcl, if_pos hw]
      rfl
  · have hparse : parsePlate k.params = some plate := by
      rw [hp]
      exact parsePlate_bytes plate ((length_le_of_plateOk hok).trans (by decide))
    refine (takeCommand_effect dropTare h (by rw [hr]; rfl) hparse).trans ?_
    rw [dropTare_eq _ hne hok, apply_ite (carriedOut k), apply_ite Host.Outcome.next]
    rfl

end Sys2Proof.Machine
end

section
/-! The price schedule (R69 to R80): the lookup's choice, sum and clamp, and the edits, commits and discards of the PENDING bank. -/

namespace Sys2Proof.Machine

/-! ### Matching (R70) -/

theorem Rule.covers_iff (r : Rule) (grade : Nat) (cls : CustomerClass) : r.covers grade cls = true ↔
    r.enabled = true ∧ grade / 10 ^ (6 - r.matchLength) = r.pattern / 10 ^ (6 - r.matchLength) ∧
      r.classes.getLsbD cls.code = true := by
  simp only [Rule.covers, Bool.and_eq_true, decide_eq_true_eq, and_assoc]
  rfl

theorem Rule.coversBase_iff (r : Rule) (grade : Nat) (cls : CustomerClass) :
    r.coversBase grade cls = true ↔ r.kind = .base ∧ r.covers grade cls = true := by
  simp only [Rule.coversBase, Bool.and_eq_true, decide_eq_true_eq]

theorem Rule.coversAdjust_iff (r : Rule) (grade : Nat) (cls : CustomerClass) :
    r.coversAdjust grade cls = true ↔ r.kind = .adjust ∧ r.covers grade cls = true := by
  simp only [Rule.coversAdjust, Bool.and_eq_true, decide_eq_true_eq]

/-! ### The winning slot (R71) -/

/-- No slot wins exactly when no BASE rule matches. -/
theorem Bank.winner?_eq_none {b : Bank} {grade : Nat} {cls : CustomerClass} :
    b.winner? grade cls = none ↔ ∀ i : Fin 32, ¬ b[i].coversBase grade cls = true := by
  rw [Bank.winner?, List.getLast?_eq_none_iff, List.filter_eq_nil_iff]
  exact forall_congr' fun i => ⟨fun h => h (List.mem_finRange i), fun h _ => h⟩

section
variable {b : Bank} {grade : Nat} {cls : CustomerClass} {w : Fin 32} (h : b.winner? grade cls = some w)
include h

/-- The rule of the winning slot is a BASE rule that matches. -/
theorem Bank.winner?_coversBase : b[w].coversBase grade cls = true :=
  (List.mem_filter.1 (List.mem_of_getLast? h)).2

/-- No matching BASE rule stands above the winning slot. -/
theorem Bank.le_winner? {i : Fin 32} (hi : b[i].coversBase grade cls = true) : i ≤ w := by
  have sorted : ((List.finRange 32).filter fun i => b[i].coversBase grade cls).Pairwise (· ≤ ·) :=
    ((List.pairwise_lt_finRange 32).imp Fin.le_of_lt).filter _
  have member : i ∈ (List.finRange 32).filter fun i => b[i].coversBase grade cls :=
    List.mem_filter.2 ⟨List.mem_finRange i, hi⟩
  exact List.getLast_of_getLast?_eq_some h ▸ sorted.rel_getLast member

end

/-! ### The adjustments (R72) -/

/-- A bank's rules, slot by slot. -/
theorem Bank.toList_eq_map (b : Bank) : b.toList = (List.finRange 32).map fun i => b[i] :=
  List.ext_getElem (by simp) (by simp)

/-- The adjustment sum over any list of the matching ADJUST slots, each once: the order of the slots plays no part. -/
theorem Bank.adjustments_eq_sum {b : Bank} {grade : Nat} {cls : CustomerClass} {matching : List (Fin 32)} (nodup : matching.Nodup)
    (all : ∀ i, i ∈ matching ↔ b[i].coversAdjust grade cls = true) :
    b.adjustments grade cls = (matching.map fun i => b[i].adjustment).sum := by
  have perm : ((List.finRange 32).filter fun i => b[i].coversAdjust grade cls).Perm matching :=
    (List.perm_ext_iff_of_nodup ((List.nodup_finRange 32).filter _) nodup).2 fun i => by
      rw [List.mem_filter, all i, and_iff_right (List.mem_finRange i)]
  rw [Bank.adjustments, b.toList_eq_map, List.filter_map, List.map_map]
  exact (perm.map _).sum_eq

/-! ### The lookup (R73, R74) -/

theorem clampPrice_eq (v : Int) : (clampPrice v : Int) = max 0 (min v 99999) :=
  Int.toNat_of_nonneg (le_max_left _ _)

theorem Bank.lookup_eq_none {b : Bank} {grade : Nat} {cls : CustomerClass} :
    b.lookup grade cls = none ↔ b.winner? grade cls = none := Option.map_eq_none_iff

/-- Settles O34: the last of the matching BASE slots in ascending order is the highest, and the adjustments are summed in any order. -/
theorem lookupPicksTheHighestSlot : Obligations.LookupPicksTheHighestSlot := by
  intro b grade cls agrees
  have base : ∀ i : Fin 32, b[i].coversBase grade cls = true ↔ b[i].kind = .base ∧ agrees i := fun i => by
    rw [Rule.coversBase_iff, Rule.covers_iff]
  have adjust : ∀ i : Fin 32, b[i].coversAdjust grade cls = true ↔ b[i].kind = .adjust ∧ agrees i := fun i => by
    rw [Rule.coversAdjust_iff, Rule.covers_iff]
  refine ⟨?_, fun l hl => ?_⟩
  · rw [Bank.lookup_eq_none, Bank.winner?_eq_none]
    exact forall_congr' fun i => not_congr (base i)
  · obtain ⟨w, hw, rfl⟩ := Option.map_eq_some_iff.1 hl
    refine ⟨(base w).1 (Bank.winner?_coversBase hw), fun i hi => Bank.le_winner? hw ((base i).2 hi), rfl, rfl, rfl, rfl,
      fun no => if_neg (Bool.eq_false_iff.1 no), fun yes matching nodup all => ?_, clampPrice_eq _, decide_eq_true_iff⟩
    exact (if_pos yes).trans (Bank.adjustments_eq_sum nodup fun i => (all i).trans (adjust i).symm)

/-! ### The rule an edit carries (R69, R75) -/

/-- A yes or no byte is 0 or 1, and 1 is yes. -/
theorem yesNo?_eq_some {n : Nat} {b : Bool} (h : yesNo? n = some b) : n ≤ 1 ∧ (n = 1 ↔ b = true) := by
  match n, h with
  | 0, rfl => decide
  | 1, rfl => decide

theorem RuleKind.ofCode?_eq_some {n : Nat} {kind : RuleKind} (h : RuleKind.ofCode? n = some kind) : n = kind.code := by
  match n, h with
  | 0, rfl => rfl
  | 1, rfl => rfl

/-- The tests of a BASE rule's own numbers (R75, check 3). -/
abbrev EditRuleArgs.BaseOk (a : EditRuleArgs) : Prop := a.price ≤ 99999 ∧ a.defaultDeduction ≤ 500 ∧ a.holdHours ≤ 240

/-- The test of an ADJUST rule's own number (R75, check 3). -/
abbrev EditRuleArgs.AdjustOk (a : EditRuleArgs) : Prop := -9999 ≤ a.adjustment ∧ a.adjustment ≤ 9999

section
variable {a : EditRuleArgs} {enabled : Bool} (he : yesNo? a.enabled = some enabled)
  (common : a.pattern ≤ 999999 ∧ a.matchLength ≤ 6 ∧ a.classes ≤ 15 ∧ a.label.length ≤ 16 ∧ printable a.label = true ∧
    ¬(enabled = true ∧ a.classes = 0))
include he common

/-- An edit of a BASE rule in range carries the BASE fields, its adjustment held at 0 (R69). -/
theorem EditRuleArgs.rule?_base {accepts : Bool} (hk : RuleKind.ofCode? a.kind = some .base)
    (ha : yesNo? a.accepts = some accepts) (own : a.BaseOk) :
    a.rule? = some (Rule.mk enabled .base a.pattern a.matchLength (BitVec.ofNat 4 a.classes) a.label a.price accepts
      a.defaultDeduction a.holdHours 0) := by
  rw [EditRuleArgs.rule?, he, hk]
  refine (if_pos common).trans ?_
  dsimp only
  rw [EditRuleArgs.baseRule?, ha]
  exact if_pos own

/-- An edit of an ADJUST rule in range carries its adjustment, the BASE fields held at 0 and no (R69). -/
theorem EditRuleArgs.rule?_adjust (hk : RuleKind.ofCode? a.kind = some .adjust) (own : a.AdjustOk) :
    a.rule? = some (Rule.mk enabled .adjust a.pattern a.matchLength (BitVec.ofNat 4 a.classes) a.label 0 false 0 0
      a.adjustment) := by
  rw [EditRuleArgs.rule?, he, hk]
  exact (if_pos common).trans (if_pos own)

end

theorem EditRuleArgs.baseRule?_eq_some {a : EditRuleArgs} {common r : Rule} (h : a.baseRule? common = some r) :
    a.accepts ≤ 1 ∧ a.BaseOk := by
  unfold EditRuleArgs.baseRule? at h
  split at h
  case h_1 => cases h
  case h_2 accepts ha =>
    split_ifs at h with own
    exact ⟨(yesNo?_eq_some ha).1, own⟩

theorem EditRuleArgs.adjustRule?_eq_some {a : EditRuleArgs} {common r : Rule} (h : a.adjustRule? common = some r) :
    a.AdjustOk := by
  unfold EditRuleArgs.adjustRule? at h
  split_ifs at h with own
  exact own

/-- Every test of R75 on the fields that an edit's kind asks for, the slot aside. -/
structure EditRuleArgs.InRange (a : EditRuleArgs) : Prop where
  enabled : a.enabled ≤ 1
  kind : a.kind ≤ 1
  pattern : a.pattern ≤ 999999
  matchLength : a.matchLength ≤ 6
  classes : a.classes ≤ 15
  label : a.label.length ≤ 16 ∧ printable a.label = true
  base : a.kind = 0 → a.accepts ≤ 1 ∧ a.BaseOk
  adjust : a.kind = 1 → a.AdjustOk
  someClass : ¬(a.enabled = 1 ∧ a.classes = 0)

/-- A field out of its range fails the tests, a field of the other kind aside. -/
theorem EditRuleArgs.not_inRange {a : EditRuleArgs}
    (h : 1 < a.enabled ∨ 1 < a.kind ∨ 999999 < a.pattern ∨ 6 < a.matchLength ∨ 15 < a.classes ∨ 16 < a.label.length ∨
      printable a.label = false ∨
      (a.kind = 0 ∧ (99999 < a.price ∨ 1 < a.accepts ∨ 500 < a.defaultDeduction ∨ 240 < a.holdHours)) ∨
      (a.kind = 1 ∧ (a.adjustment < -9999 ∨ 9999 < a.adjustment)) ∨ (a.enabled = 1 ∧ a.classes = 0)) : ¬a.InRange := by
  rintro ⟨_, _, _, _, _, ⟨_, chars⟩, base, adjust, _⟩
  simp only [chars, Bool.true_eq_false, false_or] at h
  omega

/-- An edit that carries a rule has passed the tests of R75. -/
theorem EditRuleArgs.inRange_of_rule? {a : EditRuleArgs} {r : Rule} (h : a.rule? = some r) : a.InRange := by
  unfold EditRuleArgs.rule? at h
  split at h
  case h_2 => cases h
  case h_1 enabled kind he hk =>
    split_ifs at h with common
    obtain ⟨pattern, m, classes, label, chars, used⟩ := common
    obtain ⟨enabledLe, enabledYes⟩ := yesNo?_eq_some he
    have kindCode := RuleKind.ofCode?_eq_some hk
    have hasClass : ¬(a.enabled = 1 ∧ a.classes = 0) := fun e => used ⟨enabledYes.1 e.1, e.2⟩
    cases kind with
    | base =>
      exact ⟨enabledLe, kindCode ▸ by decide, pattern, m, classes, ⟨label, chars⟩, fun _ => baseRule?_eq_some h,
        fun e => absurd (e.symm.trans kindCode) (by decide), hasClass⟩
    | adjust =>
      exact ⟨enabledLe, kindCode ▸ by decide, pattern, m, classes, ⟨label, chars⟩,
        fun e => absurd (e.symm.trans kindCode) (by decide), fun _ => adjustRule?_eq_some h, hasClass⟩

/-! ### EDIT RULE (R75, R76) -/

/-- An edit in range writes its rule into the PENDING bank. -/
theorem editRule_writes {a : EditRuleArgs} {i : Fin 32} {r : Rule} (hi : a.slot = i.val) (hr : a.rule? = some r) (s : State) :
    editRule a s = ({ s with edit := some ((s.edit.getD s.active).set i r) } : State).finish [] := by
  rw [editRule, hi, indexOf?_val, hr]
  rfl

/-- An edit that fails a test of R75 is refused with RANGE. -/
theorem editRule_range {a : EditRuleArgs} (h : 31 < a.slot ∨ ¬a.InRange) (s : State) : editRule a s = s.refuse .range := by
  unfold editRule
  rcases h with h | h
  · rw [indexOf?_eq_none h]
  · cases hr : a.rule? with
    | none => cases indexOf? 32 a.slot <;> rfl
    | some r => exact absurd (EditRuleArgs.inRange_of_rule? hr) h

section
variable {k : Packet} {s : State} (h : s.takes k) (hr : (s.port k.port).role = .supervisor)
include h hr

/-- EDIT RULE of a supervisor, its parameters read. -/
theorem exec_editRule {a : EditRuleArgs} (hp : EditRuleArgs.parse k.params = some a) :
    exec (.editRule k) s = .next (carriedOut k (editRule a (s.hunt k.port))) :=
  takeCommand_effect editRule h (by rw [hr]; rfl) hp

/-! ### COMMIT PRICES and DISCARD PRICES (R77, R79, R80) -/

theorem exec_commitPrices (hp : k.params = []) :
    exec (.commitPrices k) s = .next (carriedOut k (commitPrices () (s.hunt k.port))) :=
  takeCommand_effect commitPrices h (by rw [hr]; rfl) (by rw [hp]; rfl)

theorem exec_discardPrices (hp : k.params = []) :
    exec (.discardPrices k) s = .next (carriedOut k (discardPrices () (s.hunt k.port))) :=
  takeCommand_effect discardPrices h (by rw [hr]; rfl) (by rw [hp]; rfl)

end

/-- Settles O33: each edit's parameters are read back as its fields, and the tests of R75 give the rule it carries or the refusal. -/
theorem schedulesEdited : Obligations.SchedulesEdited := by
  refine ⟨fun k s h hr => ⟨?_, ?_, ?_, fun hb hp => ?_⟩, ?_⟩
  · intro i enabled accepts pattern m classes price ded hold label adj hpat hm hcls hlab hchars hused hprice hded hhold hlow hhigh hp
    rw [yesNoBytes_eq accepts] at hp
    rw [exec_editRule h hr (hp ▸ EditRuleArgs.parse_bytes _ _ _ _ _ _ _ _ _ _ _ _ (by omega) (by omega) (by omega) (by omega)
      (by omega) (by omega) (by omega) (by cases accepts <;> decide) (by omega) (by omega) hlow hhigh),
      editRule_writes rfl (EditRuleArgs.rule?_base (yesNo?_num enabled) ⟨hpat, hm, hcls, hlab, hchars, hused⟩ rfl
        (yesNo?_num accepts) ⟨hprice, hded, hhold⟩)]
    rfl
  · intro i enabled pattern m classes price accepts ded hold label adj hpat hm hcls hlab hchars hused hprice hacc hded hhold hlow hhigh hp
    rw [exec_editRule h hr (hp ▸ EditRuleArgs.parse_bytes _ _ _ _ _ _ _ _ _ _ _ _ (by omega) (by omega) (by omega) (by omega)
      (by omega) (by omega) hprice hacc hded hhold (by omega) (by omega)),
      editRule_writes rfl (EditRuleArgs.rule?_adjust (yesNo?_num enabled) ⟨hpat, hm, hcls, hlab, hchars, hused⟩ rfl ⟨hlow, hhigh⟩)]
    rfl
  · intro b hb hp g
    have edit : (s.hunt k.port).edit = some b := hb
    rw [exec_commitPrices h hr hp, exec_discardPrices h hr hp, commitPrices, discardPrices, edit]
    exact ⟨rfl, rfl⟩
  · have edit : (s.hunt k.port).edit = none := hb
    rw [exec_commitPrices h hr hp, exec_discardPrices h hr hp, commitPrices, discardPrices, edit]
    exact ⟨rfl, rfl⟩
  · intro k s slot enabled kind pattern m classes price accepts ded hold label adj h hr hslot hen hkind hpat hm hcls hlab hprice
      hacc hded hhold hlow hhigh hp bad
    rw [exec_editRule h hr (hp ▸ EditRuleArgs.parse_nums _ _ _ _ _ _ _ _ _ _ _ _ hslot hen hkind hpat hm hcls (by omega) hprice
      hacc hded hhold hlow hhigh), editRule_range ?_]
    · rfl
    · exact Or.imp_right EditRuleArgs.not_inRange bad

end Sys2Proof.Machine
end

section
/-! The settlement of a close (R89 to R93, R96 to R99): the price of a line, the bounds of its deduction, and the hold of the ticket. -/

namespace Sys2Proof.Machine

/-! ### The deduction of a line (R90, R91) -/

/-- With p at most 500 the deduction is at most half of the net, rounded up. -/
theorem deductionWeight_le_half {n p : Nat} (hp : p ≤ 500) : deductionWeight n p ≤ (n * 500 + 500) / 1000 :=
  Nat.div_le_div_right (Nat.add_le_add_right (Nat.mul_le_mul_left n hp) 500)

@[simp] theorem deductionWeight_zero (n : Nat) : deductionWeight n 0 = 0 := by
  simp [deductionWeight]

/-- Settles O37: the deduction grows with p, so each bound is the one at p of 500. -/
theorem payableWeightBounds : Obligations.PayableWeightBounds := by
  intro n p hp
  have half : (n * 500 + 500) / 1000 = (n + 1) / 2 := by omega
  have bound := deductionWeight_le_half (n := n) hp
  have within : deductionWeight n p ≤ (n + 1) / 2 := half ▸ bound
  refine ⟨bound, half, by omega, by omega, Nat.sub_le _ _, ?_, rfl, rfl⟩
  rw [deductionWeight_zero, Nat.sub_zero]

/-! ### The lines of a close that passes (R86, R89, R93, R96) -/

/-- A close that passes has every line pass every check. -/
theorem lineChecks_pass {b : Bank} {t : Ticket} (h : closeCheck b t = none) {x : Reason × (Line → Bool)} (hx : x ∈ lineChecks b t)
    {ln : Line} (hl : ln ∈ t.lines) : x.2 ln = false := by
  rw [closeCheck_eq_findSome?, if_neg (List.ne_nil_of_mem hl), List.findSome?_eq_none_iff] at h
  exact checkLines_eq_none.1 (h x hx) ln hl

/-- Check 4 of R86 on a line that holds both weighings. -/
theorem Line.invalidNet_eq_false {ln : Line} {g ta : Weighing} (hg : ln.gross = some g) (ht : ln.tare = some ta) :
    ln.invalidNet = false ↔ ta.weight ≤ g.weight := by
  simp [Line.invalidNet, hg, ht]

/-- A line of a close that passes has a gross, a tare not above it, and a price. -/
theorem Line.priceable_of_closeCheck {b : Bank} {t : Ticket} (h : closeCheck b t = none) {ln : Line} (hl : ln ∈ t.lines) :
    ∃ (g ta : Weighing) (l : Lookup), ln.gross = some g ∧ ln.tare = some ta ∧ ta.weight ≤ g.weight ∧
      b.lookup ln.grade t.customerClass = some l := by
  have complete : ln.incomplete = false := lineChecks_pass h (x := (.incompleteLine, Line.incomplete)) (by simp [lineChecks]) hl
  have net : ln.invalidNet = false := lineChecks_pass h (x := (.invalidNet, Line.invalidNet)) (by simp [lineChecks]) hl
  have price : ln.noPrice b t.customerClass = false := lineChecks_pass h (x := (.noPrice, Line.noPrice b t.customerClass))
    (by simp [lineChecks]) hl
  obtain ⟨gross, tare⟩ := Bool.or_eq_false_iff.1 complete
  obtain ⟨g, hg⟩ := Option.isSome_iff_exists.1 (Option.isNone_eq_false_iff.1 gross)
  obtain ⟨ta, ht⟩ := Option.isSome_iff_exists.1 (Option.isNone_eq_false_iff.1 tare)
  obtain ⟨l, hp⟩ := Option.isSome_iff_exists.1 (Option.isNone_eq_false_iff.1 price)
  exact ⟨g, ta, l, hg, ht, (Line.invalidNet_eq_false hg ht).1 net, hp⟩

/-- A line with both weighings and a price takes its pricing record and keeps the rest (R96). -/
theorem Line.priced_eq {b : Bank} {cls : CustomerClass} {ln : Line} {g ta : Weighing} {l : Lookup} (hg : ln.gross = some g)
    (ht : ln.tare = some ta) (hl : b.lookup ln.grade cls = some l) (mode : RoundingMode) :
    ln.priced mode b cls = { ln with pricing := some (pricingOf mode g ta ln.deduction l) } := by
  simp [Line.priced, hg, ht, hl]

/-- The rounding of a raw product as one condition on the mode (R93). -/
theorem lineAmount_eq (mode : RoundingMode) (q : Nat) : lineAmount mode q = if mode = .nearest then (q + 50) / 100 else q / 100 := by
  cases mode <;> rfl

/-! ### The hold hours (R98) -/

/-- The running maximum from 0 is the greatest of 0 and the entries. -/
theorem foldl_max_greatest (hours : List Nat) :
    hours.foldl max 0 ∈ 0 :: hours ∧ ∀ n ∈ 0 :: hours, n ≤ hours.foldl max 0 :=
  List.max?_eq_some_iff.1 List.max?_cons'

/-- No line's rule has more hold hours than the ticket. -/
theorem le_holdHours {b : Bank} {cls : CustomerClass} {lines : List Line} {ln : Line} {l : Lookup} (hl : ln ∈ lines)
    (price : b.lookup ln.grade cls = some l) : l.holdHours ≤ holdHours b cls lines := by
  refine (foldl_max_greatest _).2 _ (List.mem_cons_of_mem _ (List.mem_map.2 ⟨ln, hl, ?_⟩))
  rw [price]

/-- Hold hours other than 0 are those of some line's rule. -/
theorem holdHours_attained (b : Bank) (cls : CustomerClass) (lines : List Line) : holdHours b cls lines = 0 ∨
    ∃ ln ∈ lines, ∃ l, b.lookup ln.grade cls = some l ∧ l.holdHours = holdHours b cls lines := by
  rcases List.mem_cons.1 (foldl_max_greatest _).1 with zero | attained
  · exact .inl zero
  · obtain ⟨ln, hl, hours⟩ := List.mem_map.1 attained
    cases price : b.lookup ln.grade cls with
    | none =>
      rw [price] at hours
      exact .inl hours.symm
    | some l =>
      rw [price] at hours
      exact .inr ⟨ln, hl, l, price, hours⟩

/-! ### The settled ticket (R97, R99) -/

/-- The ticket is HELD when its settlement has a release time, and PAYABLE otherwise. -/
theorem State.settled_state (s : State) (t : Ticket) :
    (s.settled t).state = if (s.settlementOf t (s.settled t).lines).release.isSome then .held else .payable := rfl

/-- Without hold hours the ticket is PAYABLE and its settlement has no release time. -/
theorem State.settled_payable {s : State} {t : Ticket} (h : holdHours s.active t.customerClass t.lines = 0) :
    (s.settlementOf t (s.settled t).lines).release = none ∧ (s.settled t).state = .payable := by
  have release : (s.settlementOf t (s.settled t).lines).release = none := if_pos h
  exact ⟨release, by rw [State.settled_state, release]; rfl⟩

/-- With hold hours the ticket is HELD until its release time. -/
theorem State.settled_held {s : State} {t : Ticket} (h : 0 < holdHours s.active t.customerClass t.lines) :
    (s.settled t).state = .held ∧ (s.settlementOf t (s.settled t).lines).release =
      some (releaseTime s.clock (holdHours s.active t.customerClass t.lines)) := by
  have release : (s.settlementOf t (s.settled t).lines).release =
      some (releaseTime s.clock (holdHours s.active t.customerClass t.lines)) := if_neg h.ne'
  exact ⟨by rw [State.settled_state, release]; rfl, release⟩

/-- A line of a close that passes is priced in its place by its lookup. -/
theorem State.settled_line {s : State} {t : Ticket} {i : Nat} {ln : Line} {g ta : Weighing} {l : Lookup} (hi : t.lines[i]? = some ln)
    (hg : ln.gross = some g) (ht : ln.tare = some ta) (hl : s.active.lookup ln.grade t.customerClass = some l) :
    (s.settled t).lines[i]? =
      some { ln with pricing := some (pricingOf s.settings.roundingMode g ta ln.deduction l) } := by
  rw [← Line.priced_eq hg ht hl s.settings.roundingMode]
  exact (List.getElem?_map ..).trans (congrArg _ hi)

/-- Settles O36: the checks give each line its weighings and its lookup, and the hold hours are the greatest of the lookups'. -/
theorem settledTicketsArePriced : Obligations.SettledTicketsArePriced := by
  intro s t h mode
  refine ⟨fun i ln hi => ?_, List.length_map .., s.settlementOf t (s.settled t).lines, holdHours s.active t.customerClass t.lines,
    rfl, rfl, rfl, rfl, fun ln hl l price => le_holdHours hl price, holdHours_attained _ _ _, State.settled_payable,
    State.settled_held, rfl⟩
  obtain ⟨g, ta, l, hg, ht, net, price⟩ := Line.priceable_of_closeCheck h (List.mem_of_getElem? hi)
  refine ⟨g, ta, l, hg, ht, net, price, (State.settled_line hi hg ht price).trans ?_⟩
  rw [pricingOf, lineAmount_eq]
  rfl

end Sys2Proof.Machine
end

section
/-! SUPPORT. The role of each port and the presence of its drawer (R114, R183), through every operation of the part. -/

namespace Sys2Proof.Machine

/-! ### The post of a port -/

/-- A port's role, and whether it holds a drawer. -/
def Port.post (q : Port) : Role × Bool := (q.role, q.drawer.isSome)

/-- The posts of the ports. -/
def State.posts (s : State) (p : PortId) : Role × Bool := (s.port p).post

theorem State.posts_congr {s t : State} (h : t.ports = s.ports) : t.posts = s.posts := by
  funext p; rw [State.posts, State.port, h]; rfl

@[simp] theorem Port.post_offer (q : Port) (e : Entry) : (q.offer e).post = q.post := by simp [Port.post]

@[simp] theorem Port.post_restarted (q : Port) : q.restarted.post = q.post := rfl

@[simp] theorem Port.post_zeroPaid (q : Port) : q.zeroPaid.post = q.post := by simp [Port.post, Port.zeroPaid]

@[simp] theorem Port.post_handover (q : Port) : q.handover.post = q.post := by
  unfold Port.handover
  split_ifs
  · split <;> rfl
  · rfl

/-! ### Ports, channels, events and replies -/

theorem State.posts_setPort (s : State) (p : PortId) (x : Port) : (s.setPort p x).posts = Function.update s.posts p x.post := by
  funext q
  rw [Function.update_apply, State.posts, State.port_setPort]
  split_ifs with e1 e2 e2
  · rfl
  · exact absurd e1.symm e2
  · exact absurd e2.symm e1
  · rfl

/-- A port written with the post it has. -/
theorem State.posts_setPort_same (s : State) (p : PortId) (x : Port) (h : x.post = (s.port p).post) : (s.setPort p x).posts = s.posts := by
  rw [State.posts_setPort, h]
  exact Function.update_eq_self p s.posts

@[simp] theorem State.posts_setChannel (s : State) (c : ChannelId) (x : Channel) : (s.setChannel c x).posts = s.posts := rfl
@[simp] theorem State.posts_setPrinter (s : State) (r : PrinterId) (x : Printer) : (s.setPrinter r x).posts = s.posts := rfl
@[simp] theorem State.posts_putTicket (s : State) (t : Ticket) : (s.putTicket t).posts = s.posts := rfl
@[simp] theorem State.posts_putJob (s : State) (j : Job) : (s.putJob j).posts = s.posts := rfl
@[simp] theorem State.posts_addJob (s : State) (j : Job) : (s.addJob j).posts = s.posts := rfl
@[simp] theorem State.posts_reach (s : State) (time : Nat) : (s.reach time).posts = s.posts := rfl
@[simp] theorem State.posts_giveWeighing (s : State) : s.giveWeighing.posts = s.posts := rfl
@[simp] theorem State.posts_storeTare (s : State) (e : TareEntry) : (s.storeTare e).posts = s.posts := rfl
@[simp] theorem State.posts_raise (s : State) (e : Event) : (s.raise e).posts = s.posts := by funext p; simp [State.posts]
@[simp] theorem State.posts_moveTicket (s : State) (t : Ticket) : (s.moveTicket t).posts = s.posts := State.posts_raise _ _
@[simp] theorem State.posts_hunt (s : State) (p : PortId) : (s.hunt p).posts = s.posts := s.posts_setPort_same p _ rfl
@[simp] theorem State.posts_reply (s : State) (p : PortId) (tag : Byte) (a : Answer) : (s.reply p tag a).posts = s.posts :=
  s.posts_setPort_same p _ rfl
@[simp] theorem State.posts_setReceiver (s : State) (p : PortId) (x : Receiver) : (s.setReceiver p x).posts = s.posts :=
  s.posts_setPort_same p _ rfl
@[simp] theorem State.posts_frameSent (s : State) (p : PortId) : (s.frameSent p).posts = s.posts := s.posts_setPort_same p _ rfl
@[simp] theorem State.posts_handover (s : State) (p : PortId) : (s.handover p).posts = s.posts :=
  s.posts_setPort_same p _ (Port.post_handover _)
@[simp] theorem State.posts_changeChannel (s : State) (c : ChannelId) (x : Channel) : (s.changeChannel c x).posts = s.posts :=
  funext fun p => s.changeChannel_port Port.post Port.post_offer c x p
@[simp] theorem State.posts_advanceStamp (s : State) : s.advanceStamp.posts = s.posts := State.posts_congr s.advanceStamp_ports
@[simp] theorem State.posts_owe (s : State) (t : Ticket) (kind : TicketReceipt) (p : PortId) : (s.owe t kind p).posts = s.posts :=
  State.posts_advanceStamp _
@[simp] theorem State.posts_releaseDue (s : State) (ts : List Ticket) : (s.releaseDue ts).posts = s.posts :=
  funext fun p => State.releaseDue_port Port.post Port.post_offer s ts p
@[simp] theorem State.posts_setMark (s : State) (owner : CaptureOwner) (m : Option Side) : (s.setMark owner m).posts = s.posts :=
  funext fun p => congrArg Port.post (s.port_setMark owner m p)

/-- A drawer changed in its port. -/
theorem State.posts_setDrawer {s : State} {p : PortId} {d : Drawer} (h : (s.port p).drawer = some d) (x : Drawer) :
    (s.setDrawer p x).posts = s.posts :=
  s.posts_setPort_same p _ (by simp [Port.post, h])

/-! ### Operations done in turn, or on a test -/

theorem State.posts_foldl {α : Type} {f : State → α → State} (h : ∀ (s : State) x, (f s x).posts = s.posts) (l : List α) (s : State) :
    (l.foldl f s).posts = s.posts := by
  induction l generalizing s with
  | nil => rfl
  | cons x xs ih => exact (ih _).trans (h s x)

theorem State.posts_ite {s t : State} (b : Bool) (h : t.posts = s.posts) : (if b then t else s).posts = s.posts := by
  cases b
  · rfl
  · exact h

theorem State.posts_whileRunning {f : State → State} (s : State) (h : ∀ t : State, (f t).posts = t.posts) :
    (s.whileRunning f).posts = s.posts := State.posts_ite _ (h s)

/-! ### The pool and the printer lines -/

theorem State.PoolStep.posts {s t : State} (h : s.PoolStep t) : t.posts = s.posts :=
  funext fun p => Prod.ext (h.role p) (congrArg Option.isSome (h.drawer p))

@[simp] theorem State.posts_setLock (s : State) (r : PrinterId) (l : Lock) : (s.setLock r l).posts = s.posts := (s.poolStep_setLock r l).posts
@[simp] theorem State.posts_settleLock (s : State) (r : PrinterId) : (s.settleLock r).posts = s.posts := (s.poolStep_settleLock r).posts
@[simp] theorem State.posts_releaseLocks (s : State) (p : PortId) : (s.releaseLocks p).posts = s.posts := (s.poolStep_releaseLocks p).posts
@[simp] theorem State.posts_requeue (s : State) (j : Job) : (s.requeue j).posts = s.posts := (s.poolStep_requeue j).posts
@[simp] theorem State.posts_leavePool (s : State) (j : Job) (o : JobOutcome) : (s.leavePool j o).posts = s.posts :=
  (s.poolStep_leavePool j o).posts
@[simp] theorem State.posts_cancelOne (s : State) (j : Job) : (s.cancelOne j).posts = s.posts := (s.poolStep_cancelOne j).posts
@[simp] theorem State.posts_cancelWhere (s : State) (p : Job → Bool) : (s.cancelWhere p).posts = s.posts := (s.poolStep_cancelWhere p).posts
@[simp] theorem State.posts_raisePrinter (s : State) (r : PrinterId) : (s.raisePrinter r).posts = s.posts := s.posts_raise _
@[simp] theorem State.posts_sendEnd (s : State) (r : PrinterId) : (s.sendEnd r).posts = s.posts := rfl
@[simp] theorem State.posts_sendAwaited (s : State) (r : PrinterId) (f : PrinterFrame) (job : Nat) :
    (s.sendAwaited r f job).posts = s.posts := rfl
@[simp] theorem State.posts_sendLine (s : State) (j : Job) : (s.sendLine j).posts = s.posts := rfl
@[simp] theorem State.posts_clearAwaited (s : State) (r : PrinterId) : (s.clearAwaited r).posts = s.posts := rfl
@[simp] theorem State.posts_dropOldest (s : State) : s.dropOldest.posts = s.posts :=
  (State.posts_congr (t := s.dropOldest) rfl).symm.trans s.dropOldest_eq.posts
@[simp] theorem State.posts_convertJob (s : State) (t : Ticket) (o : Owed) (j : Job) : (s.convertJob t o j).posts = s.posts :=
  State.posts_congr (s.convertJob_ports t o j)
@[simp] theorem State.posts_withdrawAtReopen (s : State) (t : Ticket) : (s.withdrawAtReopen t).posts = s.posts :=
  (s.poolStep_withdrawAtReopen t).posts

@[simp] theorem State.posts_retire (s : State) (t : Ticket) : (s.retire t).posts = s.posts :=
  (State.posts_dropOldest _).trans (State.posts_raise _ _)

@[simp] theorem State.posts_retireIfDone (s : State) (n : Nat) : (s.retireIfDone n).posts = s.posts := by
  unfold State.retireIfDone
  split
  · rfl
  · exact State.posts_ite _ (s.posts_retire _)

theorem State.posts_serveOne (s : State) (x : OwedItem) : (s.serveOne x).posts = s.posts := by
  unfold State.serveOne
  split_ifs <;> rfl

@[simp] theorem State.posts_runService (s : State) : s.runService.posts = s.posts := State.posts_foldl State.posts_serveOne _ s

@[simp] theorem State.posts_abortJob (s : State) (j : Job) : (s.abortJob j).posts = s.posts := by
  unfold State.abortJob
  dsimp only
  rw [State.posts_settleLock]
  split <;> simp

@[simp] theorem State.posts_printerFault (s : State) (r : PrinterId) : (s.printerFault r).posts = s.posts := by
  unfold State.printerFault
  split
  · rfl
  · split <;> simp

@[simp] theorem State.posts_setStatus (s : State) (r : PrinterId) (v : PrinterStatus) : (s.setStatus r v).posts = s.posts := by
  unfold State.setStatus
  dsimp only
  split_ifs <;> simp

@[simp] theorem State.posts_statusReport (s : State) (r : PrinterId) (v : PrinterReport) : (s.statusReport r v).posts = s.posts :=
  State.posts_setStatus _ r _

/-! ### Completion of a job, and the answers of a printer -/

@[simp] theorem State.posts_ticketPrinted (s : State) (n : Nat) (kind : TicketReceipt) (stamp : Nat) :
    (s.ticketPrinted n kind stamp).posts = s.posts := by
  have notice : ∀ (u : State) t, (u.oweVoidNotice t).posts = u.posts := fun u t => by
    unfold State.oweVoidNotice
    split <;> simp
  unfold State.ticketPrinted
  split
  · rfl
  · dsimp only
    rw [State.posts_retireIfDone]
    split_ifs <;> simp [notice]

@[simp] theorem State.posts_reportPrinted (s : State) (stamp : Nat) : (s.reportPrinted stamp).posts = s.posts := by
  unfold State.reportPrinted
  split
  · rfl
  · split
    · rfl
    · split_ifs <;> rfl

@[simp] theorem State.posts_sourceEffects (s : State) (j : Job) : (s.sourceEffects j).posts = s.posts := by
  unfold State.sourceEffects
  split <;> simp

@[simp] theorem State.posts_finishJob (s : State) (j : Job) : (s.finishJob j).posts = s.posts := by simp [State.finishJob]

@[simp] theorem State.posts_setStarted (s : State) (j : Job) : (s.setStarted j).posts = s.posts := by
  unfold State.setStarted
  split
  · split
    · rfl
    · split
      · rfl
      · split_ifs <;> rfl
  · split
    · rfl
    · split
      · rfl
      · split_ifs <;> rfl
  · rfl
  · rfl

@[simp] theorem State.posts_answerUsable (s : State) (r : PrinterId) (f : PrinterFrame) (accepted : Bool) :
    (s.answerUsable r f accepted).posts = s.posts := by
  unfold State.answerUsable
  split
  · rfl
  · split
    · simp [State.startPrinting]
    · unfold State.lineAccepted
      dsimp only
      split_ifs <;> simp
    · rfl

@[simp] theorem State.posts_answerReport (s : State) (r : PrinterId) (a : PrinterAnswer) : (s.answerReport r a).posts = s.posts := by
  cases a with
  | accepted => rfl
  | report v => exact s.posts_statusReport r v

@[simp] theorem State.posts_answer (s : State) (r : PrinterId) (a : PrinterAnswer) : (s.answer r a).posts = s.posts := by
  unfold State.answer
  split
  · simp
  · dsimp only
    split_ifs <;> simp

@[simp] theorem State.posts_expireAnswer (s : State) (r : PrinterId) : (s.expireAnswer r).posts = s.posts := by
  unfold State.expireAnswer
  split
  · rfl
  · dsimp only
    split_ifs <;> simp

@[simp] theorem State.posts_expireStatus (s : State) (r : PrinterId) : (s.expireStatus r).posts = s.posts := by
  unfold State.expireStatus
  split <;> simp

@[simp] theorem State.posts_arbiterTake (s : State) (r : PrinterId) : (s.arbiterTake r).posts = s.posts := by
  unfold State.arbiterTake
  split <;> rfl

/-! ### Captures and the scale channels -/

@[simp] theorem State.posts_freeSlot (s : State) (c : ChannelId) : (s.freeSlot c).posts = s.posts := by
  unfold State.freeSlot
  split
  · rfl
  · exact (State.posts_setPort_same _ _ _ (by rfl)).trans (State.posts_setMark _ _ _)

@[simp] theorem State.posts_endCapture (s : State) (c : ChannelId) (a : Answer) : (s.endCapture c a).posts = s.posts := by
  unfold State.endCapture
  split <;> simp

theorem State.posts_endCaptures (s : State) (which : Capture → Bool) {finishOne : State → ChannelId → State}
    (h : ∀ t c, (finishOne t c).posts = t.posts) : (s.endCaptures which finishOne).posts = s.posts :=
  State.endCaptures_induct (fun t => t.posts = s.posts) s which finishOne rfl fun t c _ ht _ _ => (h t c).trans ht

@[simp] theorem State.posts_completeCapture (s : State) (owner : CaptureOwner) (c : ChannelId) (r : Reading) :
    (s.completeCapture owner c r).1.posts = s.posts := by
  have fails : ∀ reason, (s.failCapture owner reason).1.posts = s.posts := fun _ => s.posts_setMark owner none
  unfold State.completeCapture
  split_ifs
  · exact fails _
  · cases owner with
    | tare plate =>
      dsimp only
      split
      · exact fails _
      · rfl
    | line n k role grade =>
      dsimp only
      split
      · rfl
      · split
        · rfl
        · split
          · exact fails _
          · rfl

@[simp] theorem State.posts_completeWaiting (s : State) (c : ChannelId) : (s.completeWaiting c).posts = s.posts := by
  unfold State.completeWaiting
  split <;> simp

@[simp] theorem State.posts_arrive (s : State) (c : ChannelId) (raw : Int) (high : Bool) : (s.arrive c raw high).posts = s.posts := by
  unfold State.arrive
  dsimp only
  split_ifs <;> simp

@[simp] theorem State.posts_headFault (s : State) (c : ChannelId) : (s.headFault c).posts = s.posts := by simp [State.headFault]

theorem State.posts_readingFrame (s : State) (c : ChannelId) (raw : Int) (status : HeadStatus) (checkHolds : Bool) :
    (if !checkHolds || !rawInRange raw || decide ((s.channel c).state = .off) then s
      else match status with
        | .ok => s.arrive c raw false
        | .overrange => s.arrive c raw true
        | .fault => s.headFault c
        | .other => s).posts = s.posts := by
  split_ifs
  · rfl
  · cases status <;> simp

@[simp] theorem State.posts_expireStale (s : State) (c : ChannelId) : (s.expireStale c).posts = s.posts := by
  unfold State.expireStale
  split <;> simp

@[simp] theorem State.posts_expireCapture (s : State) (c : ChannelId) : (s.expireCapture c).posts = s.posts := by
  unfold State.expireCapture
  split <;> simp

@[simp] theorem State.posts_requestCapture (s : State) (c : ChannelId) (owner : CaptureOwner) (mark : Option Side) (k : Packet) :
    (s.requestCapture c owner mark k).1.posts = s.posts := by
  have placed : (s.placeCapture c owner mark k).posts = s.posts :=
    (State.posts_setPort_same _ _ _ (by rfl)).trans (s.posts_setMark owner mark)
  unfold State.requestCapture
  split
  · rfl
  · split
    · exact s.posts_completeCapture owner c _
    · exact placed

/-! ### The station lines, the clock, and the part's own steps -/

@[simp] theorem State.posts_expireFrame (s : State) (p : PortId) : (s.expireFrame p).posts = s.posts := by
  unfold State.expireFrame
  split <;> simp

@[simp] theorem State.posts_clockAdvance (s : State) : s.clockAdvance.posts = s.posts :=
  State.posts_whileRunning s.advanceClock fun t => t.posts_releaseDue t.tickets

@[simp] theorem State.posts_expireHold (s : State) (n : Nat) : (s.expireHold n).posts = s.posts := by
  unfold State.expireHold
  split
  · rfl
  · split
    · rfl
    · split_ifs <;> simp

theorem State.posts_ownSteps (s : State) : s.ownSteps.posts = s.posts := by
  have stale : ∀ (u : State) c, (u.tickStale c).posts = u.posts := fun u c => by
    unfold State.tickStale
    split
    · rfl
    · exact State.posts_ite _ (u.posts_expireStale c)
  have capture : ∀ (u : State) c, (u.tickCapture c).posts = u.posts := fun u c => by
    unfold State.tickCapture
    split
    · rfl
    · exact State.posts_ite _ (u.posts_expireCapture c)
  have frame : ∀ (u : State) p, (u.tickFrame p).posts = u.posts := fun u p => by
    unfold State.tickFrame
    split
    · rfl
    · exact State.posts_ite _ (u.posts_expireFrame p)
  have answer : ∀ (u : State) r, (u.tickAnswer r).posts = u.posts := fun u r => by
    unfold State.tickAnswer
    split
    · rfl
    · exact State.posts_ite _ (u.posts_expireAnswer r)
  have status : ∀ (u : State) r, (u.tickStatus r).posts = u.posts := fun u r => by
    unfold State.tickStatus
    split
    · rfl
    · exact State.posts_ite _ (u.posts_expireStatus r)
  simp only [State.ownSteps, State.posts_foldl State.posts_handover, State.posts_foldl State.posts_arbiterTake, State.posts_runService,
    State.posts_releaseDue, State.posts_foldl status, State.posts_foldl answer, State.posts_foldl frame, State.posts_foldl capture,
    State.posts_foldl stale]

theorem State.posts_idle (s : State) : s.idle.posts = s.posts := by
  refine (State.posts_whileRunning _ State.posts_ownSteps).trans ?_
  exact State.posts_ite _ (State.posts_clockAdvance _)

/-! ### Restarts -/

@[simp] theorem State.posts_volatileStart (s : State) : s.volatileStart.posts = s.posts := by
  funext p; simp [State.posts, State.port, State.volatileStart]

/-- A warm restart keeps the posts, and a cold start gives those of Table 9-13. -/
theorem State.posts_restart (s : State) : s.restart.posts = s.posts ∨ s.restart.posts = State.reset.posts := by
  unfold State.restart
  split_ifs
  · exact .inl (by simp [State.warmStart])
  · exact .inr ((State.posts_volatileStart _).trans (State.posts_congr rfl))

end Sys2Proof.Machine
end

section
/-! SUPPORT. Every command but CONFIGURE PORT and SYSTEM RESET keeps the role of each port and the presence of its drawer. -/

namespace Sys2Proof.Machine

/-! ### Requests in general (R32) -/

theorem State.posts_withTicket (s : State) (inRange : Bool) (n : Nat) (allowed : TicketState → Bool) (run : Ticket → Effect)
    (h : ∀ t, (run t).1.posts = s.posts) : (s.withTicket inRange n allowed run).1.posts = s.posts :=
  s.withTicket_induct (P := fun e => e.1.posts = s.posts) _ _ _ _ (fun _ => rfl) fun t _ => h t

theorem State.posts_withLine (s : State) (inRange : Bool) (n k : Nat) (allowed : TicketState → Bool) (run : Ticket → Line → Effect)
    (h : ∀ t ln, (run t ln).1.posts = s.posts) : (s.withLine inRange n k allowed run).1.posts = s.posts :=
  s.withLine_induct (P := fun e => e.1.posts = s.posts) _ _ _ _ _ (fun _ => rfl) fun t ln _ => h t ln

/-! ### Captures, scales and tares (chapters 1 and 3) -/

theorem posts_capture (k : Packet) (a : CaptureArgs) (s : State) : (capture k a s).1.posts = s.posts := by
  unfold capture
  split
  · refine s.posts_withLine _ _ _ _ _ fun t ln => ?_
    split
    · rfl
    · exact s.posts_requestCapture _ _ _ k
  · rfl

theorem posts_storeTare (k : Packet) (a : PlateByteArgs) (s : State) : (storeTare k a s).1.posts = s.posts := by
  unfold storeTare
  split
  · dsimp only
    split_ifs
    · rfl
    · exact s.posts_requestCapture _ _ _ k
  · rfl

theorem posts_dropTare (plate : Text) (s : State) : (dropTare plate s).1.posts = s.posts := by
  unfold dropTare
  split_ifs
  · split <;> rfl
  · rfl

theorem posts_readTare (a : PlateByteArgs) (s : State) : (readTare a s).1.posts = s.posts := by
  unfold readTare
  split_ifs
  · rfl
  · rfl
  · rfl
  · split <;> rfl

theorem posts_useStoredTare (a : TicketLineArgs) (s : State) : (useStoredTare a s).1.posts = s.posts := by
  refine s.posts_withLine _ _ _ _ _ fun t ln => ?_
  split
  · rfl
  · split
    · rfl
    · split_ifs <;> rfl

theorem posts_configureScale (a : ConfigureScaleArgs) (s : State) : (configureScale a s).1.posts = s.posts := by
  unfold configureScale
  split
  · split_ifs
    · rfl
    · rfl
    · exact s.posts_changeChannel _ _
  · rfl

theorem posts_zeroScale (channel : Nat) (s : State) : (zeroScale channel s).1.posts = s.posts := by
  unfold zeroScale
  split
  · rfl
  · dsimp only
    split
    · rfl
    split
    · rfl
    split
    · rfl
    split
    · rfl
    split
    · rfl
    split
    · rfl
    · exact s.posts_changeChannel _ _

theorem posts_readScale (channel : Nat) (s : State) : (readScale channel s).1.posts = s.posts := by
  unfold readScale
  split <;> rfl

/-! ### Tickets (chapter 2) -/

theorem posts_openTicket (port : PortId) (a : OpenTicketArgs) (s : State) : (openTicket port a s).1.posts = s.posts := by
  unfold openTicket
  split
  · rfl
  · dsimp only
    split_ifs
    · rfl
    · rfl
    · rfl
    · exact State.posts_raise _ _

theorem posts_addLine (a : AddLineArgs) (s : State) : (addLine a s).1.posts = s.posts := by
  refine s.posts_withTicket _ _ _ _ fun t => ?_
  split_ifs <;> rfl

theorem posts_removeLine (a : TicketLineArgs) (s : State) : (removeLine a s).1.posts = s.posts := by
  have removed : ∀ (u : State) n k, (u.removeLine n k).posts = u.posts := fun u n k => by
    unfold State.removeLine
    split <;> rfl
  refine s.posts_withLine _ _ _ _ _ fun t ln => (removed _ _ _).trans ?_
  exact State.posts_ite _ (s.posts_endCaptures _ fun u c => u.posts_endCapture c _)

theorem posts_setDeduction (a : SetDeductionArgs) (s : State) : (setDeduction a s).1.posts = s.posts :=
  s.posts_withLine _ _ _ _ _ fun _ _ => rfl

theorem posts_keyWeight (a : KeyWeightArgs) (s : State) : (keyWeight a s).1.posts = s.posts := by
  unfold keyWeight
  split
  · rfl
  · refine s.posts_withLine _ _ _ _ _ fun t ln => ?_
    split_ifs <;> rfl

theorem posts_acceptMargin (n : Nat) (s : State) : (acceptMargin n s).1.posts = s.posts := s.posts_withTicket _ _ _ _ fun _ => rfl

theorem State.posts_voidTicket (s : State) (n : Nat) (port : PortId) (reason : Nat) : (s.voidTicket n port reason).posts = s.posts := by
  have cancelled : (s.cancelTicketCaptures n).posts = s.posts := s.posts_endCaptures _ fun u c => u.posts_endCapture c _
  have withdrawn : ∀ (u : State) t, (u.withdrawAtVoid t).posts = u.posts := fun u t => by
    unfold State.withdrawAtVoid
    split
    · rfl
    · split
      · rfl
      · split_ifs <;> simp
  have noticed : ∀ (u : State), (u.oweNoticeAtVoid n port).posts = u.posts := fun u => by
    unfold State.oweNoticeAtVoid
    split
    · rfl
    · exact State.posts_ite _ (u.posts_owe _ _ _)
  unfold State.voidTicket
  dsimp only
  split
  · exact cancelled
  · rw [State.posts_retireIfDone, noticed, withdrawn, State.posts_moveTicket]
    exact cancelled

theorem posts_voidTicket (port : PortId) (a : TicketByteArgs) (s : State) : (voidTicket port a s).1.posts = s.posts := by
  refine s.posts_withTicket _ _ _ _ fun t => ?_
  split_ifs
  · rfl
  · exact s.posts_voidTicket _ _ _

theorem posts_reopenTicket (n : Nat) (s : State) : (reopenTicket n s).1.posts = s.posts := by
  refine s.posts_withTicket _ _ _ _ fun t => ?_
  split_ifs <;> simp

theorem posts_readTicket (a : TicketByteArgs) (s : State) : (readTicket a s).1.posts = s.posts := by
  refine s.posts_withTicket _ _ _ _ fun t => ?_
  split_ifs
  · rfl
  · split <;> rfl

theorem posts_listTickets (place : Nat) (s : State) : (listTickets place s).1.posts = s.posts := by
  unfold listTickets
  split_ifs <;> rfl

/-! ### Prices and settlement (chapters 4 and 5) -/

theorem posts_editRule (a : EditRuleArgs) (s : State) : (editRule a s).1.posts = s.posts := by
  unfold editRule
  split <;> rfl

theorem posts_commitPrices (x : Unit) (s : State) : (commitPrices x s).1.posts = s.posts := by
  unfold commitPrices
  split
  · rfl
  · exact State.posts_raise _ _

theorem posts_discardPrices (x : Unit) (s : State) : (discardPrices x s).1.posts = s.posts := by
  unfold discardPrices
  split <;> rfl

theorem posts_readRule (a : TwoByteArgs) (s : State) : (readRule a s).1.posts = s.posts := by
  unfold readRule
  split
  · split <;> rfl
  · rfl

theorem posts_closeTicket (port : PortId) (a : TicketByteArgs) (s : State) : (closeTicket port a s).1.posts = s.posts := by
  refine s.posts_withTicket _ _ _ _ fun t => ?_
  split
  · rfl
  · dsimp only
    split_ifs <;> simp

/-! ### Payout and the day (chapters 6 and 8) -/

theorem posts_setClock (time : ClockTime) (s : State) : (setClock time s).1.posts = s.posts := by
  unfold setClock
  split_ifs
  · exact State.posts_releaseDue { s with clock := time } _
  · rfl

theorem posts_releaseHold (n : Nat) (s : State) : (releaseHold n s).1.posts = s.posts :=
  s.posts_withTicket _ _ _ _ fun _ => s.posts_moveTicket _

theorem posts_floatDrawer (port : PortId) (a : DrawerArgs) (s : State) : (floatDrawer port a s).1.posts = s.posts := by
  unfold floatDrawer
  split
  · split_ifs
    · rfl
    · split
      · rfl
      · rename_i hd
        split_ifs
        · rfl
        · exact State.posts_setDrawer hd _
  · rfl

theorem posts_liftDrawer (a : DrawerArgs) (s : State) : (liftDrawer a s).1.posts = s.posts := by
  unfold liftDrawer
  split
  · split
    · rfl
    · rename_i hd
      split_ifs
      · rfl
      · exact State.posts_setDrawer hd _
  · rfl

theorem posts_readDrawer (port : PortId) (named : Nat) (s : State) : (readDrawer port named s).1.posts = s.posts := by
  unfold readDrawer
  split
  · rfl
  · split_ifs
    · rfl
    · split <;> rfl

theorem State.posts_payTicket (s : State) (t : Ticket) (port : PortId) (method : PayMethod) (amount : Nat) (rounding : Int) (hit : Bool) :
    (s.payTicket t port method amount rounding hit).posts = s.posts := by
  have owed : ∀ (u : State) x, (u.owePayout x port).posts = u.posts := fun u x => by
    unfold State.owePayout
    dsimp only
    rw [State.posts_advanceStamp]
    split
    · rfl
    · split <;> simp
  exact (owed _ _).trans (State.posts_moveTicket _ _)

theorem State.posts_payCash (s : State) (port : PortId) (t : Ticket) (total : Nat) : (s.payCash port t total).1.posts = s.posts := by
  unfold State.payCash
  split
  · rfl
  · rename_i hd
    dsimp only
    split_ifs
    · rfl
    · rfl
    · exact (State.posts_payTicket _ _ _ _ _ _ _).trans (State.posts_setDrawer hd _)

theorem posts_pay (port : PortId) (a : TicketByteArgs) (s : State) : (pay port a s).1.posts = s.posts := by
  unfold pay
  split
  · split
    · rfl
    · split_ifs
      · rfl
      · rfl
      · split
        · exact s.posts_payCash _ _ _
        · exact s.posts_payTicket _ _ _ _ _ _
  · rfl

theorem posts_readTotals (a : TwoByteArgs) (s : State) : (readTotals a s).1.posts = s.posts := by
  unfold readTotals
  split
  · rfl
  · split_ifs
    · rfl
    · split
      · rfl
      · split <;> rfl

/-- END DAY sets each paid today to 0, and leaves every drawer where it is (R169). -/
theorem posts_endDay (port : PortId) (printer : Nat) (s : State) : (endDay port printer s).1.posts = s.posts := by
  unfold endDay
  split
  · rfl
  · split_ifs
    · rfl
    · refine (State.posts_advanceStamp _).trans (funext fun p => ?_)
      simp [State.posts, State.port]

/-! ### Printers and copies (chapter 7) -/

theorem posts_lockPrinter (port : PortId) (printer : Nat) (s : State) : (lockPrinter port printer s).1.posts = s.posts := by
  unfold lockPrinter
  split
  · rfl
  · split
    · rfl
    · rfl
    · split
      · exact s.posts_setLock _ _
      · split_ifs
        · exact s.posts_setLock _ _
        · split <;> simp

theorem posts_unlockPrinter (printer : Nat) (s : State) : (unlockPrinter printer s).1.posts = s.posts := by
  unfold unlockPrinter
  split
  · rfl
  · split <;> simp

theorem posts_cancelJob (port : PortId) (id : Nat) (s : State) : (cancelJob port id s).1.posts = s.posts := by
  unfold cancelJob
  split_ifs
  · rfl
  · split
    · rfl
    · split
      · rfl
      · split
        · rfl
        · rfl
        · split <;> simp

theorem posts_printCopy (port : PortId) (a : TicketByteArgs) (s : State) : (printCopy port a s).1.posts = s.posts := by
  unfold printCopy
  split
  · split
    · rfl
    · split_ifs <;> rfl
  · rfl

theorem posts_setHeader (a : SetHeaderArgs) (s : State) : (setHeader a s).1.posts = s.posts := by
  unfold setHeader
  split
  · split_ifs <;> rfl
  · rfl

theorem posts_readPrinter (printer : Nat) (s : State) : (readPrinter printer s).1.posts = s.posts := by
  unfold readPrinter
  split <;> rfl

/-! ### The part as a whole (chapters 9, 10 and 11) -/

theorem posts_setOption (a : SetOptionArgs) (s : State) : (setOption a s).1.posts = s.posts := by
  unfold setOption
  split
  · rfl
  · split <;> rfl

theorem posts_portReset (port : PortId) (x : Unit) (s : State) : (portReset port x s).1.posts = s.posts := by
  have abandoned : (s.abandonCapture port).posts = s.posts := s.posts_endCaptures _ fun u c => u.posts_freeSlot c
  have cleared : ∀ u : State, (u.setPort port (u.port port).cleared).posts = u.posts := fun u => u.posts_setPort_same port _ rfl
  exact (cleared _).trans ((State.posts_releaseLocks _ port).trans abandoned)

theorem posts_subscribe (port : PortId) (set : Nat) (s : State) : (subscribe port set s).1.posts = s.posts := by
  unfold subscribe
  split_ifs
  · rfl
  · exact s.posts_setPort_same port _ rfl

theorem posts_releaseAttention (port : PortId) (value : Nat) (s : State) : (releaseAttention port value s).1.posts = s.posts := by
  unfold releaseAttention
  split
  · rfl
  · exact s.posts_setPort_same port _ rfl

theorem posts_readAttention (port : PortId) (x : Unit) (s : State) : (readAttention port x s).1.posts = s.posts :=
  s.posts_setPort_same port { s.port port with attention := (s.port port).attention.drop 4 } rfl

theorem posts_clearOverflow (port : PortId) (x : Unit) (s : State) : (clearOverflow port x s).1.posts = s.posts :=
  s.posts_setPort_same port { s.port port with overflow := false } rfl

end Sys2Proof.Machine
end

section
/-! One SUPERVISOR, and a drawer at exactly the PAYOUT ports (R114, R115, R183 to R185): the roles that CONFIGURE PORT writes, and every
step. -/

namespace Sys2Proof.Machine

/-! ### The invariant said of the posts -/

/-- The ports that hold a drawer are those of the role PAYOUT (R114). -/
def DrawersStand (f : PortId → Role × Bool) : Prop := ∀ p, (f p).2 = true ↔ (f p).1 = .payout

/-- `State.rolesStand`, said of the posts. -/
def PostsStand (f : PortId → Role × Bool) : Prop :=
  (∃ p, (f p).1 = .supervisor ∧ ∀ q, (f q).1 = .supervisor → q = p) ∧ DrawersStand f

/-- The invariant reads the posts alone. -/
theorem State.rolesStand_iff (s : State) : s.rolesStand ↔ PostsStand s.posts := Iff.rfl

theorem State.rolesStand_of_posts {s t : State} (h : t.posts = s.posts) (hs : s.rolesStand) : t.rolesStand := by
  rw [State.rolesStand_iff, h]
  exact hs

/-- The post that a role is written with: a drawer for PAYOUT alone (R115). -/
def Role.post (role : Role) : Role × Bool := (role, decide (role = .payout))

theorem DrawersStand.update {f : PortId → Role × Bool} (h : DrawersStand f) (p : PortId) (role : Role) :
    DrawersStand (Function.update f p role.post) := by
  intro q
  rw [Function.update_apply]
  split_ifs
  · exact decide_eq_true_iff
  · exact h q

/-- Another port's role becomes one that is not SUPERVISOR. -/
theorem PostsStand.update {f : PortId → Role × Bool} (h : PostsStand f) {p : PortId} {role : Role} (hp : (f p).1 ≠ .supervisor)
    (hr : role ≠ .supervisor) : PostsStand (Function.update f p role.post) := by
  obtain ⟨⟨s, hs, one⟩, drawers⟩ := h
  have sp : s ≠ p := fun e => hp (e ▸ hs)
  refine ⟨⟨s, by rw [Function.update_of_ne sp]; exact hs, fun q hq => ?_⟩, drawers.update p role⟩
  rw [Function.update_apply] at hq
  split_ifs at hq
  · exact absurd hq hr
  · exact one q hq

/-- The SUPERVISOR's port takes that role again. -/
theorem PostsStand.update_supervisor {f : PortId → Role × Bool} (h : PostsStand f) {p : PortId} (hp : (f p).1 = .supervisor) :
    PostsStand (Function.update f p (Role.post .supervisor)) := by
  obtain ⟨⟨s, -, one⟩, drawers⟩ := h
  refine ⟨⟨p, by rw [Function.update_self]; rfl, fun q hq => ?_⟩, drawers.update p .supervisor⟩
  rw [Function.update_apply] at hq
  split_ifs at hq with e
  · exact e
  · exact (one q hq).trans (one p hp).symm

/-- A handover of the role SUPERVISOR from one port to another (R185). -/
theorem PostsStand.handover {f : PortId → Role × Bool} (h : PostsStand f) {p x : PortId} {role : Role} (hp : (f p).1 = .supervisor)
    (hx : x ≠ p) (hr : role ≠ .supervisor) :
    PostsStand (Function.update (Function.update f x (Role.post .supervisor)) p role.post) := by
  obtain ⟨⟨s, -, one⟩, drawers⟩ := h
  refine ⟨⟨x, by rw [Function.update_of_ne hx, Function.update_self]; rfl, fun q hq => ?_⟩,
    (drawers.update x .supervisor).update p role⟩
  rw [Function.update_apply] at hq
  split_ifs at hq with e
  · exact absurd hq hr
  · rw [Function.update_apply] at hq
    split_ifs at hq with e'
    · exact e'
    · exact absurd ((one q hq).trans (one p hp).symm) e

/-! ### CONFIGURE PORT (R115, R184, R185) -/

/-- A role written gives its port the role's post (R115). -/
theorem Port.post_withRole {q : Port} (h : q.drawer.isSome = true ↔ q.role = .payout) (role : Role) : (q.withRole role).post = role.post := by
  refine Prod.ext rfl ?_
  change (q.drawerFor role).isSome = decide (role = .payout)
  unfold Port.drawerFor
  split_ifs with hr hq
  · rw [h.2 hq, decide_eq_true hr]
  · rw [decide_eq_true hr]; rfl
  · rw [decide_eq_false hr]; rfl

/-- A former role is not SUPERVISOR (R184, check 1). -/
theorem formerRole?_ne_supervisor {v : Nat} : formerRole? v ≠ some (some .supervisor) := by
  match v with
  | 0 | 1 | 2 | 3 | 4 => decide
  | v + 5 => exact fun h => by cases h

theorem ConfigurePortArgs.former_ne_supervisor {a : ConfigurePortArgs} {x : PortChange} (h : a.change? = some x) :
    x.former ≠ some .supervisor := by
  unfold ConfigurePortArgs.change? at h
  split at h
  · rename_i hf
    cases h
    exact fun e => formerRole?_ne_supervisor (hf.trans (congrArg some e))
  · cases h

/-- The posts that CONFIGURE PORT leaves (R185). -/
theorem State.posts_configurePort {s : State} (h : DrawersStand s.posts) (requester : PortId) (x : PortChange) :
    (s.configurePort requester x).posts =
      match x.former with
      | none => Function.update s.posts x.port x.role.post
      | some role =>
        if x.port ≠ requester ∧ x.role = .supervisor then
          Function.update (Function.update s.posts x.port x.role.post) requester role.post
        else Function.update s.posts x.port x.role.post := by
  have written : ∀ (u : State) p (role : Role) (q : Port), DrawersStand u.posts → q.post = ((u.port p).withRole role).post →
      (u.setPort p q).posts = Function.update u.posts p role.post := fun u p role q hu hq => by
    rw [State.posts_setPort, hq, Port.post_withRole (hu p)]
  have named := written s x.port x.role { (s.port x.port).withRole x.role with defaultPrinter := x.printer } h rfl
  unfold State.configurePort
  cases x.former with
  | none => exact named
  | some role =>
    dsimp only
    split_ifs
    · rw [State.posts_releaseLocks, written _ requester role _ (named ▸ h.update x.port x.role) rfl, named]
    · exact named

/-- A CONFIGURE PORT of the SUPERVISOR that passes the checks of R184 leaves one SUPERVISOR. -/
theorem State.rolesStand_configurePort {s : State} (hs : s.rolesStand) {requester : PortId} {x : PortChange}
    (hr : (s.port requester).role = .supervisor) (hf : x.former ≠ some .supervisor) (hc : s.configureCheck requester x = none) :
    (s.configurePort requester x).rolesStand := by
  rw [State.rolesStand_iff] at hs ⊢
  rw [State.posts_configurePort hs.2]
  unfold State.configureCheck at hc
  split_ifs at hc with own taken full
  by_cases hx : x.port = requester
  · have role : x.role = .supervisor := not_not.1 fun e => own ⟨hx, e⟩
    have named : PostsStand (Function.update s.posts x.port x.role.post) := by
      rw [role]
      exact hs.update_supervisor (hx ▸ hr)
    split
    · exact named
    · rw [if_neg fun e => e.1 hx]
      exact named
  · have other : (s.posts x.port).1 ≠ .supervisor := fun e => by
      obtain ⟨⟨p, -, one⟩, -⟩ := hs
      exact hx ((one x.port e).trans (one requester hr).symm)
    by_cases role : x.role = .supervisor
    · split
      · rename_i hn
        exact absurd ⟨hx, role, by rw [hn]; rfl⟩ taken
      · rename_i former hn
        rw [if_pos ⟨hx, role⟩, role]
        exact hs.handover hr hx fun e => hf (hn.trans (congrArg some e))
    · have named := hs.update other role
      split
      · exact named
      · rw [if_neg fun e => role e.2]
        exact named

theorem rolesStand_configurePort (requester : PortId) (a : ConfigurePortArgs) {s : State}
    (hr : supervisorOnly (s.port requester).role = true) (hs : s.rolesStand) : (configurePort requester a s).1.rolesStand := by
  unfold configurePort
  split
  · exact hs
  · rename_i x hx
    split
    · exact hs
    · rename_i hc
      exact State.rolesStand_configurePort hs (of_decide_eq_true hr) (ConfigurePortArgs.former_ne_supervisor hx) hc

/-! ### Restarts -/

/-- The part right after reset has its roles and drawers as Table 9-13 gives them. -/
theorem State.rolesStand_reset : State.reset.rolesStand := by
  unfold State.rolesStand
  decide

theorem State.rolesStand_restart {s : State} (hs : s.rolesStand) : s.restart.rolesStand := by
  rcases s.posts_restart with h | h
  · exact State.rolesStand_of_posts h hs
  · exact State.rolesStand_of_posts h State.rolesStand_reset

/-! ### Packets and steps -/

/-- A packet taken keeps the invariant when its command's effect does at a port whose role it permits (Table 9-10). -/
theorem takeCommand_rolesStand {α : Type} {bypass : Bool} {allowed : Role → Bool} {parse : List Byte → Option α}
    {run : α → State → Effect} {k : Packet} {s t : State}
    (h : ∀ a (u : State), allowed (u.port k.port).role = true → u.rolesStand → (run a u).1.rolesStand)
    (ht : takeCommand bypass allowed parse run k s = .next t) (hs : s.rolesStand) : t.rolesStand := by
  cases ht
  have hunt : (s.hunt k.port).rolesStand := State.rolesStand_of_posts (s.posts_hunt _) hs
  have reply : ∀ (u : State) a, u.rolesStand → (u.reply k.port k.tag a).rolesStand :=
    fun u a => State.rolesStand_of_posts (u.posts_reply _ _ _)
  unfold State.whileRunning
  dsimp only
  split_ifs
  · exact hunt
  · exact hunt
  · unfold State.passPacket
    split
    · exact reply _ _ hunt
    split
    · exact reply _ _ hunt
    split
    · rename_i a _ role
      have effect := h a (s.hunt k.port) role hunt
      split
      · rename_i v answer he
        rw [he] at effect
        exact reply _ _ effect
      · rename_i v he
        rw [he] at effect
        exact effect
    · exact reply _ _ hunt
  · exact hs

/-- A packet whose command's effect keeps the posts. -/
theorem takeCommand_rolesStand_of_posts {α : Type} {bypass : Bool} {allowed : Role → Bool} {parse : List Byte → Option α}
    {run : α → State → Effect} {k : Packet} {s t : State} (h : ∀ a (u : State), (run a u).1.posts = u.posts)
    (ht : takeCommand bypass allowed parse run k s = .next t) (hs : s.rolesStand) : t.rolesStand :=
  takeCommand_rolesStand (fun a u _ => State.rolesStand_of_posts (h a u)) ht hs

/-- A state of the same posts, as the outcome of a row. -/
theorem rolesStand_of_next {s t u : State} (h : u.posts = s.posts) (e : (Host.Outcome.next u : Result) = .next t) (hs : s.rolesStand) :
    t.rolesStand := by
  cases e
  exact State.rolesStand_of_posts h hs

theorem takeUnknown_rolesStand {k : Packet} {s t : State} (h : takeUnknown k s = .next t) (hs : s.rolesStand) : t.rolesStand := by
  refine rolesStand_of_next (State.posts_whileRunning s fun u => ?_) h hs
  split_ifs
  · exact u.posts_hunt _
  · exact u.posts_hunt _
  · unfold State.answerUnknown
    split <;> simp

/-- Every packet that a receiver has taken. -/
theorem takePacket_rolesStand {i : Instr} {s t : State} (h : takePacket i s = .next t) (hs : s.rolesStand) : t.rolesStand := by
  cases i with
  | configurePort k => exact takeCommand_rolesStand (fun a _ => rolesStand_configurePort k.port a) h hs
  | systemReset k => exact takeCommand_rolesStand (run := systemReset) (fun _ _ _ => State.rolesStand_restart) h hs
  | readStatus k => exact takeCommand_rolesStand_of_posts (run := readStatus k.port) (fun _ _ => rfl) h hs
  | portReset k => exact takeCommand_rolesStand_of_posts (posts_portReset k.port) h hs
  | setOption k => exact takeCommand_rolesStand_of_posts posts_setOption h hs
  | clearFault k => exact takeCommand_rolesStand_of_posts (run := clearFault) (fun _ _ => rfl) h hs
  | configureScale k => exact takeCommand_rolesStand_of_posts posts_configureScale h hs
  | zero k => exact takeCommand_rolesStand_of_posts posts_zeroScale h hs
  | readScale k => exact takeCommand_rolesStand_of_posts posts_readScale h hs
  | openTicket k => exact takeCommand_rolesStand_of_posts (posts_openTicket k.port) h hs
  | addLine k => exact takeCommand_rolesStand_of_posts posts_addLine h hs
  | removeLine k => exact takeCommand_rolesStand_of_posts posts_removeLine h hs
  | setDeduction k => exact takeCommand_rolesStand_of_posts posts_setDeduction h hs
  | keyWeight k => exact takeCommand_rolesStand_of_posts posts_keyWeight h hs
  | acceptMargin k => exact takeCommand_rolesStand_of_posts posts_acceptMargin h hs
  | capture k => exact takeCommand_rolesStand_of_posts (posts_capture k) h hs
  | voidTicket k => exact takeCommand_rolesStand_of_posts (posts_voidTicket k.port) h hs
  | reopenTicket k => exact takeCommand_rolesStand_of_posts posts_reopenTicket h hs
  | readTicket k => exact takeCommand_rolesStand_of_posts posts_readTicket h hs
  | listTickets k => exact takeCommand_rolesStand_of_posts posts_listTickets h hs
  | storeTare k => exact takeCommand_rolesStand_of_posts (posts_storeTare k) h hs
  | dropTare k => exact takeCommand_rolesStand_of_posts posts_dropTare h hs
  | readTare k => exact takeCommand_rolesStand_of_posts posts_readTare h hs
  | useStoredTare k => exact takeCommand_rolesStand_of_posts posts_useStoredTare h hs
  | editRule k => exact takeCommand_rolesStand_of_posts posts_editRule h hs
  | commitPrices k => exact takeCommand_rolesStand_of_posts posts_commitPrices h hs
  | discardPrices k => exact takeCommand_rolesStand_of_posts posts_discardPrices h hs
  | readRule k => exact takeCommand_rolesStand_of_posts posts_readRule h hs
  | closeTicket k => exact takeCommand_rolesStand_of_posts (posts_closeTicket k.port) h hs
  | setClock k => exact takeCommand_rolesStand_of_posts posts_setClock h hs
  | releaseHold k => exact takeCommand_rolesStand_of_posts posts_releaseHold h hs
  | float k => exact takeCommand_rolesStand_of_posts (posts_floatDrawer k.port) h hs
  | lift k => exact takeCommand_rolesStand_of_posts posts_liftDrawer h hs
  | readDrawer k => exact takeCommand_rolesStand_of_posts (posts_readDrawer k.port) h hs
  | pay k => exact takeCommand_rolesStand_of_posts (posts_pay k.port) h hs
  | lockPrinter k => exact takeCommand_rolesStand_of_posts (posts_lockPrinter k.port) h hs
  | unlockPrinter k => exact takeCommand_rolesStand_of_posts posts_unlockPrinter h hs
  | cancelJob k => exact takeCommand_rolesStand_of_posts (posts_cancelJob k.port) h hs
  | printCopy k => exact takeCommand_rolesStand_of_posts (posts_printCopy k.port) h hs
  | setHeader k => exact takeCommand_rolesStand_of_posts posts_setHeader h hs
  | readPrinter k => exact takeCommand_rolesStand_of_posts posts_readPrinter h hs
  | readTotals k => exact takeCommand_rolesStand_of_posts posts_readTotals h hs
  | endDay k => exact takeCommand_rolesStand_of_posts (posts_endDay k.port) h hs
  | subscribe k => exact takeCommand_rolesStand_of_posts (posts_subscribe k.port) h hs
  | releaseAttention k => exact takeCommand_rolesStand_of_posts (posts_releaseAttention k.port) h hs
  | readAttention k => exact takeCommand_rolesStand_of_posts (posts_readAttention k.port) h hs
  | clearOverflow k => exact takeCommand_rolesStand_of_posts (posts_clearOverflow k.port) h hs
  | unknownCommand k code => exact takeUnknown_rolesStand h hs
  | discardedPacket | frameAbandoned | interByteTimeout | frameSent | attentionHandover | readingFrame | staleExpiry
  | captureTimeout | printerStatusFrame | printerAnswer | answerTimerExpiry | statusTimerExpiry | arbiterTake
  | owedReceiptService | clockAdvance | holdExpiry | powerUp | mainSupplyFail | resetLineAssert | resetLineRelease
  | startByte | batteryFailure => cases h; exact hs

theorem takeBody_rolesStand {p : PortId} {body : List Byte} {s t : State} (h : takeBody p body s = .next t) (hs : s.rolesStand) :
    t.rolesStand := by
  have hunt : (s.whileRunning fun s => s.hunt p).posts = s.posts := State.posts_whileRunning s fun u => u.posts_hunt p
  unfold takeBody at h
  split at h
  · exact rolesStand_of_next hunt h hs
  · split at h
    · exact rolesStand_of_next hunt h hs
    · exact takePacket_rolesStand h hs

theorem takeStartByte_rolesStand {p : PortId} {s t : State} (h : takeStartByte p s = .next t) (hs : s.rolesStand) : t.rolesStand := by
  unfold takeStartByte at h
  dsimp only at h
  split at h
  · exact rolesStand_of_next (s.posts_setReceiver p _) h hs
  · split at h
    · exact rolesStand_of_next (s.posts_setReceiver p _) h hs
    · exact rolesStand_of_next (s.posts_hunt p) h hs
    · exact takeBody_rolesStand h hs

/-- Every row. -/
theorem exec_rolesStand {i : Instr} {s t : State} (h : exec i s = .next t) (hs : s.rolesStand) : t.rolesStand := by
  cases i with
  | unknownCommand k code => exact takePacket_rolesStand h hs
  | discardedPacket p body => exact takeBody_rolesStand h hs
  | frameAbandoned p cause => exact rolesStand_of_next (State.posts_whileRunning s fun u => u.posts_hunt p) h hs
  | interByteTimeout p => exact rolesStand_of_next (State.posts_whileRunning s fun u => u.posts_expireFrame p) h hs
  | frameSent p => exact rolesStand_of_next (State.posts_whileRunning s fun u => u.posts_frameSent p) h hs
  | attentionHandover p => exact rolesStand_of_next (State.posts_whileRunning s fun u => u.posts_handover p) h hs
  | readingFrame c raw status ok =>
    exact rolesStand_of_next (State.posts_whileRunning s fun u => u.posts_readingFrame c raw status ok) h hs
  | staleExpiry c => exact rolesStand_of_next (State.posts_whileRunning s fun u => u.posts_expireStale c) h hs
  | captureTimeout c => exact rolesStand_of_next (State.posts_whileRunning s fun u => u.posts_expireCapture c) h hs
  | printerStatusFrame r v ok =>
    exact rolesStand_of_next (State.posts_whileRunning s fun u => State.posts_ite ok (u.posts_statusReport r v)) h hs
  | printerAnswer r a ok => exact rolesStand_of_next (State.posts_whileRunning s fun u => State.posts_ite ok (u.posts_answer r a)) h hs
  | answerTimerExpiry r => exact rolesStand_of_next (State.posts_whileRunning s fun u => u.posts_expireAnswer r) h hs
  | statusTimerExpiry r => exact rolesStand_of_next (State.posts_whileRunning s fun u => u.posts_expireStatus r) h hs
  | arbiterTake r => exact rolesStand_of_next (State.posts_whileRunning s fun u => u.posts_arbiterTake r) h hs
  | owedReceiptService => exact rolesStand_of_next (State.posts_whileRunning s State.posts_runService) h hs
  | clockAdvance => exact rolesStand_of_next s.posts_clockAdvance h hs
  | holdExpiry n => exact rolesStand_of_next (State.posts_whileRunning s fun u => u.posts_expireHold n) h hs
  | powerUp =>
    have supplied : ({ s with mainSupply := true } : State).rolesStand := hs
    cases h
    dsimp only
    split
    · exact State.rolesStand_restart supplied
    · exact State.rolesStand_of_posts (State.posts_volatileStart _) supplied
  | mainSupplyFail => exact rolesStand_of_next (State.posts_volatileStart { s with mainSupply := false }) h hs
  | resetLineAssert => exact rolesStand_of_next (u := { s with resetHigh := false }) rfl h hs
  | resetLineRelease =>
    have released : ({ s with resetHigh := true } : State).rolesStand := hs
    cases h
    dsimp only
    split
    · exact State.rolesStand_restart released
    · exact released
  | startByte p =>
    change (if s.running then takeStartByte p s else .next s) = .next t at h
    split at h
    · exact takeStartByte_rolesStand h hs
    · exact rolesStand_of_next rfl h hs
  | batteryFailure =>
    refine rolesStand_of_next (s := s) ?_ h hs
    split <;> rfl
  | readStatus | portReset | configurePort | setOption | clearFault | systemReset | configureScale | zero | readScale
  | openTicket | addLine | removeLine | setDeduction | keyWeight | acceptMargin | capture | voidTicket | reopenTicket
  | readTicket | listTickets | storeTare | dropTare | readTare | useStoredTare | editRule | commitPrices | discardPrices
  | readRule | closeTicket | setClock | releaseHold | float | lift | readDrawer | pay | lockPrinter | unlockPrinter
  | cancelJob | printCopy | setHeader | readPrinter | readTotals | endDay | subscribe | releaseAttention | readAttention
  | clearOverflow =>
    exact takePacket_rolesStand ((exec_eq_takePacket rfl (fun _ _ => Instr.noConfusion) s).symm.trans h) hs

/-- Settles O55: only CONFIGURE PORT and a cold start write a role, and each leaves one SUPERVISOR and the drawers in their places. -/
theorem rolesKept : Obligations.RolesKept := by
  intro s t hs h
  unfold step at h
  split at h
  · exact rolesStand_of_next s.posts_idle h hs
  · exact exec_rolesStand h hs

end Sys2Proof.Machine
end

section
/-! The cash amount (R121), FLOAT and LIFT (R116, R117), and the refusals of PAY (R120, R121). -/

namespace Sys2Proof.Machine

/-! ### The cash amount (R121) -/

/-- The cash rounding lies in −(u div 2) to (u − 1) div 2. -/
theorem cashRounding_bounds {u : Nat} (t : Nat) (hu : 0 < u) :
    -((u / 2 : Nat) : Int) ≤ cashRounding u t ∧ cashRounding u t ≤ (((u - 1) / 2 : Nat) : Int) := by
  have whole := Nat.div_add_mod' (t + (u - 1) / 2) u
  have rest := Nat.mod_lt (t + (u - 1) / 2) hu
  unfold cashRounding cashAmount
  omega

theorem dvd_cashAmount (u t : Nat) : u ∣ cashAmount u t := Dvd.intro_left _ rfl

/-- Settles O40: every other multiple lies a unit away, so a lower one is farther, and a higher one not nearer. -/
theorem cashAmountIsNearest : Obligations.CashAmountIsNearest := by
  intro u t hu
  have unit := dvd_cashAmount u t
  obtain ⟨low, high⟩ := cashRounding_bounds t hu
  have below : ∀ m : Nat, u ∣ m → m < cashAmount u t → |(cashAmount u t : Int) - t| < |(m : Int) - t| := fun m hm hlt => by
    have := multiples_apart (Int.natCast_dvd_natCast.2 hm) (Int.natCast_dvd_natCast.2 unit) (by exact_mod_cast hlt)
    rw [cashRounding] at low high
    rw [abs_lt, abs_of_nonpos (by omega : (m : Int) - t ≤ 0)]
    omega
  have above : ∀ m : Nat, u ∣ m → cashAmount u t < m → |(cashAmount u t : Int) - t| ≤ |(m : Int) - t| := fun m hm hlt => by
    have := multiples_apart (Int.natCast_dvd_natCast.2 unit) (Int.natCast_dvd_natCast.2 hm) (by exact_mod_cast hlt)
    rw [cashRounding] at low high
    rw [abs_le, abs_of_nonneg (by omega : 0 ≤ (m : Int) - t)]
    omega
  refine ⟨unit, rfl, fun m hm => ?_, fun m hm e => ?_, low, high⟩
  · rcases lt_trichotomy m (cashAmount u t) with hlt | rfl | hlt
    · exact (below m hm hlt).le
    · exact le_rfl
    · exact above m hm hlt
  · by_contra hlt
    exact absurd e (below m hm (not_le.1 hlt)).ne'

/-! ### FLOAT and LIFT on the drawer they name (R116, R117) -/

theorem amountOk_iff (n : Nat) : amountOk n = true ↔ 1 ≤ n ∧ n ≤ 9999999999 := by
  rw [amountOk, Bool.and_eq_true, decide_eq_true_eq, decide_eq_true_eq]
  rfl

theorem amountOk_eq_false {n : Nat} (h : n = 0 ∨ 9999999999 < n) : amountOk n = false :=
  Bool.eq_false_iff.2 fun e => by
    have := (amountOk_iff n).1 e
    omega

theorem floatDrawer_range {port amount : Nat} (h : 4 ≤ port ∨ amount = 0 ∨ 9999999999 < amount) (q : PortId) (s : State) :
    floatDrawer q ⟨port, amount⟩ s = s.refuse .range := by
  unfold floatDrawer
  rcases h with h | h
  · rw [indexOf?_eq_none h]
  · rw [amountOk_eq_false h]
    cases indexOf? 4 port <;> rfl

theorem liftDrawer_range {port amount : Nat} (h : 4 ≤ port ∨ amount = 0 ∨ 9999999999 < amount) (s : State) :
    liftDrawer ⟨port, amount⟩ s = s.refuse .range := by
  unfold liftDrawer
  rcases h with h | h
  · rw [indexOf?_eq_none h]
  · rw [amountOk_eq_false h]
    cases indexOf? 4 port <;> rfl

section
variable {p : PortId} {amount : Nat} (ok : amountOk amount = true) {s : State}
include ok

/-- FLOAT of another port's drawer by a PAYOUT port (R116). -/
theorem floatDrawer_role {q : PortId} (hr : (s.port q).role = .payout) (hp : p ≠ q) :
    floatDrawer q ⟨p.val, amount⟩ s = s.refuse .role := by
  rw [floatDrawer, indexOf?_val, ok]
  exact if_pos ⟨hr, hp⟩

/-- FLOAT of a drawer that the sender may fill. -/
theorem floatDrawer_own {q : PortId} (own : (s.port q).role = .supervisor ∨ p = q) : floatDrawer q ⟨p.val, amount⟩ s =
    (s.port p).drawer.elim (s.refuse .noDrawer) fun d =>
      if d.balance + amount ≤ 9999999999 then
        (s.setDrawer p { d with balance := d.balance + amount }).finish (numBytes 5 (d.balance + amount))
      else s.refuse .drawerLimit := by
  have mine : ¬((s.port q).role = .payout ∧ p ≠ q) := fun ⟨hr, hp⟩ => own.elim (fun e => by rw [e] at hr; cases hr) hp
  rw [floatDrawer, indexOf?_val, ok]
  dsimp only
  rw [if_neg mine]
  cases (s.port p).drawer with
  | none => rfl
  | some d =>
    simp only [Option.elim_some, ← Nat.not_lt, ite_not]
    rfl

theorem liftDrawer_eq : liftDrawer ⟨p.val, amount⟩ s =
    (s.port p).drawer.elim (s.refuse .noDrawer) fun d =>
      if amount ≤ d.balance then
        (s.setDrawer p { d with balance := d.balance - amount }).finish (numBytes 5 (d.balance - amount))
      else s.refuse .drawerShort := by
  rw [liftDrawer, indexOf?_val, ok]
  dsimp only
  cases (s.port p).drawer with
  | none => rfl
  | some d => simp only [Option.elim_some, ← Nat.not_lt, ite_not]

end

/-! ### The commands -/

section
variable {k : Packet} {s : State} {port amount : Nat} (h : s.takes k) (hp : DrawerArgs.parse k.params = some ⟨port, amount⟩)
include h hp

theorem exec_float (hr : (s.port k.port).role = .supervisor ∨ (s.port k.port).role = .payout) :
    exec (.float k) s = .next (carriedOut k (floatDrawer k.port ⟨port, amount⟩ (s.hunt k.port))) :=
  takeCommand_effect (floatDrawer k.port) h (by rcases hr with hr | hr <;> rw [hr] <;> rfl) hp

theorem exec_lift (hr : (s.port k.port).role = .supervisor) :
    exec (.lift k) s = .next (carriedOut k (liftDrawer ⟨port, amount⟩ (s.hunt k.port))) :=
  takeCommand_effect liftDrawer h (by rw [hr]; rfl) hp

end

/-- Settles O39: the checks of each command go one after another, and the drawer decides the last. -/
theorem floatsAndLifts : Obligations.FloatsAndLifts := by
  intro k s port amount h hport hamount hp role refused
  have parse : DrawerArgs.parse k.params = some ⟨port, amount⟩ := hp ▸ DrawerArgs.parse_bytes port amount hport hamount
  refine ⟨fun h1 h2 => ?_, fun h1 => ?_, fun hr hbad => ?_, fun hr hbad => ?_, ?_⟩
  · exact takeCommand_role _ _ _ (floatDrawer k.port) _ _ h _ parse (by
      rw [supervisorOrPayout, decide_eq_false h1, decide_eq_false h2]; rfl)
  · exact takeCommand_role _ _ _ liftDrawer _ _ h _ parse (decide_eq_false h1)
  · rw [exec_float h parse hr, floatDrawer_range hbad]
    rfl
  · rw [exec_lift h parse hr, liftDrawer_range hbad]
    rfl
  · rintro p rfl h1 h2
    have ok := (amountOk_iff amount).2 ⟨h1, h2⟩
    have sender : ((s.hunt k.port).port k.port).role = role := s.hunt_port_role _ _
    refine ⟨fun hr hne => ?_, fun hr => ?_, fun hr => ?_⟩
    · rw [exec_float h parse (.inr hr), floatDrawer_role ok (sender.trans hr) hne]
      rfl
    · have own : ((s.hunt k.port).port k.port).role = .supervisor ∨ p = k.port := hr.imp sender.trans And.right
      rw [exec_float h parse (hr.imp_right And.left), floatDrawer_own ok own, State.hunt_port_drawer]
      refine ⟨fun hd => ?_, fun d hd => ?_⟩
      · rw [hd]
        rfl
      · rw [hd, Option.elim_some, apply_ite (carriedOut k), apply_ite Host.Outcome.next]
        rfl
    · rw [exec_lift h parse hr, liftDrawer_eq ok, State.hunt_port_drawer]
      refine ⟨fun hd => ?_, fun d hd => ?_⟩
      · rw [hd]
        rfl
      · rw [hd, Option.elim_some, apply_ite (carriedOut k), apply_ite Host.Outcome.next]
        rfl

/-! ### The refusals of PAY (R120, R121) -/

section
variable {port : PortId} {n v : Nat} {s : State}

theorem pay_range (h : ticketNumberOk n = false ∨ PayMethod.ofCode? v = none) : pay port ⟨n, v⟩ s = s.refuse .range := by
  unfold pay
  rcases h with h | h
  · rw [h]
  · rw [h]
    cases ticketNumberOk n <;> rfl

variable {method : PayMethod} (hn : ticketNumberOk n = true) (hm : PayMethod.ofCode? v = some method)
include hn hm

theorem pay_noTicket (ht : s.ticket? n = none) : pay port ⟨n, v⟩ s = s.refuse .noTicket := by
  rw [pay, hn, hm, ht]

theorem pay_onHold {t : Ticket} (ht : s.ticket? n = some t) (hs : t.state = .held) : pay port ⟨n, v⟩ s = s.refuse .onHold := by
  rw [pay, hn, hm, ht]
  exact if_pos hs

theorem pay_state {t : Ticket} (ht : s.ticket? n = some t) (h1 : t.state ≠ .held) (h2 : t.state ≠ .payable) :
    pay port ⟨n, v⟩ s = s.refuse .state := by
  rw [pay, hn, hm, ht]
  exact (if_neg h1).trans (if_pos h2)

/-- A PAYABLE ticket is paid by the method that PAY names. -/
theorem pay_payable {t : Ticket} (ht : s.ticket? n = some t) (hs : t.state = .payable) :
    pay port ⟨n, v⟩ s = s.payBy port t t.total method := by
  rw [pay, hn, hm, ht]
  refine (if_neg (by rw [hs]; decide)).trans ((if_neg (not_not.2 hs)).trans ?_)
  cases method <;> rfl

end

section
variable {s : State} {port : PortId} (t : Ticket) {total : Nat}

theorem State.payCash_noDrawer (hd : (s.port port).drawer = none) : s.payCash port t total = s.refuse .noDrawer := by
  rw [State.payCash, hd]

variable {d : Drawer} (hd : (s.port port).drawer = some d)
include hd

theorem State.payCash_limit (hl : s.settings.cashLimit < total) : s.payCash port t total = s.refuse .cashLimit := by
  rw [State.payCash, hd]
  exact if_pos hl

theorem State.payCash_short (hl : total ≤ s.settings.cashLimit) (hb : d.balance < cashAmount s.settings.cashUnit total) :
    s.payCash port t total = s.refuse .drawerShort := by
  rw [State.payCash, hd]
  exact (if_neg (Nat.not_lt.2 hl)).trans (if_pos hb)

end

/-- A method of 0 or 1 is CASH or VOUCHER, and no other byte is a method. -/
theorem PayMethod.ofCode?_isSome {v : Nat} (h : v ≤ 1) : ∃ m, PayMethod.ofCode? v = some m := by
  interval_cases v <;> exact ⟨_, rfl⟩

theorem PayMethod.ofCode?_eq_none {v : Nat} (h : 1 < v) : PayMethod.ofCode? v = none := by
  match v, h with
  | v + 2, _ => rfl

/-- The roles of PAY (Table 9-9). -/
theorem supervisorOrPayout_iff (r : Role) : supervisorOrPayout r = true ↔ r ∈ permitted 35 := by
  cases r <;> decide

/-- PAY is refused when its effect is a refusal. -/
theorem refuses_pay_of_effect {k : Packet} {s : State} {a : TicketByteArgs} {reason : Reason} (h : s.takes k)
    (hp : TicketByteArgs.parse k.params = some a) (e : pay k.port a (s.hunt k.port) = (s.hunt k.port).refuse reason) :
    s.refuses k (.pay k) reason :=
  State.refuses_of_run <| by
    rintro _ ⟨⟩ hr
    exact ⟨_, takeCommand_effect (pay k.port) h ((supervisorOrPayout_iff _).2 hr) hp, e⟩

/-- Settles O42: each check of R120 and R121 is met in its order, and the first that fails refuses the payment. -/
theorem payRefusals : Obligations.PayRefusals := by
  refine ⟨fun k s n method h hn hv hp => ?_, fun k s n method h hr hn1 hn2 hv hp => ?_⟩
  · have parse : TicketByteArgs.parse k.params = some ⟨n, method⟩ := hp ▸ TicketByteArgs.parse_bytes n method hn hv
    refine ⟨fun hr => ?_, fun hr hbad => ?_⟩
    · exact takeCommand_role _ _ _ (pay k.port) _ _ h _ parse
        (Bool.eq_false_iff.2 fun e => hr ((supervisorOrPayout_iff _).1 e))
    · refine refuses_pay_of_effect h parse (pay_range ?_) 35 rfl hr
      rcases or_assoc.2 hbad with hbad | hbad
      · exact .inl (Bool.eq_false_iff.2 fun e => by have := (ticketNumberOk_iff n).1 e; omega)
      · exact .inr (PayMethod.ofCode?_eq_none hbad)
  · have hn := (ticketNumberOk_iff n).2 ⟨hn1, hn2⟩
    obtain ⟨m, hm⟩ := PayMethod.ofCode?_isSome hv
    have parse : TicketByteArgs.parse k.params = some ⟨n, method⟩ :=
      hp ▸ TicketByteArgs.parse_bytes n method (ticketNumberOk_fits hn) (by omega)
    have refuse : ∀ {reason}, pay k.port ⟨n, method⟩ (s.hunt k.port) = (s.hunt k.port).refuse reason → _ :=
      fun e => refuses_pay_of_effect h parse e 35 rfl hr
    refine ⟨fun ht => refuse (pay_noTicket hn hm ht), fun t ht => ?_⟩
    have cash : t.state = .payable → pay k.port ⟨n, 0⟩ (s.hunt k.port) = (s.hunt k.port).payCash k.port t t.total :=
      pay_payable (s := s.hunt k.port) (v := 0) (method := .cash) hn rfl ht
    refine ⟨fun hs => refuse (pay_onHold hn hm ht hs), fun h1 h2 => refuse (pay_state hn hm ht h1 h2), ?_, ?_⟩
    · rintro hs rfl hd
      exact refuse ((cash hs).trans (State.payCash_noDrawer t ((s.hunt_port_drawer _ _).trans hd)))
    · rintro d r hs rfl hd hset
      have drawer := (s.hunt_port_drawer k.port k.port).trans hd
      have total : t.total = r.total := by rw [Ticket.total, hset]
      rw [total] at cash
      exact ⟨fun hl => refuse ((cash hs).trans (State.payCash_limit t drawer hl)),
        fun hl hb => refuse ((cash hs).trans (State.payCash_short t drawer hl hb))⟩

end Sys2Proof.Machine
end

section
/-! The clock and the holds it ends (R107, R108, R110 to R112): SET CLOCK, CLOCK_ADVANCE, RELEASE HOLD and HOLD_EXPIRY. -/

namespace Sys2Proof.Machine

/-! ### Releases (R110) -/

/-- The tickets of a table of different numbers released in its order: each that is due is PAYABLE, and each is told. -/
theorem State.releaseDue_table {s : State} (hn : (s.tickets.map Ticket.number).Nodup) : s.releaseDue s.tickets = { s with
    tickets := s.tickets.map fun t => if t.due s.clock then { t with state := .payable } else t
    ports := s.tellReleased.ports } := by
  rw [s.releaseDue_eq, s.releaseDue_tickets hn, s.releaseDue_ports]
  rfl

/-- A ticket of the table after some of its tickets have been released in order: PAYABLE when it is one of them and due. -/
theorem State.ticket?_releaseDue {s : State} (hn : (s.tickets.map Ticket.number).Nodup) {ts : List Ticket} (hts : ts.Sublist s.tickets)
    {m : Nat} {x : Ticket} (hx : s.ticket? m = some x) :
    (s.releaseDue ts).ticket? m = some (if x ∈ ts ∧ x.due s.clock = true then { x with state := .payable } else x) := by
  have same : ∀ t ∈ ts, t.number = x.number → t = x := fun t ht e =>
    List.inj_on_of_nodup_map hn (hts.subset ht) (State.ticket?_mem hx) e
  unfold State.ticket? at hx ⊢
  rw [s.releaseDue_tickets_of ts (hn.sublist (hts.map _)), List.find?_map]
  refine (congrArg (Option.map _ <| List.find? · _) (funext fun t => ?_)).trans ((congrArg (Option.map _) hx).trans ?_)
  · simp only [Function.comp_apply]
    split
    next u hu =>
      have found := List.find?_some hu
      simp only [Bool.and_eq_true, decide_eq_true_eq] at found
      simp [found.1]
    next => rfl
  · refine congrArg some ?_
    dsimp only
    split
    next t ht =>
      have found := List.find?_some ht
      simp only [Bool.and_eq_true, decide_eq_true_eq] at found
      obtain rfl := same t (List.mem_of_find?_eq_some ht) found.1
      rw [if_pos ⟨List.mem_of_find?_eq_some ht, found.2⟩]
    next hnone =>
      refine (if_neg ?_).symm
      rintro ⟨hmem, hdue⟩
      exact List.find?_eq_none.1 hnone x hmem (by simp [hdue])

/-! ### HOLD_EXPIRY (R110, R112) -/

/-- A ticket that is found under its number is due as its settlement's release time says (R110). -/
theorem Ticket.due_held {t : Ticket} {r : Settlement} {time : ClockTime} (hs : t.state = .held) (hr : t.settlement = some r)
    (ht : r.release = some time) (now : ClockTime) : t.due now = time.notLater now := by
  simp [Ticket.due, hs, hr, ht]

theorem Ticket.due_of_not_held {t : Ticket} (hs : t.state ≠ .held) (now : ClockTime) : t.due now = false := by
  simp [Ticket.due, hs]

/-- The expiry of a ticket's hold releases the table up to the ticket when it is due, and nothing otherwise (log 20). -/
theorem State.expireHold_eq {s : State} {n : Nat} {t : Ticket} (ht : s.ticket? n = some t) :
    ∃ i, t ∈ s.tickets.take (i + 1) ∧
      s.expireHold n = if t.due s.clock then s.releaseDue (s.tickets.take (i + 1)) else s := by
  obtain ⟨found, i, hi, hget, before⟩ := List.find?_eq_some_iff_getElem.1 ht
  have index : (s.tickets.findIdx? fun t => decide (t.number = n)) = some i :=
    List.findIdx?_eq_some_iff_getElem.2 ⟨hi, by rw [hget]; exact found, fun j hj => by simpa using before j hj⟩
  have entry : s.tickets[i]? = some t := hget ▸ List.getElem?_eq_getElem hi
  refine ⟨i, List.mem_take_iff_getElem.2 ⟨i, by omega, hget⟩, ?_⟩
  rw [State.expireHold, index]
  dsimp only
  rw [entry]

/-- A hold that is not over is left as it is, whether the part takes events or not. -/
theorem exec_holdExpiry_idle {s : State} {n : Nat} {t : Ticket} (ht : s.ticket? n = some t) (hd : t.due s.clock = false) :
    exec (.holdExpiry n) s = .next s := by
  obtain ⟨i, -, e⟩ := State.expireHold_eq ht
  rw [hd, if_neg Bool.false_ne_true] at e
  change Host.Outcome.next (s.whileRunning fun s => s.expireHold n) = _
  rw [State.whileRunning, e, ite_self]

/-- A hold that is over is ended, and no ticket whose hold is not over changes (R110). -/
theorem exec_holdExpiry_due {s : State} {n : Nat} {t : Ticket} (hrun : s.running = true) (hn : (s.tickets.map Ticket.number).Nodup)
    (ht : s.ticket? n = some t) (hd : t.due s.clock = true) : ∃ u, exec (.holdExpiry n) s = .next u ∧
      u.ticket? n = some { t with state := .payable } ∧
      (∀ m x, s.ticket? m = some x → x.due s.clock = false → u.ticket? m = some x) ∧
      u = { s with tickets := u.tickets, ports := u.ports } := by
  obtain ⟨i, mem, e⟩ := State.expireHold_eq ht
  rw [if_pos hd] at e
  have released := fun m x (hx : s.ticket? m = some x) => State.ticket?_releaseDue hn (List.take_sublist (i + 1) s.tickets) hx
  refine ⟨s.releaseDue (s.tickets.take (i + 1)), ?_, ?_, fun m x hx hxd => ?_, s.releaseDue_eq _⟩
  · change Host.Outcome.next (s.whileRunning fun s => s.expireHold n) = _
    rw [State.whileRunning, if_pos hrun, e]
  · rw [released n t ht, if_pos ⟨mem, hd⟩]
  · rw [released m x hx, if_neg fun h => Bool.false_ne_true (hxd.symm.trans h.2)]

/-! ### CLOCK_ADVANCE (R107, R110) -/

theorem exec_clockAdvance_stopped {s : State} (h : s.running = false) : exec .clockAdvance s = .next s.advanceClock := by
  change Host.Outcome.next (s.advanceClock.whileRunning _) = _
  rw [State.whileRunning, show s.advanceClock.running = false from h]
  rfl

theorem exec_clockAdvance_running {s : State} (h : s.running = true) : exec .clockAdvance s =
    .next (s.advanceClock.releaseDue s.advanceClock.tickets) := by
  change Host.Outcome.next (s.advanceClock.whileRunning _) = _
  rw [State.whileRunning, show s.advanceClock.running = true from h]
  rfl

/-! ### SET CLOCK (R108, R110) -/

theorem clockOk_of_le {day second : Nat} (h1 : 1 ≤ day) (h2 : day ≤ 65535) (h3 : second ≤ 86399) : clockOk ⟨day, second⟩ = true := by
  simp [clockOk, Config.maxDay, Config.maxSecond, h1, h2, h3]

/-- The part with its clock set to a time, and the tickets that are due at it released. -/
def State.clockSetTo (s : State) (time : ClockTime) : State :=
  { s with
    clock := time
    tickets := s.tickets.map fun t => if t.due time then { t with state := .payable } else t
    ports := ({ s with clock := time } : State).tellReleased.ports }

/-- SET CLOCK of a time in range releases the tickets that are due at it, and counts them. -/
theorem setClock_eq {s : State} {time : ClockTime} (ok : clockOk time = true) (hn : (s.tickets.map Ticket.number).Nodup) :
    setClock time s = (s.clockSetTo time).finish (numBytes 1 (s.tickets.filter fun t => t.due time).length) := by
  rw [setClock, if_pos ok]
  exact congrArg (fun u : State => u.finish _) (State.releaseDue_table (s := { s with clock := time }) hn)

/-- The events of the releases leave every output queue (R188). -/
theorem State.tellReleased_out (s : State) (p : PortId) : (s.tellReleased.port p).out = (s.port p).out := by
  have h := State.releaseDue_port Port.out Port.offer_out s s.tickets p
  rwa [State.port, s.releaseDue_ports] at h

theorem exec_setClock {k : Packet} {s : State} {time : ClockTime} (h : s.takes k) (hr : (s.port k.port).role = .supervisor)
    (hp : parseClock k.params = some time) (ok : clockOk time = true) (hn : (s.tickets.map Ticket.number).Nodup) :
    exec (.setClock k) s = .next (((s.hunt k.port).clockSetTo time).replied k
      (.success (numBytes 1 (s.tickets.filter fun t => t.due time).length))) := by
  refine (takeCommand_effect setClock h (decide_eq_true hr) hp).trans ?_
  rw [setClock_eq (s := s.hunt k.port) ok hn]
  rfl

/-- The reply of a SET CLOCK joins the output queue after the frames that wait. -/
theorem State.out_clockSetTo_replied (s : State) (k : Packet) (time : ClockTime) (a : Answer) :
    ((((s.hunt k.port).clockSetTo time).replied k a).port k.port).out = (s.port k.port).out ++ [.reply (Reply.mk k.tag a)] := by
  rw [State.port_reply, if_pos rfl, ← s.hunt_port_out k.port k.port]
  exact congrArg (· ++ _) (State.tellReleased_out { s.hunt k.port with clock := time } k.port)

/-! ### RELEASE HOLD (R111) -/

theorem exec_releaseHold {k : Packet} {s : State} {n : Nat} {t : Ticket} (h : s.takes k) (hr : (s.port k.port).role = .supervisor)
    (hp : parseTicket k.params = some n) (hn : ticketNumberOk n = true) (ht : s.ticket? n = some t) (hs : t.state = .held) :
    exec (.releaseHold k) s = .next
      ((((s.hunt k.port).putTicket { t with state := .payable }).raise (.ticket n (some .payable))).replied k (.success [])) := by
  obtain rfl := State.ticket?_number ht
  refine (takeCommand_effect releaseHold h (decide_eq_true hr) hp).trans ?_
  rw [releaseHold, (s.hunt k.port).withTicket_eq true _ isHeld _ t hn rfl ht (decide_eq_true hs)]
  rfl

/-- Settles O38: each row sets or reads the clock, and the releases it brings about are those of the table, or of the ticket named. -/
theorem clockAndHolds : Obligations.ClockAndHolds := by
  refine ⟨fun k s day second h hn _ hr h1 h2 h3 hp => ?_, fun k s n h hr hn1 hn2 hp => ?_, fun s => ⟨fun h => ?_, fun h hn => ?_⟩,
    fun s n t r time hrun hn ht hs hset hrel => ⟨fun hle => ?_, fun hle => ?_⟩, fun s n t ht hs => ?_⟩
  · have parse : parseClock k.params = some ⟨day, second⟩ := hp ▸ parseClock_bytes day second (by omega) (by omega)
    exact ⟨_, exec_setClock h hr parse (clockOk_of_le h1 h2 h3) hn, rfl, rfl, s.out_clockSetTo_replied k _ _,
      rfl, rfl, rfl, rfl, rfl, rfl, rfl, rfl, rfl⟩
  · have hn := (ticketNumberOk_iff n).2 ⟨hn1, hn2⟩
    have parse : parseTicket k.params = some n := hp ▸ parseTicket_bytes n (ticketNumberOk_fits hn)
    have permits : (s.port k.port).role ∈ permitted 31 := by rw [hr]; decide
    have ask := asksTicket_releaseHold h parse
    exact ⟨fun ht => ask.noTicket hn ht 31 rfl permits, fun t ht => ⟨exec_releaseHold h hr parse hn ht,
      fun hs => ask.state hn ht (decide_eq_false hs) 31 rfl permits⟩⟩
  · exact exec_clockAdvance_stopped h
  · rw [exec_clockAdvance_running h]
    exact congrArg Host.Outcome.next (State.releaseDue_table (s := s.advanceClock) hn)
  · obtain ⟨u, he, named, others, same⟩ := exec_holdExpiry_due hrun hn ht ((Ticket.due_held hs hset hrel _).trans hle)
    exact ⟨u, he, named, others, by rw [same], by rw [same], by rw [same]⟩
  · exact exec_holdExpiry_idle ht ((Ticket.due_held hs hset hrel _).trans hle)
  · exact exec_holdExpiry_idle ht (Ticket.due_of_not_held hs _)

end Sys2Proof.Machine
end

section
/-! SUPPORT. The rules of the job pool (R133) through the operations of the print engine: the jobs that stay, the job that joins, and the
job that a printer takes. -/

namespace Sys2Proof.Machine

/-! ### What the rules read -/

/-- What the rules of the pool read of the state: the jobs and the job id counter. -/
def State.pool (s : State) : List Job × Nat := (s.jobs, s.nextJob)

/-- A job that the rules of the pool may find in the place of another: of its id, TAKEN or PRINTING only where the other is and on its
printer, and referring to a ticket only where the other does. -/
structure Job.Follows (x j : Job) : Prop where
  id : x.id = j.id
  active : x.active = true → j.active = true ∧ x.printer = j.printer
  refers : ∀ n, x.refersTo n = true → j.refersTo n = true

theorem Job.Follows.refl (j : Job) : j.Follows j := ⟨rfl, fun h => ⟨h, rfl⟩, fun _ h => h⟩

/-- The operations that lead from one state to another keep the rules of the pool. -/
def State.KeepsPool (s t : State) : Prop := s.poolStands → t.poolStands

theorem State.KeepsPool.refl (s : State) : s.KeepsPool s := id

theorem State.KeepsPool.trans {s t u : State} (h : s.KeepsPool t) (k : t.KeepsPool u) : s.KeepsPool u := fun hs => k (h hs)

theorem State.KeepsPool.of_eq {s t : State} (h : t.pool = s.pool) : s.KeepsPool t := by
  obtain ⟨hj, hn⟩ := Prod.mk.inj h
  intro hs
  unfold State.poolStands
  rw [hj, hn]
  exact hs

theorem State.KeepsPool.foldl {α : Type} {f : State → α → State} (h : ∀ (s : State) x, s.KeepsPool (f s x)) (l : List α) (s : State) :
    s.KeepsPool (l.foldl f s) := by
  induction l generalizing s with
  | nil => exact .refl s
  | cons x xs ih => exact (h s x).trans (ih _)

theorem State.KeepsPool.ite {s t : State} (b : Bool) (h : s.KeepsPool t) : s.KeepsPool (if b then t else s) := by
  cases b
  · exact .refl s
  · exact h

theorem State.KeepsPool.whileRunning {f : State → State} (s : State) (h : ∀ t : State, t.KeepsPool (f t)) :
    s.KeepsPool (s.whileRunning f) := .ite _ (h s)

/-- A pool in which each job follows one that was there, in the old order and under the old counter, keeps the rules. -/
theorem State.keepsPool_of_follows {s t : State} (next : t.nextJob = s.nextJob)
    (ids : (t.jobs.map Job.id).Sublist (s.jobs.map Job.id)) (follows : ∀ x ∈ t.jobs, ∃ j ∈ s.jobs, x.Follows j) : s.KeepsPool t := by
  rintro ⟨room, distinct, ranges, counter, active, refers⟩
  refine ⟨?_, ids.nodup distinct, fun x hx => ?_, by rwa [next], fun x hx y hy ax ay e => ?_, fun n x hx y hy rx ry => ?_⟩
  · simpa using ids.length_le.trans (by simpa using room)
  · obtain ⟨j, hj, f⟩ := follows x hx
    rw [f.id]
    exact ranges j hj
  · obtain ⟨i, hi, f⟩ := follows x hx
    obtain ⟨j, hj, g⟩ := follows y hy
    rw [f.id, g.id]
    exact active i hi j hj (f.active ax).1 (g.active ay).1 (by rw [← (f.active ax).2, ← (g.active ay).2, e])
  · obtain ⟨i, hi, f⟩ := follows x hx
    obtain ⟨j, hj, g⟩ := follows y hy
    rw [f.id, g.id]
    exact refers n i hi j hj (f.refers n rx) (g.refers n ry)

/-- Jobs rewritten one by one. -/
theorem State.keepsPool_map {s t : State} {f : Job → Job} (next : t.nextJob = s.nextJob) (jobs : t.jobs = s.jobs.map f)
    (follows : ∀ j ∈ s.jobs, (f j).Follows j) : s.KeepsPool t := by
  refine State.keepsPool_of_follows next ?_ ?_
  · rw [jobs, List.map_map, List.map_congr_left (f := Job.id ∘ f) (g := Job.id) fun j hj => (follows j hj).id]
  · rw [jobs]
    intro x hx
    obtain ⟨j, hj, rfl⟩ := List.mem_map.1 hx
    exact ⟨j, hj, follows j hj⟩

/-- Jobs taken out. -/
theorem State.keepsPool_filter {s t : State} {p : Job → Bool} (next : t.nextJob = s.nextJob) (jobs : t.jobs = s.jobs.filter p) :
    s.KeepsPool t := by
  refine State.keepsPool_of_follows next ?_ fun x hx => ⟨x, ?_, .refl x⟩
  · rw [jobs]
    exact List.filter_sublist.map _
  · rw [jobs] at hx
    exact (List.mem_filter.1 hx).1

/-! ### Operations that leave the pool -/

@[simp] theorem State.pool_setPort (s : State) (p : PortId) (x : Port) : (s.setPort p x).pool = s.pool := rfl
@[simp] theorem State.pool_setChannel (s : State) (c : ChannelId) (x : Channel) : (s.setChannel c x).pool = s.pool := rfl
@[simp] theorem State.pool_setPrinter (s : State) (r : PrinterId) (x : Printer) : (s.setPrinter r x).pool = s.pool := rfl
@[simp] theorem State.pool_putTicket (s : State) (t : Ticket) : (s.putTicket t).pool = s.pool := rfl
@[simp] theorem State.pool_moveTicket (s : State) (t : Ticket) : (s.moveTicket t).pool = s.pool := rfl
@[simp] theorem State.pool_raise (s : State) (e : Event) : (s.raise e).pool = s.pool := rfl
@[simp] theorem State.pool_reach (s : State) (time : Nat) : (s.reach time).pool = s.pool := rfl
@[simp] theorem State.pool_hunt (s : State) (p : PortId) : (s.hunt p).pool = s.pool := rfl
@[simp] theorem State.pool_reply (s : State) (p : PortId) (tag : Byte) (a : Answer) : (s.reply p tag a).pool = s.pool := rfl
@[simp] theorem State.pool_setDrawer (s : State) (p : PortId) (d : Drawer) : (s.setDrawer p d).pool = s.pool := rfl
@[simp] theorem State.pool_storeTare (s : State) (e : TareEntry) : (s.storeTare e).pool = s.pool := rfl

/-- An operation of the print engine that leaves the jobs leaves the pool. -/
theorem State.PoolStep.pool {s t : State} (h : s.PoolStep t) (hj : t.jobs = s.jobs) : t.pool = s.pool :=
  Prod.ext hj (by rw [h.1]; rfl)

theorem State.PoolStep.nextJob {s t : State} (h : s.PoolStep t) : t.nextJob = s.nextJob := by rw [h.1]

@[simp] theorem State.pool_closeReceipt (s : State) (r : PrinterId) : (s.closeReceipt r).pool = s.pool :=
  (s.poolStep_closeReceipt r).pool (s.closeReceipt_jobs r)

@[simp] theorem State.pool_setLock (s : State) (r : PrinterId) (l : Lock) : (s.setLock r l).pool = s.pool :=
  (s.poolStep_setLock r l).pool (s.setLock_jobs r l)

@[simp] theorem State.pool_settleLock (s : State) (r : PrinterId) : (s.settleLock r).pool = s.pool :=
  (s.poolStep_settleLock r).pool (s.settleLock_jobs r)

@[simp] theorem State.pool_releaseLocks (s : State) (p : PortId) : (s.releaseLocks p).pool = s.pool :=
  (s.poolStep_releaseLocks p).pool (s.releaseLocks_jobs p)

/-! ### A job put in its place (R142 to R149) -/

/-- A job of the pool after one has been put in its place. -/
theorem State.mem_putJob {s : State} {x y : Job} (h : y ∈ (s.putJob x).jobs) : y = x ∨ y ∈ s.jobs ∧ y.id ≠ x.id := by
  obtain ⟨z, hz, rfl⟩ := List.mem_map.1 h
  split_ifs with e
  · exact .inl rfl
  · exact .inr ⟨hz, e⟩

/-- A job of the pool rewritten. -/
theorem State.keepsPool_putJob {s : State} {x j : Job} (hj : j ∈ s.jobs) (h : x.Follows j) : s.KeepsPool (s.putJob x) := by
  refine State.keepsPool_of_follows (t := s.putJob x) rfl (by rw [State.putJob_ids]) fun y hy => ?_
  rcases State.mem_putJob hy with rfl | ⟨hy, -⟩
  · exact ⟨j, hj, h⟩
  · exact ⟨y, hy, .refl y⟩

/-- A printer without a job TAKEN or PRINTING. -/
theorem State.activeJob?_eq_none {s : State} {r : PrinterId} :
    s.activeJob? r = none ↔ ∀ j ∈ s.jobs, j.printer = r → j.active = false := by
  simp [State.activeJob?, List.find?_eq_none]

/-- A job taken by its printer, which has none (R141, R142). -/
theorem State.keepsPool_take {s : State} {j : Job} (hj : j ∈ s.jobs) (free : s.activeJob? j.printer = none) :
    s.KeepsPool (s.putJob { j with state := .taken }) := by
  rintro ⟨room, distinct, ranges, counter, active, refers⟩
  have alone : ∀ y ∈ s.jobs, y.active = true → y.printer ≠ j.printer := fun y hy ay e =>
    Bool.false_ne_true ((State.activeJob?_eq_none.1 free y hy e).symm.trans ay)
  have old : ∀ y ∈ (s.putJob { j with state := .taken }).jobs, ∃ x ∈ s.jobs, y.id = x.id ∧ ∀ n, y.refersTo n = x.refersTo n :=
    fun y hy => (State.mem_putJob hy).elim (fun e => ⟨j, hj, by rw [e], fun _ => by rw [e]; rfl⟩)
      fun h => ⟨y, h.1, rfl, fun _ => rfl⟩
  refine ⟨by simpa using room, by rw [State.putJob_ids]; exact distinct, fun y hy => ?_, counter, fun x hx y hy ax ay e => ?_,
    fun n x hx y hy rx ry => ?_⟩
  · obtain ⟨x, hx, e, -⟩ := old y hy
    rw [e]
    exact ranges x hx
  · rcases State.mem_putJob hx with rfl | ⟨hx, -⟩ <;> rcases State.mem_putJob hy with rfl | ⟨hy, -⟩
    · rfl
    · exact absurd e.symm (alone y hy ay)
    · exact absurd e (alone x hx ax)
    · exact active x hx y hy ax ay e
  · obtain ⟨i, hi, e, ri⟩ := old x hx
    obtain ⟨j', hj', e', rj⟩ := old y hy
    rw [e, e']
    exact refers n i hi j' hj' (ri n ▸ rx) (rj n ▸ ry)

/-! ### A job that joins (R133) -/

/-- The numbers that the job id counter reaches, by their place in the cycle. -/
theorem advanceJob_iterate {n : Nat} (h : 1 ≤ n ∧ n ≤ 255) (i : Nat) : advanceJob^[i] n = (n - 1 + i) % 255 + 1 := by
  induction i with
  | zero => rw [Function.iterate_zero_apply, Nat.add_zero, Nat.mod_eq_of_lt (by omega)]; omega
  | succ i ih =>
    rw [Function.iterate_succ_apply', ih]
    unfold advanceJob
    split_ifs <;> omega

/-- A search that ends at a taken id has met taken ones alone. -/
theorem freeJobId_taken {jobs : List Job} {fuel n : Nat} (h : freeJobId jobs fuel n ∈ jobs.map Job.id) :
    ∀ i ≤ fuel, advanceJob^[i] n ∈ jobs.map Job.id := by
  induction fuel generalizing n with
  | zero => intro i hi; rw [Nat.le_zero.1 hi]; exact h
  | succ fuel ih =>
    rw [freeJobId] at h
    split_ifs at h with taken
    · intro i hi
      cases i with
      | zero => simpa using taken
      | succ i => rw [Function.iterate_succ_apply]; exact ih h i (by omega)
    · exact absurd (by simpa using h) taken

/-- In a pool with room the id of the next job is free (R133). -/
theorem State.newJobId_free {s : State} (room : s.jobs.length < 12) (h : 1 ≤ s.nextJob ∧ s.nextJob ≤ 255) :
    ∀ j ∈ s.jobs, j.id ≠ s.newJobId := by
  intro j hj e
  have taken : s.newJobId ∈ s.jobs.map Job.id := List.mem_map.2 ⟨j, hj, e⟩
  have all := freeJobId_taken taken
  have distinct : ((List.range 12).map fun i => advanceJob^[i] s.nextJob).Nodup := by
    refine List.Nodup.map_on (fun x hx y hy e => ?_) List.nodup_range
    rw [List.mem_range] at hx hy
    rw [advanceJob_iterate h, advanceJob_iterate h] at e
    omega
  have inside : ((List.range 12).map fun i => advanceJob^[i] s.nextJob) ⊆ s.jobs.map Job.id := by
    intro x hx
    obtain ⟨i, hi, rfl⟩ := List.mem_map.1 hx
    exact all i (by have := List.mem_range.1 hi; omega)
  have := (List.subperm_of_subset distinct inside).length_le
  simp at this
  omega

/-- The id of the next job lies in 1 to 255. -/
theorem State.newJobId_inRange {s : State} (h : 1 ≤ s.nextJob ∧ s.nextJob ≤ 255) : 1 ≤ s.newJobId ∧ s.newJobId ≤ 255 := by
  obtain ⟨i, e⟩ := freeJobId_reached s.jobs 255 s.nextJob
  rw [State.newJobId, e]
  exact advanceJob_iterate_inRange h i

/-- A job of a free id joins a pool with room, and refers to no ticket that another refers to. -/
theorem State.keepsPool_addJob {s : State} {j : Job} (room : s.jobs.length < 12) (free : ∀ n, j.refersTo n = true → s.referred n = false) :
    s.KeepsPool (s.addJob j) := by
  rintro ⟨-, distinct, ranges, counter, active, refers⟩
  have fresh := State.newJobId_free room counter
  have inRange := State.newJobId_inRange counter
  have unreferred : ∀ n, j.refersTo n = true → ∀ y ∈ s.jobs, y.refersTo n = false := fun n h y hy =>
    Bool.eq_false_iff.2 (List.any_eq_false.1 (free n h) y hy)
  rw [State.addJob_eq]
  refine ⟨by simpa using room, ?_, fun x hx => ?_, advanceJob_inRange inRange, fun x hx y hy ax ay e => ?_, fun n x hx y hy rx ry => ?_⟩
  · rw [List.map_append]
    refine List.Nodup.append distinct (List.nodup_singleton _) ?_
    simpa [List.disjoint_singleton] using fun x hx => fresh x hx
  · rcases List.mem_append.1 hx with hx | hx
    · exact ranges x hx
    · rw [List.mem_singleton.1 hx]
      exact inRange
  · rcases List.mem_append.1 hx with hx | hx <;> rcases List.mem_append.1 hy with hy | hy
    · exact active x hx y hy ax ay e
    · rw [List.mem_singleton.1 hy] at ay
      exact absurd ay Bool.false_ne_true
    · rw [List.mem_singleton.1 hx] at ax
      exact absurd ax Bool.false_ne_true
    · rw [List.mem_singleton.1 hx, List.mem_singleton.1 hy]
  · rcases List.mem_append.1 hx with hx | hx <;> rcases List.mem_append.1 hy with hy | hy
    · exact refers n x hx y hy rx ry
    · rw [List.mem_singleton.1 hy] at ry
      exact absurd ((unreferred n ry x hx).symm.trans rx) Bool.false_ne_true
    · rw [List.mem_singleton.1 hx] at rx
      exact absurd ((unreferred n rx y hy).symm.trans ry) Bool.false_ne_true
    · rw [List.mem_singleton.1 hx, List.mem_singleton.1 hy]

/-- A receipt of a ticket that is neither served nor blocked has no job that refers to its ticket (R136). -/
theorem State.unreferred_of_unserved {s : State} {x : OwedItem} (served : s.served x = false) (blocked : s.blocked x = false) (n : Nat)
    (h : (s.jobFor x).refersTo n = true) : s.referred n = false := by
  obtain ⟨stamp, hs⟩ := Job.refersTo_iff.1 h
  rw [State.jobFor_source] at hs
  refine List.any_eq_false.2 fun j hj => ?_
  intro r
  cases x with
  | ofReport rep o => cases hs
  | ofTicket t o =>
    obtain ⟨rfl, -⟩ := JobSource.owed.inj hs
    have hserved := List.any_eq_false.1 served j hj
    have hblocked := List.any_eq_false.1 blocked j hj
    simp only [decide_eq_true_eq] at hserved
    exact hblocked (by rw [r]; simpa using hserved)

theorem State.keepsPool_serveOne (s : State) (x : OwedItem) : s.KeepsPool (s.serveOne x) := by
  unfold State.serveOne
  split_ifs with h
  · obtain ⟨room, served, blocked⟩ := h
    exact State.keepsPool_addJob room (State.unreferred_of_unserved served blocked)
  · exact .refl s

theorem State.keepsPool_runService (s : State) : s.KeepsPool s.runService := .foldl State.keepsPool_serveOne _ s

/-! ### Jobs that leave, and tickets retired (R54, R145 to R157) -/

theorem State.keepsPool_leavePool (s : State) (j : Job) (o : JobOutcome) : s.KeepsPool (s.leavePool j o) :=
  State.keepsPool_filter (s.poolStep_leavePool j o).nextJob (s.leavePool_jobs j o)

theorem State.keepsPool_cancelOne (s : State) (j : Job) : s.KeepsPool (s.cancelOne j) :=
  (s.keepsPool_leavePool j .cancelled).trans (.of_eq (State.pool_settleLock _ _))

theorem State.keepsPool_cancelWhere (s : State) (p : Job → Bool) : s.KeepsPool (s.cancelWhere p) := .foldl State.keepsPool_cancelOne _ s

/-- A job of the pool returned to QUEUED (R147, R151). -/
theorem State.keepsPool_requeue {s : State} {j : Job} (hj : j ∈ s.jobs) : s.KeepsPool (s.requeue j) :=
  State.KeepsPool.trans (t := s.putJob { j with state := .queued, printed := 0 })
    (State.keepsPool_putJob hj ⟨rfl, fun h => (Bool.false_ne_true h).elim, fun _ h => h⟩) (.of_eq (State.pool_closeReceipt _ _))

/-- A COPY whose source moves refers to no ticket before or after. -/
theorem Job.follows_follow (j : Job) (n place : Nat) : Job.Follows { j with source := j.source.follow n place } j := by
  refine ⟨rfl, fun h => ⟨h, rfl⟩, fun m hm => ?_⟩
  obtain ⟨stamp, e⟩ := Job.refersTo_iff.1 hm
  refine Job.refersTo_iff.2 ⟨stamp, ?_⟩
  cases hs : j.source with
  | copyTicket i =>
    simp only [hs, JobSource.follow] at e
    split_ifs at e
  | owed m' stamp' => simpa [hs, JobSource.follow] using e
  | copySnapshot i => simp [hs, JobSource.follow] at e
  | report stamp' => simp [hs, JobSource.follow] at e

theorem Job.follows_shift (j : Job) : Job.Follows { j with source := j.source.shift } j := by
  refine ⟨rfl, fun h => ⟨h, rfl⟩, fun m hm => ?_⟩
  obtain ⟨stamp, e⟩ := Job.refersTo_iff.1 hm
  refine Job.refersTo_iff.2 ⟨stamp, ?_⟩
  cases hs : j.source <;> simp_all [JobSource.shift]

theorem State.keepsPool_dropOldest (s : State) : s.KeepsPool s.dropOldest := by
  unfold State.dropOldest
  split_ifs
  · exact (s.keepsPool_cancelWhere _).trans (State.keepsPool_map rfl rfl fun j _ => j.follows_shift)
  · exact .refl s

theorem State.keepsPool_retire (s : State) (t : Ticket) : s.KeepsPool (s.retire t) :=
  State.KeepsPool.trans (t := s.snapshotTaken t) (State.keepsPool_map rfl rfl fun j _ => j.follows_follow t.number _) <|
    State.KeepsPool.trans (.of_eq (State.pool_raise _ _)) (State.keepsPool_dropOldest _)

theorem State.keepsPool_retireIfDone (s : State) (n : Nat) : s.KeepsPool (s.retireIfDone n) := by
  unfold State.retireIfDone
  split
  · exact .refl s
  · exact .ite _ (s.keepsPool_retire _)

/-! ### Stamps (R135) -/

theorem State.keepsPool_restamp (s : State) : s.KeepsPool s.restamp := by
  refine State.keepsPool_map rfl rfl fun j _ => ?_
  split_ifs
  · split <;> rename_i hs
    · exact ⟨rfl, fun h => ⟨h, rfl⟩, fun m hm => by simpa [Job.refersTo, hs] using hm⟩
    · exact ⟨rfl, fun h => ⟨h, rfl⟩, fun m hm => absurd hm Bool.false_ne_true⟩
    · exact .refl j
    · exact .refl j
  · exact .refl j

theorem State.keepsPool_advanceStamp (s : State) : s.KeepsPool s.advanceStamp := by
  unfold State.advanceStamp
  split_ifs
  · exact .of_eq rfl
  · exact s.keepsPool_restamp

theorem State.keepsPool_owe (s : State) (t : Ticket) (kind : TicketReceipt) (port : PortId) : s.KeepsPool (s.owe t kind port) :=
  State.KeepsPool.trans (.of_eq (s.pool_putTicket _)) (State.keepsPool_advanceStamp _)

/-! ### Faults, answers and timers of a printer (R130 to R149) -/

theorem State.keepsPool_abortJob (s : State) (j : Job) : s.KeepsPool (s.abortJob j) := by
  unfold State.abortJob
  dsimp only
  refine (s.keepsPool_leavePool j .aborted).trans (.trans ?_ (.of_eq (State.pool_settleLock _ _)))
  split
  · exact State.keepsPool_retireIfDone _ _
  · exact .refl _
  · exact .refl _
  · exact .refl _

theorem State.keepsPool_printerFault (s : State) (r : PrinterId) : s.KeepsPool (s.printerFault r) := by
  unfold State.printerFault
  split
  · exact .refl s
  · rename_i j hj
    split
    · exact State.keepsPool_requeue (State.activeJob?_spec hj).1
    · exact s.keepsPool_abortJob j
    · exact .refl s

theorem State.keepsPool_setStatus (s : State) (r : PrinterId) (v : PrinterStatus) : s.KeepsPool (s.setStatus r v) := by
  unfold State.setStatus
  dsimp only
  split_ifs
  · exact .refl s
  · exact State.KeepsPool.trans (t := s.setPrinter r { s.printer r with status := v }) (.of_eq rfl)
      ((State.keepsPool_printerFault _ r).trans (.of_eq rfl))
  · exact .of_eq rfl

theorem State.keepsPool_statusReport (s : State) (r : PrinterId) (v : PrinterReport) : s.KeepsPool (s.statusReport r v) :=
  State.KeepsPool.trans (.of_eq rfl) (State.keepsPool_setStatus (s.setPrinter r _) r _)

theorem State.keepsPool_ticketPrinted (s : State) (n : Nat) (kind : TicketReceipt) (stamp : Nat) :
    s.KeepsPool (s.ticketPrinted n kind stamp) := by
  unfold State.ticketPrinted
  split
  · exact .refl s
  · rename_i t _
    dsimp only
    have put : s.KeepsPool (s.putTicket (t.afterPrint kind stamp)) := .of_eq rfl
    split_ifs
    · refine put.trans (.trans ?_ (State.keepsPool_retireIfDone _ n))
      unfold State.oweVoidNotice
      split
      · exact .refl _
      · exact State.keepsPool_owe _ _ _ _
    · exact put.trans (State.keepsPool_retireIfDone _ n)

@[simp] theorem State.pool_reportPrinted (s : State) (stamp : Nat) : (s.reportPrinted stamp).pool = s.pool := by
  unfold State.reportPrinted
  split
  · rfl
  · split
    · rfl
    · split_ifs <;> rfl

theorem State.keepsPool_sourceEffects (s : State) (j : Job) : s.KeepsPool (s.sourceEffects j) := by
  unfold State.sourceEffects
  split
  · exact s.keepsPool_ticketPrinted _ _ _
  · exact .of_eq (s.pool_reportPrinted _)
  · exact .refl s

theorem State.keepsPool_finishJob (s : State) (j : Job) : s.KeepsPool (s.finishJob j) :=
  State.KeepsPool.trans (t := s.sendEnd j.printer) (.of_eq rfl) <| (State.keepsPool_leavePool _ j .printed).trans <|
    (State.keepsPool_sourceEffects _ j).trans (.of_eq (State.pool_settleLock _ _))

@[simp] theorem State.pool_setStarted (s : State) (j : Job) : (s.setStarted j).pool = s.pool := by
  unfold State.setStarted
  split
  · split
    · rfl
    · split
      · rfl
      · split_ifs <;> rfl
  · split
    · rfl
    · split
      · rfl
      · split_ifs <;> rfl
  · rfl
  · rfl

/-- An answer acts on the job that is TAKEN or PRINTING on its printer (R143, R144). -/
theorem State.keepsPool_answerUsable (s : State) (r : PrinterId) (f : PrinterFrame) (accepted : Bool) :
    s.KeepsPool (s.answerUsable r f accepted) := by
  unfold State.answerUsable
  split
  · exact .refl s
  · rename_i j hj
    obtain ⟨mem, -, active⟩ := State.activeJob?_spec hj
    split
    · exact State.KeepsPool.trans (t := s.putJob { j with state := .printing })
        (State.keepsPool_putJob mem ⟨rfl, fun _ => ⟨active, rfl⟩, fun _ h => h⟩) (.of_eq (State.pool_setStarted _ _))
    · split_ifs
      · unfold State.lineAccepted
        dsimp only
        split_ifs
        · have counted : Job.Follows { j with printed := j.printed + 1 } j := ⟨rfl, fun h => ⟨h, rfl⟩, fun _ h => h⟩
          exact (State.keepsPool_putJob mem counted).trans (.of_eq rfl)
        · exact s.keepsPool_finishJob _
      · exact .of_eq rfl
    · exact .refl s

theorem State.keepsPool_answerReport (s : State) (r : PrinterId) (a : PrinterAnswer) : s.KeepsPool (s.answerReport r a) := by
  cases a with
  | accepted => exact .refl s
  | report v => exact s.keepsPool_statusReport r v

theorem State.keepsPool_answer (s : State) (r : PrinterId) (a : PrinterAnswer) : s.KeepsPool (s.answer r a) := by
  have cleared : s.KeepsPool (s.clearAwaited r) := .of_eq rfl
  have ended : s.KeepsPool ((s.clearAwaited r).sendEnd r) := .of_eq rfl
  unfold State.answer
  split
  · exact s.keepsPool_answerReport r a
  · dsimp only
    split_ifs
    · exact ended.trans (State.keepsPool_answerReport _ r a)
    · exact (cleared.trans (State.keepsPool_answerReport _ r a)).trans (State.keepsPool_answerUsable _ r _ _)
    · exact cleared.trans (State.keepsPool_answerReport _ r a)

theorem State.keepsPool_expireAnswer (s : State) (r : PrinterId) : s.KeepsPool (s.expireAnswer r) := by
  unfold State.expireAnswer
  split
  · exact .refl s
  · refine State.KeepsPool.trans (.of_eq ?_) (State.keepsPool_setStatus _ r .offline)
    split_ifs <;> rfl

theorem State.keepsPool_expireStatus (s : State) (r : PrinterId) : s.KeepsPool (s.expireStatus r) := by
  unfold State.expireStatus
  split
  · exact .refl s
  · refine State.KeepsPool.trans (.of_eq ?_) (State.keepsPool_setStatus _ r .offline)
    rfl

/-! ### The arbiter (R141) -/

/-- The best of a list and a candidate is one of them. -/
theorem foldl_pickJob_mem (before : Job → Job → Bool) (js : List Job) (best : Option Job) {j : Job}
    (h : js.foldl (fun best j => match best with
      | none => some j
      | some b => if before j b then some j else some b) best = some j) : best = some j ∨ j ∈ js := by
  induction js generalizing best with
  | nil => exact .inl h
  | cons x xs ih =>
    rcases ih _ h with e | e
    · cases best with
      | none => exact .inr (Option.some.inj e ▸ List.mem_cons_self)
      | some b =>
        dsimp only at e
        split_ifs at e
        · exact .inr (Option.some.inj e ▸ List.mem_cons_self)
        · exact .inl e
    · exact .inr (List.mem_cons_of_mem _ e)

/-- The job picked from a list is one of it. -/
theorem pickJob_mem {before : Job → Job → Bool} {js : List Job} {j : Job} (h : pickJob before js = some j) : j ∈ js :=
  (foldl_pickJob_mem before js none h).resolve_left nofun

/-- A QUEUED job of a printer. -/
theorem State.mem_queuedOn {s : State} {r : PrinterId} {j : Job} :
    j ∈ s.queuedOn r ↔ j ∈ s.jobs ∧ j.printer = r ∧ j.state = .queued := by
  simp [State.queuedOn]

/-- The arbiter takes a job of its printer from the pool, and only when none is TAKEN or PRINTING there. -/
theorem State.arbiterChoice_spec {s : State} {r : PrinterId} {j : Job} (h : s.arbiterChoice r = some j) :
    j ∈ s.queuedOn r ∧ s.activeJob? r = none := by
  unfold State.arbiterChoice at h
  split_ifs at h with c
  · have free : s.activeJob? r = none := by
      simp only [State.printerFree, Bool.and_eq_true] at c
      exact Option.isNone_iff_eq_none.1 c.2.1.1
    refine ⟨?_, free⟩
    split at h
    · exact pickJob_mem h
    · cases h
    · exact (List.mem_filter.1 (pickJob_mem h)).1

theorem State.keepsPool_arbiterTake (s : State) (r : PrinterId) : s.KeepsPool (s.arbiterTake r) := by
  unfold State.arbiterTake
  split
  · exact .refl s
  · rename_i j hj
    obtain ⟨mem, free⟩ := State.arbiterChoice_spec hj
    obtain ⟨inPool, rfl, -⟩ := State.mem_queuedOn.1 mem
    exact (State.keepsPool_take inPool free).trans (.of_eq rfl)

end Sys2Proof.Machine
end

section
/-! SUPPORT. The rules of the job pool (R133) through the captures, the clock, the restarts and the commands of the stations: the few
commands that touch the pool, and those that leave it. -/

namespace Sys2Proof.Machine

/-! ### Captures and scale channels, which leave the pool -/

@[simp] theorem State.pool_setMark (s : State) (owner : CaptureOwner) (m : Option Side) : (s.setMark owner m).pool = s.pool := by
  rw [State.setMark_eq]; rfl

@[simp] theorem State.pool_changeChannel (s : State) (c : ChannelId) (x : Channel) : (s.changeChannel c x).pool = s.pool := by
  rw [State.changeChannel_eq]; rfl

@[simp] theorem State.pool_releaseDue (s : State) (ts : List Ticket) : (s.releaseDue ts).pool = s.pool := by
  rw [State.releaseDue_eq]; rfl

@[simp] theorem State.pool_freeSlot (s : State) (c : ChannelId) : (s.freeSlot c).pool = s.pool := by
  rw [State.freeSlot_eq]; rfl

@[simp] theorem State.pool_endCapture (s : State) (c : ChannelId) (a : Answer) : (s.endCapture c a).pool = s.pool := by
  rw [State.endCapture_eq]; rfl

theorem State.pool_endCaptures (s : State) (which : Capture → Bool) {finishOne : State → ChannelId → State}
    (h : ∀ t c, (finishOne t c).pool = t.pool) : (s.endCaptures which finishOne).pool = s.pool :=
  State.endCaptures_induct (fun t => t.pool = s.pool) s which finishOne rfl fun t c _ ht _ _ => (h t c).trans ht

@[simp] theorem State.pool_completeCapture (s : State) (owner : CaptureOwner) (c : ChannelId) (r : Reading) :
    (s.completeCapture owner c r).1.pool = s.pool := by
  rw [State.completeCapture_eq]; rfl

@[simp] theorem State.pool_arrive (s : State) (c : ChannelId) (raw : Int) (high : Bool) : (s.arrive c raw high).pool = s.pool := by
  unfold State.arrive
  dsimp only
  split_ifs
  · unfold State.completeWaiting
    split <;> simp
  · simp

@[simp] theorem State.pool_headFault (s : State) (c : ChannelId) : (s.headFault c).pool = s.pool := by simp [State.headFault]

theorem State.pool_readingFrame (s : State) (c : ChannelId) (raw : Int) (status : HeadStatus) (checkHolds : Bool) :
    (if !checkHolds || !rawInRange raw || decide ((s.channel c).state = .off) then s
      else match status with
        | .ok => s.arrive c raw false
        | .overrange => s.arrive c raw true
        | .fault => s.headFault c
        | .other => s).pool = s.pool := by
  split_ifs
  · rfl
  · cases status <;> simp

@[simp] theorem State.pool_expireStale (s : State) (c : ChannelId) : (s.expireStale c).pool = s.pool := by
  unfold State.expireStale
  split <;> simp

@[simp] theorem State.pool_expireCapture (s : State) (c : ChannelId) : (s.expireCapture c).pool = s.pool := by
  unfold State.expireCapture
  split <;> simp

@[simp] theorem State.pool_requestCapture (s : State) (c : ChannelId) (owner : CaptureOwner) (mark : Option Side) (k : Packet) :
    (s.requestCapture c owner mark k).1.pool = s.pool := by
  unfold State.requestCapture
  split
  · rfl
  · split
    · exact s.pool_completeCapture owner c _
    · exact s.pool_setMark owner mark

/-! ### The station lines, the clock and the holds, which leave the pool -/

@[simp] theorem State.pool_expireFrame (s : State) (p : PortId) : (s.expireFrame p).pool = s.pool := by
  unfold State.expireFrame
  split <;> rfl

theorem State.pool_whileRunning {f : State → State} (s : State) (h : ∀ t : State, (f t).pool = t.pool) :
    (s.whileRunning f).pool = s.pool := by
  unfold State.whileRunning
  split_ifs
  · exact h s
  · rfl

@[simp] theorem State.pool_clockAdvance (s : State) : s.clockAdvance.pool = s.pool :=
  State.pool_whileRunning s.advanceClock fun t => t.pool_releaseDue t.tickets

@[simp] theorem State.pool_expireHold (s : State) (n : Nat) : (s.expireHold n).pool = s.pool := by
  unfold State.expireHold
  split
  · rfl
  · split
    · rfl
    · split_ifs <;> simp

/-! ### Restarts (R199): an empty pool -/

theorem State.poolStands_of_empty {s : State} (jobs : s.jobs = []) (next : s.nextJob = 1) : s.poolStands := by
  unfold State.poolStands
  rw [jobs, next]
  simp

theorem State.keepsPool_volatileStart (s : State) : s.KeepsPool s.volatileStart := fun _ => State.poolStands_of_empty rfl rfl

theorem State.keepsPool_restart (s : State) : s.KeepsPool s.restart := by
  unfold State.restart
  split_ifs
  · exact s.keepsPool_volatileStart.trans ((State.KeepsPool.of_eq (State.pool_releaseDue _ _)).trans (State.keepsPool_runService _))
  · exact fun _ => State.poolStands_of_empty rfl rfl

/-! ### One millisecond with no command waiting (log 3) -/

theorem State.keepsPool_ownSteps (s : State) : s.KeepsPool s.ownSteps := by
  have stale : ∀ (u : State) c, u.KeepsPool (u.tickStale c) := fun u c => by
    unfold State.tickStale
    split
    · exact .refl u
    · exact .ite _ (.of_eq (u.pool_expireStale c))
  have capture : ∀ (u : State) c, u.KeepsPool (u.tickCapture c) := fun u c => by
    unfold State.tickCapture
    split
    · exact .refl u
    · exact .ite _ (.of_eq (u.pool_expireCapture c))
  have frame : ∀ (u : State) p, u.KeepsPool (u.tickFrame p) := fun u p => by
    unfold State.tickFrame
    split
    · exact .refl u
    · exact .ite _ (.of_eq (u.pool_expireFrame p))
  have answer : ∀ (u : State) r, u.KeepsPool (u.tickAnswer r) := fun u r => by
    unfold State.tickAnswer
    split
    · exact .refl u
    · exact .ite _ (u.keepsPool_expireAnswer r)
  have status : ∀ (u : State) r, u.KeepsPool (u.tickStatus r) := fun u r => by
    unfold State.tickStatus
    split
    · exact .refl u
    · exact .ite _ (u.keepsPool_expireStatus r)
  exact (State.KeepsPool.foldl stale _ s).trans <| (State.KeepsPool.foldl capture _ _).trans <|
    (State.KeepsPool.foldl frame _ _).trans <| (State.KeepsPool.foldl answer _ _).trans <|
    (State.KeepsPool.foldl status _ _).trans <| (State.KeepsPool.of_eq (State.pool_releaseDue _ _)).trans <|
    (State.keepsPool_runService _).trans <| (State.KeepsPool.foldl State.keepsPool_arbiterTake _ _).trans <|
    State.KeepsPool.foldl (fun u p => .of_eq (u.pool_setPort p _)) _ _

theorem State.keepsPool_idle (s : State) : s.KeepsPool s.idle :=
  State.KeepsPool.trans (t := ({ s with timebase := s.timebase + 1 } : State).tickClock)
    (.ite (s := { s with timebase := s.timebase + 1 }) _ (.of_eq (State.pool_clockAdvance _))) (.whileRunning _ State.keepsPool_ownSteps)

/-! ### Requests that leave the pool (chapters 1 to 4) -/

theorem State.pool_withTicket (s : State) (inRange : Bool) (n : Nat) (allowed : TicketState → Bool) (run : Ticket → Effect)
    (h : ∀ t, (run t).1.pool = s.pool) : (s.withTicket inRange n allowed run).1.pool = s.pool :=
  s.withTicket_induct (P := fun e => e.1.pool = s.pool) _ _ _ _ (fun _ => rfl) fun t _ => h t

theorem State.pool_withLine (s : State) (inRange : Bool) (n k : Nat) (allowed : TicketState → Bool) (run : Ticket → Line → Effect)
    (h : ∀ t ln, (run t ln).1.pool = s.pool) : (s.withLine inRange n k allowed run).1.pool = s.pool :=
  s.withLine_induct (P := fun e => e.1.pool = s.pool) _ _ _ _ _ (fun _ => rfl) fun t ln _ => h t ln

theorem pool_capture (k : Packet) (a : CaptureArgs) (s : State) : (capture k a s).1.pool = s.pool := by
  unfold capture
  split
  · refine s.pool_withLine _ _ _ _ _ fun t ln => ?_
    split
    · rfl
    · exact s.pool_requestCapture _ _ _ k
  · rfl

theorem pool_storeTare (k : Packet) (a : PlateByteArgs) (s : State) : (storeTare k a s).1.pool = s.pool := by
  unfold storeTare
  split
  · dsimp only
    split_ifs
    · rfl
    · exact s.pool_requestCapture _ _ _ k
  · rfl

theorem pool_dropTare (plate : Text) (s : State) : (dropTare plate s).1.pool = s.pool := by
  unfold dropTare
  split_ifs
  · split <;> rfl
  · rfl

theorem pool_readTare (a : PlateByteArgs) (s : State) : (readTare a s).1.pool = s.pool := by
  unfold readTare
  split_ifs
  · rfl
  · rfl
  · rfl
  · split <;> rfl

theorem pool_useStoredTare (a : TicketLineArgs) (s : State) : (useStoredTare a s).1.pool = s.pool := by
  refine s.pool_withLine _ _ _ _ _ fun t ln => ?_
  split
  · rfl
  · split
    · rfl
    · split_ifs <;> rfl

theorem pool_configureScale (a : ConfigureScaleArgs) (s : State) : (configureScale a s).1.pool = s.pool := by
  unfold configureScale
  split
  · split_ifs
    · rfl
    · rfl
    · exact s.pool_changeChannel _ _
  · rfl

theorem pool_zeroScale (channel : Nat) (s : State) : (zeroScale channel s).1.pool = s.pool := by
  unfold zeroScale
  split
  · rfl
  · dsimp only
    split
    · rfl
    split
    · rfl
    split
    · rfl
    split
    · rfl
    split
    · rfl
    split
    · rfl
    · exact s.pool_changeChannel _ _

theorem pool_readScale (channel : Nat) (s : State) : (readScale channel s).1.pool = s.pool := by
  unfold readScale
  split <;> rfl

theorem pool_openTicket (port : PortId) (a : OpenTicketArgs) (s : State) : (openTicket port a s).1.pool = s.pool := by
  unfold openTicket
  split
  · rfl
  · dsimp only
    split_ifs <;> rfl

theorem pool_addLine (a : AddLineArgs) (s : State) : (addLine a s).1.pool = s.pool := by
  refine s.pool_withTicket _ _ _ _ fun t => ?_
  split_ifs <;> rfl

theorem pool_removeLine (a : TicketLineArgs) (s : State) : (removeLine a s).1.pool = s.pool := by
  have removed : ∀ (u : State) n k, (u.removeLine n k).pool = u.pool := fun u n k => by
    unfold State.removeLine
    split <;> rfl
  refine s.pool_withLine _ _ _ _ _ fun t ln => (removed _ _ _).trans ?_
  split
  · exact s.pool_endCaptures _ fun u c => u.pool_endCapture c _
  · rfl

theorem pool_setDeduction (a : SetDeductionArgs) (s : State) : (setDeduction a s).1.pool = s.pool :=
  s.pool_withLine _ _ _ _ _ fun _ _ => rfl

theorem pool_keyWeight (a : KeyWeightArgs) (s : State) : (keyWeight a s).1.pool = s.pool := by
  unfold keyWeight
  split
  · rfl
  · refine s.pool_withLine _ _ _ _ _ fun t ln => ?_
    split_ifs <;> rfl

theorem pool_acceptMargin (n : Nat) (s : State) : (acceptMargin n s).1.pool = s.pool := s.pool_withTicket _ _ _ _ fun _ => rfl

theorem pool_readTicket (a : TicketByteArgs) (s : State) : (readTicket a s).1.pool = s.pool := by
  refine s.pool_withTicket _ _ _ _ fun t => ?_
  split_ifs
  · rfl
  · split <;> rfl

theorem pool_listTickets (place : Nat) (s : State) : (listTickets place s).1.pool = s.pool := by
  unfold listTickets
  split_ifs <;> rfl

theorem pool_editRule (a : EditRuleArgs) (s : State) : (editRule a s).1.pool = s.pool := by
  unfold editRule
  split <;> rfl

theorem pool_commitPrices (x : Unit) (s : State) : (commitPrices x s).1.pool = s.pool := by
  unfold commitPrices
  split <;> rfl

theorem pool_discardPrices (x : Unit) (s : State) : (discardPrices x s).1.pool = s.pool := by
  unfold discardPrices
  split <;> rfl

theorem pool_readRule (a : TwoByteArgs) (s : State) : (readRule a s).1.pool = s.pool := by
  unfold readRule
  split
  · split <;> rfl
  · rfl

/-! ### Requests that leave the pool (chapters 6 to 10) -/

theorem pool_setClock (time : ClockTime) (s : State) : (setClock time s).1.pool = s.pool := by
  unfold setClock
  split_ifs
  · exact State.pool_releaseDue { s with clock := time } _
  · rfl

theorem pool_releaseHold (n : Nat) (s : State) : (releaseHold n s).1.pool = s.pool := s.pool_withTicket _ _ _ _ fun _ => rfl

theorem pool_floatDrawer (port : PortId) (a : DrawerArgs) (s : State) : (floatDrawer port a s).1.pool = s.pool := by
  unfold floatDrawer
  split
  · split_ifs
    · rfl
    · split
      · rfl
      · split_ifs <;> rfl
  · rfl

theorem pool_liftDrawer (a : DrawerArgs) (s : State) : (liftDrawer a s).1.pool = s.pool := by
  unfold liftDrawer
  split
  · split
    · rfl
    · split_ifs <;> rfl
  · rfl

theorem pool_readDrawer (port : PortId) (named : Nat) (s : State) : (readDrawer port named s).1.pool = s.pool := by
  unfold readDrawer
  split
  · rfl
  · split_ifs
    · rfl
    · split <;> rfl

theorem pool_readTotals (a : TwoByteArgs) (s : State) : (readTotals a s).1.pool = s.pool := by
  unfold readTotals
  split
  · rfl
  · split_ifs
    · rfl
    · split
      · rfl
      · split <;> rfl

theorem pool_unlockPrinter (printer : Nat) (s : State) : (unlockPrinter printer s).1.pool = s.pool := by
  unfold unlockPrinter
  split
  · rfl
  · split <;> simp

theorem pool_setHeader (a : SetHeaderArgs) (s : State) : (setHeader a s).1.pool = s.pool := by
  unfold setHeader
  split
  · split_ifs <;> rfl
  · rfl

theorem pool_readPrinter (printer : Nat) (s : State) : (readPrinter printer s).1.pool = s.pool := by
  unfold readPrinter
  split <;> rfl

theorem pool_setOption (a : SetOptionArgs) (s : State) : (setOption a s).1.pool = s.pool := by
  unfold setOption
  split
  · rfl
  · split <;> rfl

/-- CONFIGURE PORT releases locks and rewrites ports (R185). -/
theorem pool_configurePort (requester : PortId) (a : ConfigurePortArgs) (s : State) : (configurePort requester a s).1.pool = s.pool := by
  unfold configurePort
  split
  · rfl
  · split
    · rfl
    · unfold State.configurePort
      dsimp only
      split
      · rfl
      · split_ifs
        · exact State.pool_releaseLocks _ requester
        · rfl

theorem pool_portReset (port : PortId) (x : Unit) (s : State) : (portReset port x s).1.pool = s.pool := by
  have abandoned : (s.abandonCapture port).pool = s.pool := s.pool_endCaptures _ fun u c => u.pool_freeSlot c
  have cleared : ∀ u : State, (u.setPort port (u.port port).cleared).pool = u.pool := fun u => u.pool_setPort port _
  exact (cleared _).trans ((State.pool_releaseLocks _ port).trans abandoned)

theorem pool_subscribe (port : PortId) (set : Nat) (s : State) : (subscribe port set s).1.pool = s.pool := by
  unfold subscribe
  split_ifs <;> rfl

theorem pool_releaseAttention (port : PortId) (value : Nat) (s : State) : (releaseAttention port value s).1.pool = s.pool := by
  unfold releaseAttention
  split <;> rfl

/-! ### Commands that touch the pool: tickets (R51, R53, R100, R138, R139) -/

theorem State.keepsPool_withdrawAtVoid (s : State) (t : Ticket) : s.KeepsPool (s.withdrawAtVoid t) := by
  have cleared : s.KeepsPool (s.putTicket { t with owed := none }) := .of_eq rfl
  unfold State.withdrawAtVoid
  split
  · exact .refl s
  · split
    · exact cleared
    · split_ifs
      · exact .refl s
      · exact cleared.trans (State.keepsPool_cancelOne _ _)

theorem State.keepsPool_oweNoticeAtVoid (s : State) (n : Nat) (port : PortId) : s.KeepsPool (s.oweNoticeAtVoid n port) := by
  unfold State.oweNoticeAtVoid
  split
  · exact .refl s
  · exact .ite _ (s.keepsPool_owe _ _ _)

theorem State.keepsPool_voidTicket (s : State) (n : Nat) (port : PortId) (reason : Nat) : s.KeepsPool (s.voidTicket n port reason) := by
  have cancelled : s.KeepsPool (s.cancelTicketCaptures n) := .of_eq (s.pool_endCaptures _ fun u c => u.pool_endCapture c _)
  unfold State.voidTicket
  dsimp only
  refine cancelled.trans ?_
  generalize s.cancelTicketCaptures n = c
  split
  · exact .refl _
  · rename_i t _
    have moved : c.KeepsPool (({ c with totals := c.totals.countVoid } : State).moveTicket (t.voidedBy port reason)) := .of_eq rfl
    exact moved.trans <| (State.keepsPool_withdrawAtVoid _ _).trans <| (State.keepsPool_oweNoticeAtVoid _ _ _).trans <|
      State.keepsPool_retireIfDone _ _

theorem keepsPool_voidTicket (port : PortId) (a : TicketByteArgs) (s : State) : s.KeepsPool (voidTicket port a s).1 := by
  refine s.withTicket_induct (P := fun e => s.KeepsPool e.1) _ _ _ _ (fun _ => .refl s) fun t _ => ?_
  split_ifs
  · exact .refl s
  · exact s.keepsPool_voidTicket _ _ _

/-- A PRINTING job of the receipt prints on from a snapshot; another leaves the pool (R139). -/
theorem State.keepsPool_withdrawAtReopen (s : State) (t : Ticket) : s.KeepsPool (s.withdrawAtReopen t) := by
  unfold State.withdrawAtReopen
  split
  · exact .refl s
  · split
    · exact .refl s
    · rename_i j hj
      split_ifs
      · exact State.keepsPool_putJob (State.servingJob?_spec hj).1 ⟨rfl, fun h => ⟨h, rfl⟩, fun _ h => h⟩
      · exact s.keepsPool_cancelOne j

theorem keepsPool_reopenTicket (n : Nat) (s : State) : s.KeepsPool (reopenTicket n s).1 := by
  refine s.withTicket_induct (P := fun e => s.KeepsPool e.1) _ _ _ _ (fun _ => .refl s) fun t _ => ?_
  split_ifs
  · exact .refl s
  · exact (s.keepsPool_withdrawAtReopen t).trans (State.KeepsPool.trans (.of_eq (State.pool_moveTicket _ _)) (State.keepsPool_cancelWhere _ _))

theorem keepsPool_closeTicket (port : PortId) (a : TicketByteArgs) (s : State) : s.KeepsPool (closeTicket port a s).1 := by
  refine s.withTicket_induct (P := fun e => s.KeepsPool e.1) _ _ _ _ (fun _ => .refl s) fun t _ => ?_
  split
  · exact .refl s
  · dsimp only
    split_ifs
    · exact State.KeepsPool.trans (.of_eq (s.pool_moveTicket _)) (State.keepsPool_owe _ _ _ _)
    · exact .of_eq rfl

/-- A job converted to the PAYOUT receipt of its ticket stays TAKEN on its own printer alone (R138). -/
theorem State.keepsPool_convertJob {s : State} {t : Ticket} {j : Job} (hj : j ∈ s.jobs) (refers : j.refersTo t.number = true) (o : Owed) :
    s.KeepsPool (s.convertJob t o j) := by
  have same : ∀ n, (s.convertedJob t o j).refersTo n = true → j.refersTo n = true := fun n h =>
    (of_decide_eq_true h : t.number = n) ▸ refers
  cases hs : j.state with
  | printing => rw [State.convertJob_printing hs]; exact .refl s
  | queued =>
    rw [State.convertJob_queued hs]
    exact State.keepsPool_putJob hj ⟨rfl, fun h => absurd hs (of_decide_eq_true h), same⟩
  | taken =>
    rw [State.convertJob_taken hs]
    split_ifs with e
    · exact State.keepsPool_putJob hj ⟨rfl, fun h => ⟨h, e⟩, same⟩
    · exact State.KeepsPool.trans (t := s.putJob { s.convertedJob t o j with state := .queued })
        (State.keepsPool_putJob hj ⟨rfl, fun h => (Bool.false_ne_true h).elim, same⟩) (.of_eq (State.pool_closeReceipt _ _))

theorem State.keepsPool_convertServing (s : State) (t : Ticket) (o : Owed) (old : Option Owed) : s.KeepsPool (s.convertServing t o old) := by
  unfold State.convertServing
  split
  · exact .refl s
  · rename_i j hj
    obtain ⟨x, -, hs⟩ := Option.bind_eq_some_iff.1 hj
    obtain ⟨mem, source⟩ := State.servingJob?_spec hs
    exact State.keepsPool_convertJob mem (Job.refersTo_iff.2 ⟨x.stamp, source⟩) o

theorem State.keepsPool_owePayout (s : State) (t : Ticket) (port : PortId) : s.KeepsPool (s.owePayout t port) := by
  rw [State.owePayout_eq]
  exact (State.KeepsPool.of_eq (s.pool_putTicket _)).trans <| (State.keepsPool_convertServing _ _ _ _).trans <|
    State.keepsPool_advanceStamp _

theorem State.keepsPool_payTicket (s : State) (t : Ticket) (port : PortId) (method : PayMethod) (amount : Nat) (rounding : Int)
    (hit : Bool) : s.KeepsPool (s.payTicket t port method amount rounding hit) := by
  let u : State := { s with totals := (s.totals.feed t.lines method amount rounding).orSaturated hit }
  have moved : s.KeepsPool (u.moveTicket (s.paidTicket t port method amount rounding)) := .of_eq rfl
  exact moved.trans (State.keepsPool_owePayout _ _ port)

theorem keepsPool_pay (port : PortId) (a : TicketByteArgs) (s : State) : s.KeepsPool (pay port a s).1 := by
  have cash : ∀ t total, s.KeepsPool (s.payCash port t total).1 := fun t total => by
    unfold State.payCash
    split
    · exact .refl s
    · dsimp only
      split_ifs
      · exact .refl s
      · exact .refl s
      · exact State.KeepsPool.trans (.of_eq (s.pool_setDrawer port _)) (State.keepsPool_payTicket _ t port _ _ _ _)
  unfold pay
  split
  · split
    · exact .refl s
    · split_ifs
      · exact .refl s
      · exact .refl s
      · split
        · exact cash _ _
        · exact s.keepsPool_payTicket _ port _ _ _ _
  · exact .refl s

theorem keepsPool_endDay (port : PortId) (printer : Nat) (s : State) : s.KeepsPool (endDay port printer s).1 := by
  unfold endDay
  split
  · exact .refl s
  · split_ifs
    · exact .refl s
    · refine State.KeepsPool.trans (.of_eq ?_) (State.keepsPool_advanceStamp _)
      rfl

/-! ### Commands that touch the pool: printers and copies (R151, R154, R155) -/

theorem keepsPool_lockPrinter (port : PortId) (printer : Nat) (s : State) : s.KeepsPool (lockPrinter port printer s).1 := by
  have locked : ∀ r l, s.KeepsPool (s.setLock r l) := fun r l => .of_eq (s.pool_setLock r l)
  unfold lockPrinter
  split
  · exact .refl s
  · split
    · exact .refl s
    · exact .refl s
    · split
      · exact locked _ _
      · rename_i j hj
        split_ifs
        · exact locked _ _
        · split
          · exact locked _ _
          · exact (State.keepsPool_requeue (State.activeJob?_spec hj).1).trans (.of_eq (State.pool_setLock _ _ _))
          · exact locked _ _

theorem keepsPool_cancelJob (port : PortId) (id : Nat) (s : State) : s.KeepsPool (cancelJob port id s).1 := by
  unfold cancelJob
  split_ifs
  · exact .refl s
  · split
    · exact .refl s
    · split
      · exact .refl s
      · split
        · exact .refl s
        · exact .refl s
        · split
          · exact .refl s
          · exact s.keepsPool_cancelOne _

/-- The source of a copy is a ticket of the table or a snapshot (R155). -/
theorem State.copySource_refers {s : State} {n : Nat} {source : JobSource} {t : Ticket} {kind : TicketReceipt}
    (h : s.copySource n = some (source, t, kind)) : source = .copyTicket n ∨ ∃ i, source = .copySnapshot i := by
  unfold State.copySource at h
  split at h
  · rename_i found hf
    obtain ⟨x, -, hx⟩ := Option.bind_eq_some_iff.1 hf
    obtain ⟨k, -, rfl⟩ := Option.map_eq_some_iff.1 hx
    exact .inl (congrArg Prod.fst (Option.some.inj h)).symm
  · obtain ⟨i, -, hi⟩ := Option.bind_eq_some_iff.1 h
    obtain ⟨x, -, hx⟩ := Option.bind_eq_some_iff.1 hi
    obtain ⟨k, -, e⟩ := Option.map_eq_some_iff.1 hx
    exact .inr ⟨i, (congrArg Prod.fst e).symm⟩

/-- A COPY refers to no ticket, and joins only a pool with room (R133, R155). -/
theorem keepsPool_printCopy (port : PortId) (a : TicketByteArgs) (s : State) : s.KeepsPool (printCopy port a s).1 := by
  unfold printCopy
  split
  · split
    · exact .refl s
    · rename_i source t kind hc
      split_ifs with room
      · exact .refl s
      · refine State.keepsPool_addJob (Nat.lt_of_not_le room) fun n h => ?_
        rcases State.copySource_refers hc with rfl | ⟨i, rfl⟩
        · exact absurd h Bool.false_ne_true
        · exact absurd h Bool.false_ne_true
  · exact .refl s

/-! ### Packets and steps -/

/-- A packet taken keeps the rules of the pool when its command's effect does (Table 9-10). -/
theorem takeCommand_keepsPool {α : Type} {bypass : Bool} {allowed : Role → Bool} {parse : List Byte → Option α}
    {run : α → State → Effect} {k : Packet} {s t : State} (h : ∀ a (u : State), u.KeepsPool (run a u).1)
    (ht : takeCommand bypass allowed parse run k s = .next t) : s.KeepsPool t := by
  cases ht
  have hunt : s.KeepsPool (s.hunt k.port) := .of_eq (s.pool_hunt k.port)
  have reply : ∀ (u : State) a, u.KeepsPool (u.reply k.port k.tag a) := fun u a => .of_eq (u.pool_reply _ _ a)
  refine State.KeepsPool.ite _ ?_
  dsimp only
  split_ifs
  · exact hunt
  · exact hunt
  · refine hunt.trans ?_
    unfold State.passPacket
    split
    · exact reply _ _
    split
    · exact reply _ _
    split
    · rename_i a _ _
      have effect := h a (s.hunt k.port)
      split
      · rename_i v answer he
        rw [he] at effect
        exact effect.trans (reply _ _)
      · rename_i v he
        rw [he] at effect
        exact effect
    · exact reply _ _

/-- A packet whose command's effect leaves the pool. -/
theorem takeCommand_keepsPool_of_eq {α : Type} {bypass : Bool} {allowed : Role → Bool} {parse : List Byte → Option α}
    {run : α → State → Effect} {k : Packet} {s t : State} (h : ∀ a (u : State), (run a u).1.pool = u.pool)
    (ht : takeCommand bypass allowed parse run k s = .next t) : s.KeepsPool t :=
  takeCommand_keepsPool (fun a u => .of_eq (h a u)) ht

theorem keepsPool_of_next {s t u : State} (h : s.KeepsPool u) (e : (Host.Outcome.next u : Result) = .next t) : s.KeepsPool t := by
  cases e
  exact h

theorem takeUnknown_keepsPool {k : Packet} {s t : State} (h : takeUnknown k s = .next t) : s.KeepsPool t := by
  refine keepsPool_of_next (.of_eq (State.pool_whileRunning s fun u => ?_)) h
  split_ifs
  · rfl
  · rfl
  · unfold State.answerUnknown
    split <;> rfl

/-- Every packet that a receiver has taken. -/
theorem takePacket_keepsPool {i : Instr} {s t : State} (h : takePacket i s = .next t) : s.KeepsPool t := by
  cases i with
  | systemReset k => exact takeCommand_keepsPool (run := systemReset) (fun _ u => u.keepsPool_restart) h
  | voidTicket k => exact takeCommand_keepsPool (keepsPool_voidTicket k.port) h
  | reopenTicket k => exact takeCommand_keepsPool keepsPool_reopenTicket h
  | closeTicket k => exact takeCommand_keepsPool (keepsPool_closeTicket k.port) h
  | pay k => exact takeCommand_keepsPool (keepsPool_pay k.port) h
  | endDay k => exact takeCommand_keepsPool (keepsPool_endDay k.port) h
  | lockPrinter k => exact takeCommand_keepsPool (keepsPool_lockPrinter k.port) h
  | cancelJob k => exact takeCommand_keepsPool (keepsPool_cancelJob k.port) h
  | printCopy k => exact takeCommand_keepsPool (keepsPool_printCopy k.port) h
  | readStatus k => exact takeCommand_keepsPool_of_eq (run := readStatus k.port) (fun _ _ => rfl) h
  | portReset k => exact takeCommand_keepsPool_of_eq (pool_portReset k.port) h
  | configurePort k => exact takeCommand_keepsPool_of_eq (pool_configurePort k.port) h
  | setOption k => exact takeCommand_keepsPool_of_eq pool_setOption h
  | clearFault k => exact takeCommand_keepsPool_of_eq (run := clearFault) (fun _ _ => rfl) h
  | configureScale k => exact takeCommand_keepsPool_of_eq pool_configureScale h
  | zero k => exact takeCommand_keepsPool_of_eq pool_zeroScale h
  | readScale k => exact takeCommand_keepsPool_of_eq pool_readScale h
  | openTicket k => exact takeCommand_keepsPool_of_eq (pool_openTicket k.port) h
  | addLine k => exact takeCommand_keepsPool_of_eq pool_addLine h
  | removeLine k => exact takeCommand_keepsPool_of_eq pool_removeLine h
  | setDeduction k => exact takeCommand_keepsPool_of_eq pool_setDeduction h
  | keyWeight k => exact takeCommand_keepsPool_of_eq pool_keyWeight h
  | acceptMargin k => exact takeCommand_keepsPool_of_eq pool_acceptMargin h
  | capture k => exact takeCommand_keepsPool_of_eq (pool_capture k) h
  | readTicket k => exact takeCommand_keepsPool_of_eq pool_readTicket h
  | listTickets k => exact takeCommand_keepsPool_of_eq pool_listTickets h
  | storeTare k => exact takeCommand_keepsPool_of_eq (pool_storeTare k) h
  | dropTare k => exact takeCommand_keepsPool_of_eq pool_dropTare h
  | readTare k => exact takeCommand_keepsPool_of_eq pool_readTare h
  | useStoredTare k => exact takeCommand_keepsPool_of_eq pool_useStoredTare h
  | editRule k => exact takeCommand_keepsPool_of_eq pool_editRule h
  | commitPrices k => exact takeCommand_keepsPool_of_eq pool_commitPrices h
  | discardPrices k => exact takeCommand_keepsPool_of_eq pool_discardPrices h
  | readRule k => exact takeCommand_keepsPool_of_eq pool_readRule h
  | setClock k => exact takeCommand_keepsPool_of_eq pool_setClock h
  | releaseHold k => exact takeCommand_keepsPool_of_eq pool_releaseHold h
  | float k => exact takeCommand_keepsPool_of_eq (pool_floatDrawer k.port) h
  | lift k => exact takeCommand_keepsPool_of_eq pool_liftDrawer h
  | readDrawer k => exact takeCommand_keepsPool_of_eq (pool_readDrawer k.port) h
  | unlockPrinter k => exact takeCommand_keepsPool_of_eq pool_unlockPrinter h
  | setHeader k => exact takeCommand_keepsPool_of_eq pool_setHeader h
  | readPrinter k => exact takeCommand_keepsPool_of_eq pool_readPrinter h
  | readTotals k => exact takeCommand_keepsPool_of_eq pool_readTotals h
  | subscribe k => exact takeCommand_keepsPool_of_eq (pool_subscribe k.port) h
  | releaseAttention k => exact takeCommand_keepsPool_of_eq (pool_releaseAttention k.port) h
  | readAttention k => exact takeCommand_keepsPool_of_eq (run := readAttention k.port) (fun _ _ => rfl) h
  | clearOverflow k => exact takeCommand_keepsPool_of_eq (run := clearOverflow k.port) (fun _ _ => rfl) h
  | unknownCommand k code => exact takeUnknown_keepsPool h
  | discardedPacket | frameAbandoned | interByteTimeout | frameSent | attentionHandover | readingFrame | staleExpiry
  | captureTimeout | printerStatusFrame | printerAnswer | answerTimerExpiry | statusTimerExpiry | arbiterTake
  | owedReceiptService | clockAdvance | holdExpiry | powerUp | mainSupplyFail | resetLineAssert | resetLineRelease
  | startByte | batteryFailure => cases h; exact .refl s

theorem takeBody_keepsPool {p : PortId} {body : List Byte} {s t : State} (h : takeBody p body s = .next t) : s.KeepsPool t := by
  have hunt : s.KeepsPool (s.whileRunning fun s => s.hunt p) := .of_eq (State.pool_whileRunning s fun u => u.pool_hunt p)
  unfold takeBody at h
  split at h
  · exact keepsPool_of_next hunt h
  · split at h
    · exact keepsPool_of_next hunt h
    · exact takePacket_keepsPool h

theorem takeStartByte_keepsPool {p : PortId} {s t : State} (h : takeStartByte p s = .next t) : s.KeepsPool t := by
  unfold takeStartByte at h
  dsimp only at h
  split at h
  · exact keepsPool_of_next (.of_eq (s.pool_setPort p _)) h
  · split at h
    · exact keepsPool_of_next (.of_eq (s.pool_setPort p _)) h
    · exact keepsPool_of_next (.of_eq (s.pool_hunt p)) h
    · exact takeBody_keepsPool h

/-- Every row. -/
theorem exec_keepsPool {i : Instr} {s t : State} (h : exec i s = .next t) : s.KeepsPool t := by
  cases i with
  | unknownCommand k code => exact takePacket_keepsPool h
  | discardedPacket p body => exact takeBody_keepsPool h
  | frameAbandoned p cause => exact keepsPool_of_next (.whileRunning s fun u => .of_eq (u.pool_hunt p)) h
  | interByteTimeout p => exact keepsPool_of_next (.whileRunning s fun u => .of_eq (u.pool_expireFrame p)) h
  | frameSent p => exact keepsPool_of_next (.whileRunning s fun u => .of_eq (u.pool_setPort p _)) h
  | attentionHandover p => exact keepsPool_of_next (.whileRunning s fun u => .of_eq (u.pool_setPort p _)) h
  | readingFrame c raw status ok => exact keepsPool_of_next (.whileRunning s fun u => .of_eq (u.pool_readingFrame c raw status ok)) h
  | staleExpiry c => exact keepsPool_of_next (.whileRunning s fun u => .of_eq (u.pool_expireStale c)) h
  | captureTimeout c => exact keepsPool_of_next (.whileRunning s fun u => .of_eq (u.pool_expireCapture c)) h
  | printerStatusFrame r v ok => exact keepsPool_of_next (.whileRunning s fun u => .ite ok (u.keepsPool_statusReport r v)) h
  | printerAnswer r a ok => exact keepsPool_of_next (.whileRunning s fun u => .ite ok (u.keepsPool_answer r a)) h
  | answerTimerExpiry r => exact keepsPool_of_next (.whileRunning s fun u => u.keepsPool_expireAnswer r) h
  | statusTimerExpiry r => exact keepsPool_of_next (.whileRunning s fun u => u.keepsPool_expireStatus r) h
  | arbiterTake r => exact keepsPool_of_next (.whileRunning s fun u => u.keepsPool_arbiterTake r) h
  | owedReceiptService => exact keepsPool_of_next (.whileRunning s State.keepsPool_runService) h
  | clockAdvance => exact keepsPool_of_next (.of_eq s.pool_clockAdvance) h
  | holdExpiry n => exact keepsPool_of_next (.whileRunning s fun u => .of_eq (u.pool_expireHold n)) h
  | powerUp =>
    have supplied : s.KeepsPool { s with mainSupply := true } := .of_eq rfl
    refine keepsPool_of_next (supplied.trans ?_) h
    split
    · exact State.keepsPool_restart _
    · exact State.keepsPool_volatileStart _
  | mainSupplyFail => exact keepsPool_of_next (State.keepsPool_volatileStart { s with mainSupply := false }) h
  | resetLineAssert => exact keepsPool_of_next (u := { s with resetHigh := false }) (.of_eq rfl) h
  | resetLineRelease =>
    have released : s.KeepsPool { s with resetHigh := true } := .of_eq rfl
    exact keepsPool_of_next (released.trans (.ite _ (State.keepsPool_restart _))) h
  | startByte p =>
    change (if s.running then takeStartByte p s else .next s) = .next t at h
    split at h
    · exact takeStartByte_keepsPool h
    · exact keepsPool_of_next (.refl s) h
  | batteryFailure =>
    refine keepsPool_of_next (s := s) (.of_eq ?_) h
    split <;> rfl
  | readStatus | portReset | configurePort | setOption | clearFault | systemReset | configureScale | zero | readScale
  | openTicket | addLine | removeLine | setDeduction | keyWeight | acceptMargin | capture | voidTicket | reopenTicket
  | readTicket | listTickets | storeTare | dropTare | readTare | useStoredTare | editRule | commitPrices | discardPrices
  | readRule | closeTicket | setClock | releaseHold | float | lift | readDrawer | pay | lockPrinter | unlockPrinter
  | cancelJob | printCopy | setHeader | readPrinter | readTotals | endDay | subscribe | releaseAttention | readAttention
  | clearOverflow => exact takePacket_keepsPool ((exec_eq_takePacket rfl (fun _ _ => Instr.noConfusion) s).symm.trans h)

/-- Settles O57: a job joins only through the service and PRINT COPY, becomes active only at the arbiter, and refers to no new ticket;
every other operation leaves the pool, thins it, or empties it. -/
theorem poolKept : Obligations.PoolKept := by
  intro s t hs h
  unfold step at h
  split at h
  · exact keepsPool_of_next s.keepsPool_idle h hs
  · rename_i rest _
    exact exec_keepsPool (s := { s with pending := rest }) h hs

end Sys2Proof.Machine
end

section
/-! The arbiter's choice (R141, R142), the owed-receipt service (R135 to R137), and the length of a receipt (Table 7-4). -/

namespace Sys2Proof.Machine

/-! ### The first job of a list under an order -/

/-- A job goes before another in an order, and the other not before it. -/
def Job.leads (before : Job → Job → Bool) (j x : Job) : Prop := before j x = true ∧ before x j = false

/-- One job compared with the best so far, as `pickJob` does it. -/
def betterJob (before : Job → Job → Bool) (best : Option Job) (x : Job) : Option Job :=
  match best with
  | none => some x
  | some b => if before x b then some x else some b

theorem pickJob_eq_foldl (before : Job → Job → Bool) (js : List Job) : pickJob before js = js.foldl (betterJob before) none := rfl

section
variable {before : Job → Job → Bool} {j : Job}

/-- A job that leads every other stays the best. -/
theorem foldl_betterJob_leader {js : List Job} (leads : ∀ x ∈ js, x ≠ j → j.leads before x) :
    js.foldl (betterJob before) (some j) = some j := by
  induction js with
  | nil => rfl
  | cons x xs ih =>
    have kept : betterJob before (some j) x = some j := by
      by_cases e : x = j
      · simp [betterJob, e]
      · simp [betterJob, (leads x List.mem_cons_self e).2]
    rw [List.foldl_cons, kept]
    exact ih fun y hy => leads y (List.mem_cons_of_mem _ hy)

/-- A job that leads every other, and the best before it, becomes the best. -/
theorem foldl_betterJob_mem {js : List Job} (leads : ∀ x ∈ js, x ≠ j → j.leads before x) (hj : j ∈ js) (best : Option Job)
    (behind : ∀ b, best = some b → b ≠ j → j.leads before b) : js.foldl (betterJob before) best = some j := by
  induction js generalizing best with
  | nil => cases hj
  | cons x xs ih =>
    have tail : ∀ y ∈ xs, y ≠ j → j.leads before y := fun y hy => leads y (List.mem_cons_of_mem _ hy)
    rw [List.foldl_cons]
    by_cases e : x = j
    · have taken : betterJob before best x = some j := by
        cases hb : best with
        | none => rw [betterJob, e]
        | some b =>
          by_cases eb : b = j
          · simp [betterJob, e, eb]
          · simp [betterJob, e, (behind b hb eb).1]
      rw [taken]
      exact foldl_betterJob_leader tail
    · refine ih tail ((List.mem_cons.1 hj).resolve_left (Ne.symm e)) _ fun b hb ne => ?_
      cases best with
      | none =>
        cases hb
        exact leads x List.mem_cons_self e
      | some c =>
        rw [betterJob] at hb
        split_ifs at hb
        · cases hb
          exact leads x List.mem_cons_self e
        · exact behind b hb ne

/-- The job of a list that leads every other is the one picked. -/
theorem pickJob_eq_some {js : List Job} (hj : j ∈ js) (leads : ∀ x ∈ js, x ≠ j → j.leads before x) : pickJob before js = some j := by
  rw [pickJob_eq_foldl]
  exact foldl_betterJob_mem leads hj none fun b h => nomatch h

end

/-! ### What the arbiter takes (R141) -/

/-- Of higher rank, or of the same rank and older (R141). -/
theorem Job.leads_outranks {j x : Job} (h : x.rank < j.rank ∨ (x.rank = j.rank ∧ j.age < x.age)) : j.leads Job.outranks x := by
  constructor
  · rcases h with h | ⟨e, h⟩
    · simp [Job.outranks, h]
    · simp [Job.outranks, Job.older, e, h]
  · simp only [Job.outranks, Job.older, Bool.or_eq_false_iff, Bool.and_eq_false_iff, decide_eq_false_iff_not]
    omega

theorem Job.leads_older {j x : Job} (h : j.age < x.age) : j.leads Job.older x :=
  ⟨decide_eq_true h, decide_eq_false (Nat.lt_asymm h)⟩

section
variable {s : State} {r : PrinterId}

/-- The choice of a usable, free printer with the lock NONE. -/
theorem State.arbiterChoice_unlocked (usable : (s.printer r).status.usable = true) (free : s.printerFree r = true)
    (lock : (s.printer r).lock = .none) : s.arbiterChoice r = pickJob Job.outranks (s.queuedOn r) := by
  simp [State.arbiterChoice, usable, free, lock]

/-- The choice of a usable, free printer that a port holds. -/
theorem State.arbiterChoice_locked {p : PortId} (usable : (s.printer r).status.usable = true) (free : s.printerFree r = true)
    (lock : (s.printer r).lock = .locked p) :
    s.arbiterChoice r = pickJob Job.older ((s.queuedOn r).filter fun j => decide (j.port = p)) := by
  simp [State.arbiterChoice, usable, free, lock]

/-- No job is taken without a usable, free printer, and a QUEUED job there that the lock admits. -/
theorem State.arbiterChoice_eq_none (h : ∀ j ∈ s.queuedOn r, (s.printer r).status.usable = true → s.printerFree r = true →
    (s.printer r).lock ≠ .none ∧ (s.printer r).lock ≠ .locked j.port) : s.arbiterChoice r = none := by
  refine Option.eq_none_iff_forall_ne_some.2 fun j hj => ?_
  have mem := (State.arbiterChoice_spec hj).1
  unfold State.arbiterChoice at hj
  split_ifs at hj with c
  simp only [Bool.and_eq_true] at c
  obtain ⟨notFree, notHeld⟩ := h j mem c.1 c.2
  split at hj
  · exact notFree ‹_›
  · cases hj
  · rename_i p hp
    have port : j.port = p := of_decide_eq_true (List.mem_filter.1 (pickJob_mem hj)).2
    exact notHeld (port ▸ hp)

theorem exec_arbiterTake (hrun : s.running = true) : exec (.arbiterTake r) s = .next (s.arbiterTake r) :=
  congrArg Host.Outcome.next (if_pos hrun)

end

/-- Settles O48: the job that leads every QUEUED job the lock admits is the one the arbiter picks. -/
theorem arbiterTakesTheRightJob : Obligations.ArbiterTakesTheRightJob := by
  refine fun r s hrun => ⟨fun j usable free hj hr hq first => ?_, fun idle => ?_⟩
  · have queued : j ∈ s.queuedOn r := State.mem_queuedOn.2 ⟨hj, hr, hq⟩
    have choice : s.arbiterChoice r = some j := by
      rcases first with ⟨lock, leads⟩ | ⟨lock, leads⟩
      · rw [State.arbiterChoice_unlocked usable free lock]
        refine pickJob_eq_some queued fun x hx ne => ?_
        obtain ⟨mem, printer, state⟩ := State.mem_queuedOn.1 hx
        exact Job.leads_outranks (leads x mem printer state ne)
      · rw [State.arbiterChoice_locked usable free lock]
        refine pickJob_eq_some (List.mem_filter.2 ⟨queued, decide_eq_true rfl⟩) fun x hx ne => ?_
        obtain ⟨onPrinter, port⟩ := List.mem_filter.1 hx
        obtain ⟨mem, printer, state⟩ := State.mem_queuedOn.1 onPrinter
        exact Job.leads_older (leads x mem printer state (of_decide_eq_true port) ne)
    rw [exec_arbiterTake hrun, State.arbiterTake, choice]
    rfl
  · have none : s.arbiterChoice r = none := by
      refine State.arbiterChoice_eq_none fun j hj usable free => ?_
      obtain ⟨mem, printer, state⟩ := State.mem_queuedOn.1 hj
      rcases idle with h | h | ⟨p, h⟩ | ⟨p, h, others⟩ | h
      · exact absurd (h.symm.trans usable) Bool.false_ne_true
      · exact absurd (h.symm.trans free) Bool.false_ne_true
      · rw [h]
        exact ⟨nofun, nofun⟩
      · rw [h]
        exact ⟨nofun, fun e => others j mem printer state (Lock.locked.inj e).symm⟩
      · exact absurd state (h j mem printer)
    rw [exec_arbiterTake hrun, State.arbiterTake, none]

/-! ### One run of the owed-receipt service (R137) -/

theorem exec_owedReceiptService {s : State} (hrun : s.running = true) : exec .owedReceiptService s = .next s.runService :=
  congrArg Host.Outcome.next (if_pos hrun)

/-- The one receipt that a part with an empty pool owes gets the one job. -/
theorem State.runService_single {s : State} {t : Ticket} {o : Owed} (owed : s.owedItems = [.ofTicket t o]) (empty : s.jobs = []) :
    s.runService = s.addJob (s.jobFor (.ofTicket t o)) := by
  rw [State.runService, owed]
  exact if_pos ⟨by rw [empty]; decide, by rw [State.served, empty]; rfl, by simp only [State.blocked, empty]; rfl⟩

/-- Settles O49: the jobs that one run adds, their receipts in owed order and their ages, are those of the laws about the run. -/
theorem serviceServesOwedReceipts : Obligations.ServiceServesOwedReceipts := by
  intro s hrun
  obtain ⟨added, run, -, full, room⟩ := s.foldl_serveOne (owedOrder s.owedItems)
  obtain ⟨aged, agedJobs, ages, -⟩ := s.foldl_serveOne_ages (owedOrder s.owedItems)
  obtain ⟨made, madeJobs, madeFor⟩ := s.foldl_serveOne_made (owedOrder s.owedItems)
  obtain ⟨items, sub, sources, older, all⟩ := s.foldl_serveOne_items (owedOrder s.owedItems) (owedOrder_sorted _)
  have jobs : s.runService.jobs = s.jobs ++ added := congrArg State.jobs run
  obtain rfl : aged = added := List.append_cancel_left (agedJobs.symm.trans jobs)
  obtain rfl : made = aged := List.append_cancel_left (madeJobs.symm.trans jobs)
  have addedSources : made.map Job.source = items.map OwedItem.source :=
    List.append_cancel_left (List.map_append.symm.trans ((congrArg _ jobs).symm.trans sources))
  refine ⟨s.runService, made, exec_owedReceiptService hrun, run, fun j hj => ?_, ⟨items, addedSources, fun x hx => ?_, ?_, ?_⟩, ages,
    full, fun h => ?_, fun h x hx => ?_, fun t o _ _ owed empty => ?_⟩
  · obtain ⟨x, hx, m⟩ := madeFor j hj
    exact ⟨x, mem_owedOrder.1 hx, m⟩
  · exact mem_owedOrder.1 (sub.subset hx)
  · exact (owedOrder_sorted _).sublist sub
  · exact fun y hy x hx => older y hy x (mem_owedOrder.2 hx)
  · rw [jobs]
    exact room h
  · exact all h x (mem_owedOrder.2 hx)
  · rw [State.runService_single owed empty, State.addJob_eq, empty] at jobs
    refine ⟨_, jobs.symm, rfl, rfl, rfl, rfl, rfl, ?_, rfl, rfl, rfl⟩
    simp [State.newJobId, empty, freeJobId]

/-! ### The length of a receipt (R134, Table 7-4) -/

theorem lineParts_length (k : Nat) (lines : List Line) : (lineParts k lines).length = 4 * lines.length := by
  induction lines generalizing k with
  | nil => rfl
  | cons ln lns ih =>
    rw [lineParts, List.length_append, ih, List.length_cons, show (linePart k ln).length = 4 from rfl]
    omega

/-- The lines of a ticket's receipt after its header number what Table 7-4 gives without header lines. -/
theorem receiptBody_length (kind : JobKind) (receipt : TicketReceipt) (t : Ticket) (marks : List ReceiptMark) (now : ClockTime) :
    (receiptBody kind receipt t marks now).length = receiptLength receipt 0 t.lines.length marks.length := by
  cases receipt <;>
    simp only [receiptBody, settlementTop, payoutPart, voidTop, receiptLength, List.length_append, List.length_cons, List.length_nil,
      List.length_map, lineParts_length] <;>
    omega

/-- The header lines come on top. -/
theorem receiptLength_header (receipt : TicketReceipt) (h n m : Nat) :
    receiptLength receipt h n m = h + receiptLength receipt 0 n m := by
  cases receipt <;> simp only [receiptLength] <;> omega

theorem reportBody_length (rep : DayReport) (marks : List ReceiptMark) :
    (reportBody rep marks).length = reportLength 0 rep.totals.usedSlots.length := by
  simp only [reportBody, reportLength, List.length_append, List.length_cons, List.length_nil, List.length_map]
  omega

/-- The receipt of a job that prints from a ticket: its header lines, and the body of its kind. -/
theorem State.jobLines_ticket {s : State} {j : Job} {t : Ticket} {receipt : TicketReceipt}
    (kind : j.kind = .ticket receipt ∨ j.kind = .copy receipt) (source : s.jobTicket? j = some t) :
    s.jobLines j = j.counted.map s.headerLine ++ receiptBody j.kind receipt t j.marks s.clock := by
  rcases kind with e | e <;> simp only [State.jobLines, e, source]

/-- Settles O50: header lines and body have the lengths that Table 7-4 adds up. -/
theorem receiptsHaveTheirLength : Obligations.ReceiptsHaveTheirLength := by
  refine ⟨fun s t kind receipt r source p reprint copy hk ht => ⟨?_, ?_⟩, fun s rep o hr => ⟨?_, rfl⟩⟩
  · rw [State.jobLines_ticket hk ht, List.length_append, List.length_map, receiptBody_length, ← receiptLength_header]
    rfl
  · change receiptLength receipt s.countedHeaders.length t.lines.length (receiptMarks t s.storeLost reprint copy).length = _
    cases receipt <;> simp only [receiptLength] <;> omega
  · have lines : s.jobLines (s.reportJob rep o) =
        s.countedHeaders.map s.headerLine ++ reportBody rep (reportMarks s.storeLost o.started) := by
      simp only [State.jobLines, State.reportJob, hr]
    rw [lines, List.length_append, List.length_map, reportBody_length]
    simp only [State.reportJob, reportLength]
    omega

end Sys2Proof.Machine
end

section
/-! LOCK PRINTER and UNLOCK PRINTER (R151, R152, Table 7-8), and END DAY (R167 to R171). -/

namespace Sys2Proof.Machine

/-! ### LOCK PRINTER and UNLOCK PRINTER by the lock and the printer's job -/

/-- A lock that changes is set with one PRINTER event (R151). -/
theorem State.setLock_eq {s : State} {r : PrinterId} {l : Lock} (h : (s.printer r).lock ≠ l) :
    s.setLock r l = (s.setPrinter r { s.printer r with lock := l }).raise (.printer r (s.printer r).status l) := by
  rw [State.setLock, if_neg h, State.raisePrinter, State.printer_setPrinter, if_pos rfl]

section
variable {s : State} {r : PrinterId} {port : PortId}

theorem lockPrinter_locked {p : PortId} (h : (s.printer r).lock = .locked p) : lockPrinter port r.val s = s.finish [] := by
  rw [lockPrinter, indexOf?_val]
  simp only [h]

theorem lockPrinter_pending {p : PortId} (h : (s.printer r).lock = .pending p) :
    lockPrinter port r.val s = (s, some (.noted [.lockPending] [])) := by
  rw [lockPrinter, indexOf?_val]
  simp only [h]

/-- No other port's job is on the printer: the lock is LOCKED at once. -/
theorem lockPrinter_free (h : (s.printer r).lock = .none) (own : ∀ j, s.activeJob? r = some j → j.port = port) :
    lockPrinter port r.val s = (s.setLock r (.locked port)).finish [] := by
  rw [lockPrinter, indexOf?_val]
  cases hj : s.activeJob? r with
  | none => simp only [h, hj]
  | some j => simp only [h, hj, own j hj, if_true]

/-- Another port's job is PRINTING: the lock waits for it. -/
theorem lockPrinter_printing {j : Job} (h : (s.printer r).lock = .none) (hj : s.activeJob? r = some j) (other : j.port ≠ port)
    (state : j.state = .printing) : lockPrinter port r.val s = (s.setLock r (.pending port), some (.noted [.lockPending] [])) := by
  rw [lockPrinter, indexOf?_val]
  simp only [h, hj, other, if_false, state]

/-- Another port's job is TAKEN: it returns to QUEUED. -/
theorem lockPrinter_taken {j : Job} (h : (s.printer r).lock = .none) (hj : s.activeJob? r = some j) (other : j.port ≠ port)
    (state : j.state = .taken) : lockPrinter port r.val s = ((s.requeue j).setLock r (.locked port)).finish [] := by
  rw [lockPrinter, indexOf?_val]
  simp only [h, hj, other, if_false, state]

theorem unlockPrinter_none (h : (s.printer r).lock = .none) : unlockPrinter r.val s = s.refuse .notLocked := by
  rw [unlockPrinter, indexOf?_val]
  simp only [h]

theorem unlockPrinter_held (h : (s.printer r).lock ≠ .none) : unlockPrinter r.val s = (s.setLock r .none).finish [] := by
  rw [unlockPrinter, indexOf?_val]
  cases hl : (s.printer r).lock with
  | none => exact absurd hl h
  | pending p => simp only [hl]
  | locked p => simp only [hl]

end

theorem parseOne_printer {k : Packet} {r : PrinterId} (hp : k.params = numBytes 1 r.val) : parseOne k.params = some r.val :=
  hp ▸ parseOne_bytes r.val (by omega)

section
variable {k : Packet} {s : State} {r : PrinterId} (h : s.takes k) (hr : (s.port k.port).role = .supervisor)
  (hp : k.params = numBytes 1 r.val)
include h hr hp

theorem exec_lockPrinter : exec (.lockPrinter k) s = .next (carriedOut k (lockPrinter k.port r.val (s.hunt k.port))) :=
  takeCommand_effect (lockPrinter k.port) h (decide_eq_true hr) (parseOne_printer hp)

theorem exec_unlockPrinter : exec (.unlockPrinter k) s = .next (carriedOut k (unlockPrinter r.val (s.hunt k.port))) :=
  takeCommand_effect unlockPrinter h (decide_eq_true hr) (parseOne_printer hp)

theorem exec_endDay : exec (.endDay k) s = .next (carriedOut k (endDay k.port r.val (s.hunt k.port))) :=
  takeCommand_effect (endDay k.port) h (decide_eq_true hr) (parseOne_printer hp)

end

theorem carriedOut_finish (k : Packet) (t : State) (data : List Byte) : carriedOut k (t.finish data) = t.replied k (.success data) := rfl

/-- A reply joins the same ports alike. -/
theorem State.reply_ports_congr {s t : State} (h : s.ports = t.ports) (p : PortId) (tag : Byte) (a : Answer) :
    (s.reply p tag a).ports = (t.reply p tag a).ports := by
  rw [State.reply_ports, State.reply_ports, State.port, State.port, h]

/-- A TAKEN job returned to QUEUED for a lock: the job, its receipt closed, and the one PRINTER event (R147, R149, R151). -/
theorem State.requeue_setLock {s : State} {r : PrinterId} {j : Job} {l : Lock} (lock : (s.printer r).lock ≠ l) (printer : j.printer = r) :
    (((s.requeue j).setLock r l).printer r =
      if (s.printer r).awaited = none then { s.printer r with sent := (s.printer r).sent ++ [.fin], closeOwed := false, lock := l }
      else { s.printer r with closeOwed := true, lock := l }) ∧
    ((s.requeue j).setLock r l).ports = (s.raise (.printer r (s.printer r).status l)).ports := by
  have line : (s.requeue j).printer r =
      if (s.printer r).awaited = none then { s.printer r with sent := (s.printer r).sent ++ [.fin], closeOwed := false }
      else { s.printer r with closeOwed := true } := by
    rw [State.requeue_printer, printer, State.closeReceipt_printer, if_pos rfl]
  have same : ((s.requeue j).printer r).lock = (s.printer r).lock ∧ ((s.requeue j).printer r).status = (s.printer r).status := by
    rw [line]
    split_ifs <;> exact ⟨rfl, rfl⟩
  refine ⟨?_, ?_⟩
  · rw [State.setLock_printer, if_pos rfl, line]
    split_ifs <;> rfl
  · rw [State.setLock_ports _ _ (by rw [same.1]; exact lock), same.2]
    exact State.raise_ports_congr (s.requeue_ports j) (congrArg State.clock (s.poolStep_requeue j).1 :) _

/-- Settles O44: each row of Table 7-8 is one branch of the command. -/
theorem locksTakenAndCleared : Obligations.LocksTakenAndCleared := by
  intro k s r h hr hp
  have run := exec_lockPrinter h hr hp
  have differs : ∀ l : Lock, (s.printer r).lock = .none → Lock.none ≠ l → ((s.hunt k.port).printer r).lock ≠ l := fun _ none ne e =>
    ne (none.symm.trans e)
  refine ⟨fun p hl => ?_, fun p hl => ?_, fun hl own => ?_, fun j hl hj other state => ?_, fun j hl hj other state => ?_, fun hl => ?_,
    fun hl => ?_⟩
  · rw [run, lockPrinter_locked (s := s.hunt k.port) hl]
    rfl
  · rw [run, lockPrinter_pending (s := s.hunt k.port) hl]
    rfl
  · rw [run, lockPrinter_free (s := s.hunt k.port) hl own, State.setLock_eq (differs (.locked k.port) hl nofun)]
    rfl
  · rw [run, lockPrinter_printing (s := s.hunt k.port) hl hj other state,
      State.setLock_eq (differs (.pending k.port) hl nofun)]
    rfl
  · obtain ⟨line, ports⟩ := State.requeue_setLock (s := s.hunt k.port) (differs (.locked k.port) hl nofun) (State.activeJob?_spec hj).2.1
    rw [run, lockPrinter_taken (s := s.hunt k.port) hl hj other state, carriedOut_finish]
    rw [State.printer_hunt] at line
    refine ⟨_, rfl, ?_, ?_, fun ha => ?_, fun ha => ?_, ?_, State.reply_ports_congr ports _ _ _, ?_⟩
    · refine (congrArg Printer.lock line).trans ?_
      split_ifs <;> rfl
    · exact (State.setLock_jobs _ _ _).trans (State.requeue_jobs _ _)
    · rw [if_pos ha] at line
      exact ⟨congrArg Printer.sent line, congrArg Printer.closeOwed line⟩
    · rw [if_neg ha] at line
      exact ⟨(congrArg Printer.sent line :), congrArg Printer.closeOwed line⟩
    · exact ((State.poolStep_requeue _ _).trans (State.poolStep_setLock _ _ _)).tickets
    · rw [State.port_reply, if_pos rfl, ((State.poolStep_requeue _ _).trans (State.poolStep_setLock _ _ _)).out,
        State.hunt_port_out]
  · rw [exec_unlockPrinter h hr hp, unlockPrinter_held (s := s.hunt k.port) hl, State.setLock_eq (s := s.hunt k.port) hl]
    rfl
  · rw [exec_unlockPrinter h hr hp, unlockPrinter_none (s := s.hunt k.port) hl]
    rfl

/-! ### END DAY -/

/-- END DAY's state before the owed order counter goes on: the record written, the totals and every paid today at 0, and the next day
number (R168, R169, R171). -/
def State.dayClosed (s : State) (port : PortId) (printer : PrinterId) : State :=
  { s with
    report := some (s.dayReport port printer), totals := Totals.zero, dayNumber := advanceDay s.dayNumber
    ports := mapItems Port.zeroPaid s.ports }

theorem State.endDay_eq (s : State) (port : PortId) (printer : PrinterId) :
    s.endDay port printer = (s.dayClosed port printer).advanceStamp := rfl

theorem State.port_dayClosed (s : State) (port : PortId) (printer : PrinterId) (q : PortId) :
    (s.dayClosed port printer).port q = (s.port q).zeroPaid := by
  simp [State.port, State.dayClosed]

theorem State.dayReport_label (s : State) (port : PortId) (printer : PrinterId) (i : Fin 32) :
    (s.dayReport port printer).labels[i] = s.active[i].label := by
  simp [State.dayReport]

theorem State.reportIsOwed_eq_true {s : State} {rep : DayReport} {o : ReportOwed} (hr : s.report = some rep) (ho : rep.owed = some o) :
    s.reportIsOwed = true := by
  simp only [State.reportIsOwed, hr, ho, Option.isSome_some]

theorem State.reportIsOwed_eq_false {s : State} (h : ∀ rep, s.report = some rep → rep.owed = none) : s.reportIsOwed = false := by
  cases hr : s.report with
  | none => simp only [State.reportIsOwed, hr]
  | some rep => simp only [State.reportIsOwed, hr, h rep hr, Option.isSome_none]

theorem State.reportStamp_eq {s : State} {rep : DayReport} {o : ReportOwed} (hr : s.report = some rep) (ho : rep.owed = some o) :
    s.reportStamp = o.stamp := by
  simp only [State.reportStamp, hr, ho]

theorem endDay_owed {s : State} {port : PortId} {r : PrinterId} (h : s.reportIsOwed = true) :
    endDay port r.val s = s.refuse .reportOwed := by
  rw [endDay, indexOf?_val]
  exact if_pos h

theorem endDay_closes {s : State} {port : PortId} {r : PrinterId} (h : s.reportIsOwed = false) :
    endDay port r.val s = (s.endDay port r).finish
      (numBytes 2 s.dayNumber ++ numBytes 2 (s.endDay port r).dayNumber ++ numBytes 4 (s.endDay port r).reportStamp) := by
  rw [endDay, indexOf?_val]
  exact if_neg (Bool.eq_false_iff.1 h)

/-- The day report written is still owed after the renumbering, with its new stamp (R135). -/
theorem State.renumbered.report_owed {s u : State} (h : s.renumbered u) {rep : DayReport} {o : ReportOwed} (hr : s.report = some rep)
    (ho : rep.owed = some o) : ∃ stamp, u.report = some { rep with owed := some { o with stamp := stamp } } := by
  obtain ⟨-, -, report, -⟩ := h
  rw [hr, Option.map_some, ho, Option.map_some] at report
  exact ⟨_, report⟩

/-- A day closed leaves each port but for its drawer's paid today. -/
theorem State.port_hunt_dayClosed (s : State) (k : Packet) (r : PrinterId) (p : PortId) :
    (((s.hunt k.port).dayClosed k.port r).port p).drawer = (s.port p).drawer.map (fun d => { d with paidToday := 0 }) ∧
    (((s.hunt k.port).dayClosed k.port r).port p).attention = (s.port p).attention ∧
    (((s.hunt k.port).dayClosed k.port r).port p).out = (s.port p).out := by
  rw [State.port_dayClosed]
  exact ⟨congrArg (Option.map _) (s.hunt_port_drawer _ p), s.hunt_port_attention _ p, s.hunt_port_out _ p⟩

theorem State.port_reply_fields (s : State) (p q : PortId) (tag : Byte) (a : Answer) :
    ((s.reply p tag a).port q).drawer = (s.port q).drawer ∧ ((s.reply p tag a).port q).attention = (s.port q).attention := by
  rw [State.port_reply]
  split_ifs with e
  · exact e ▸ ⟨rfl, rfl⟩
  · exact ⟨rfl, rfl⟩

/-- Settles O51: the day closed, and the counter gone on by one or renumbered. -/
theorem endDayClosesTheDay : Obligations.EndDayClosesTheDay := by
  intro k s r h hr hp
  have run := exec_endDay h hr hp
  refine ⟨fun rep o hrep ho => ?_, fun none below => ?_, fun none last => ?_⟩
  · rw [run, endDay_owed (State.reportIsOwed_eq_true (s := s.hunt k.port) hrep ho)]
    rfl
  · have stamp : (s.hunt k.port).endDay k.port r =
        { (s.hunt k.port).dayClosed k.port r with nextStamp := s.nextStamp + 1 } := State.advanceStamp_of_lt below
    rw [run, endDay_closes (State.reportIsOwed_eq_false (s := s.hunt k.port) none), stamp, carriedOut_finish]
    have port := s.port_hunt_dayClosed k r
    refine ⟨_, s.dayReport k.port r, rfl, rfl, rfl, rfl, s.dayReport_label k.port r, rfl, rfl, fun i => ?_, rfl, rfl, rfl, rfl, rfl, rfl,
      fun p => ?_, rfl, rfl, rfl, rfl, rfl, rfl, rfl, fun p => ?_, ?_⟩
    · simp [State.dayClosed, Totals.zero]
    · exact (State.port_reply_fields _ _ p _ _).1.trans (port p).1
    · exact (State.port_reply_fields _ _ p _ _).2.trans (port p).2.1
    · rw [State.port_reply, if_pos rfl]
      exact congrArg (· ++ _) (port k.port).2.2
  · have renumbered := State.advanceStamp_renumbered (s := (s.hunt k.port).dayClosed k.port r) last
    obtain ⟨stamp, report⟩ := renumbered.report_owed rfl rfl
    rw [run, endDay_closes (State.reportIsOwed_eq_false (s := s.hunt k.port) none), State.endDay_eq, State.reportStamp_eq report rfl]
    exact ⟨(s.hunt k.port).dayClosed k.port r, _, s.dayReport k.port r, _, rfl, rfl, rfl, rfl, s.dayReport_label k.port r, rfl, rfl,
      fun p => (s.port_hunt_dayClosed k r p).1, rfl, report, rfl, renumbered⟩

end Sys2Proof.Machine
end

section
/-! Status frames and the timers of a printer (R130 to R132, R147 to R149). -/

namespace Sys2Proof.Machine

/-! ### What a fault leaves of a printer line -/

/-- The status of a printer, its status timer and its awaited answer, which no operation of the pool changes. -/
def Printer.signal (x : Printer) : PrinterStatus × Option Nat × Option Awaited := (x.status, x.statusTimer, x.awaited)

/-- A state has the timebase of another, and each printer has its signal. -/
def State.SameSignals (s u : State) : Prop := u.timebase = s.timebase ∧ ∀ v, (u.printer v).signal = (s.printer v).signal

theorem State.SameSignals.refl (s : State) : s.SameSignals s := ⟨rfl, fun _ => rfl⟩

theorem State.SameSignals.trans {s t u : State} (h : s.SameSignals t) (k : t.SameSignals u) : s.SameSignals u :=
  ⟨k.1.trans h.1, fun v => (k.2 v).trans (h.2 v)⟩

theorem State.PoolStep.timebase {s t : State} (h : s.PoolStep t) : t.timebase = s.timebase := by rw [h.1]

theorem State.sameSignals_closeReceipt (s : State) (r : PrinterId) : s.SameSignals (s.closeReceipt r) := by
  refine ⟨(s.poolStep_closeReceipt r).timebase, fun v => ?_⟩
  rw [State.closeReceipt_printer]
  split_ifs with e
  · exact e ▸ rfl
  · exact e ▸ rfl
  · rfl

theorem State.sameSignals_settleLock (s : State) (r : PrinterId) : s.SameSignals (s.settleLock r) :=
  ⟨(s.poolStep_settleLock r).timebase, fun v => by rw [(s.settleLock_printer r v).1]; rfl⟩

theorem State.sameSignals_leavePool (s : State) (j : Job) (o : JobOutcome) : s.SameSignals (s.leavePool j o) := by
  refine ⟨(s.poolStep_leavePool j o).timebase, fun v => ?_⟩
  rw [State.leavePool_printer]
  split_ifs
  · exact (s.sameSignals_closeReceipt _).2 v
  · rfl

theorem State.sameSignals_requeue (s : State) (j : Job) : s.SameSignals (s.requeue j) :=
  ⟨(s.poolStep_requeue j).timebase, fun v => by rw [State.requeue_printer]; exact (s.sameSignals_closeReceipt _).2 v⟩

theorem State.sameSignals_cancelWhere (s : State) (p : Job → Bool) : s.SameSignals (s.cancelWhere p) := by
  unfold State.cancelWhere
  generalize s.jobs.filter p = l
  induction l generalizing s with
  | nil => exact .refl s
  | cons j js ih => exact ((s.sameSignals_leavePool j .cancelled).trans (State.sameSignals_settleLock _ _)).trans (ih _)

theorem State.sameSignals_retire (s : State) (t : Ticket) : s.SameSignals (s.retire t) := by
  have dropped : ∀ u : State, u.SameSignals u.dropOldest := fun u => by
    unfold State.dropOldest
    split_ifs
    · exact (u.sameSignals_cancelWhere _).trans ⟨rfl, fun _ => rfl⟩
    · exact .refl u
  exact State.SameSignals.trans (t := (s.snapshotTaken t).raise (.ticket t.number none)) ⟨rfl, fun _ => rfl⟩ (dropped _)

theorem State.sameSignals_retireIfDone (s : State) (n : Nat) : s.SameSignals (s.retireIfDone n) := by
  unfold State.retireIfDone
  split
  · exact .refl s
  · split
    · exact s.sameSignals_retire _
    · exact .refl s

theorem State.sameSignals_abortJob (s : State) (j : Job) : s.SameSignals (s.abortJob j) := by
  unfold State.abortJob
  dsimp only
  refine (s.sameSignals_leavePool j .aborted).trans (.trans ?_ (State.sameSignals_settleLock _ _))
  split
  · exact State.sameSignals_retireIfDone _ _
  · exact .refl _
  · exact .refl _
  · exact .refl _

theorem State.sameSignals_printerFault (s : State) (r : PrinterId) : s.SameSignals (s.printerFault r) := by
  unfold State.printerFault
  split
  · exact .refl s
  · split
    · exact s.sameSignals_requeue _
    · exact s.sameSignals_abortJob _
    · exact .refl s

/-- A status set, whatever the fault it brings, is the printer's status; its timer, its awaited answer and the timebase stay. -/
theorem State.setStatus_signal (s : State) (r : PrinterId) (v : PrinterStatus) :
    ((s.setStatus r v).printer r).signal = (v, (s.printer r).statusTimer, (s.printer r).awaited) ∧
      (s.setStatus r v).timebase = s.timebase := by
  have set : ((s.setPrinter r { s.printer r with status := v }).printer r).signal =
      (v, (s.printer r).statusTimer, (s.printer r).awaited) := by
    rw [State.printer_setPrinter, if_pos rfl]
    rfl
  have fault := State.sameSignals_printerFault (s.setPrinter r { s.printer r with status := v }) r
  unfold State.setStatus
  dsimp only
  split_ifs with old
  · exact ⟨by rw [← old]; rfl, rfl⟩
  · exact ⟨(fault.2 r).trans set, fault.1⟩
  · exact ⟨set, rfl⟩

/-! ### Status frames and timers as rows -/

theorem State.setPrinter_setPrinter (s : State) (r : PrinterId) (x y : Printer) :
    (s.setPrinter r x).setPrinter r y = s.setPrinter r y := by
  simp [State.setPrinter]

section
variable {s : State} {r : PrinterId}

theorem exec_printerStatusFrame (hrun : s.running = true) (v : PrinterReport) :
    exec (.printerStatusFrame r v true) s = .next (s.statusReport r v) := congrArg Host.Outcome.next (if_pos hrun)

theorem exec_printerStatusFrame_bad (v : PrinterReport) : exec (.printerStatusFrame r v false) s = .next s :=
  congrArg Host.Outcome.next (ite_self s)

theorem exec_answerTimerExpiry (hrun : s.running = true) : exec (.answerTimerExpiry r) s = .next (s.expireAnswer r) :=
  congrArg Host.Outcome.next (if_pos hrun)

theorem exec_statusTimerExpiry (hrun : s.running = true) : exec (.statusTimerExpiry r) s = .next (s.expireStatus r) :=
  congrArg Host.Outcome.next (if_pos hrun)

/-- The answer timer runs out: nothing is awaited or owed any more, a close owed is sent, and the printer is OFFLINE (R131, R149). -/
theorem State.expireAnswer_some {w : Awaited} (h : (s.printer r).awaited = some w) :
    s.expireAnswer r = (({ s with timebase := max s.timebase w.expiry } : State).setPrinter r { s.printer r with
      awaited := none, closeOwed := false
      sent := (s.printer r).sent ++ (if (s.printer r).closeOwed then [.fin] else []) }).setStatus r .offline := by
  unfold State.expireAnswer
  rw [h]
  dsimp only
  congr 1
  have line : ((s.reach w.expiry).clearAwaited r).printer r = { s.printer r with awaited := none } := by
    rw [State.clearAwaited, State.printer_setPrinter, if_pos rfl]
    rfl
  rw [line]
  cases hc : (s.printer r).closeOwed with
  | true =>
    simp only [if_true]
    rw [State.sendEnd, line, State.clearAwaited, State.setPrinter_setPrinter]
    rfl
  | false =>
    simp only [Bool.false_eq_true, if_false, List.append_nil]
    rw [← hc]
    rfl

theorem State.expireAnswer_none (h : (s.printer r).awaited = none) : s.expireAnswer r = s := by
  rw [State.expireAnswer, h]

theorem State.expireStatus_some {time : Nat} (h : (s.printer r).statusTimer = some time) :
    s.expireStatus r =
      (({ s with timebase := max s.timebase time } : State).setPrinter r { s.printer r with statusTimer := none }).setStatus r .offline := by
  rw [State.expireStatus, h]
  rfl

theorem State.expireStatus_none (h : (s.printer r).statusTimer = none) : s.expireStatus r = s := by
  rw [State.expireStatus, h]

end

/-- The signal of a printer line written and then set to a status. -/
theorem State.setStatus_setPrinter_signal (s : State) (r : PrinterId) (x : Printer) (v : PrinterStatus) :
    let u := (s.setPrinter r x).setStatus r v
    (u.printer r).status = v ∧ (u.printer r).statusTimer = x.statusTimer ∧ (u.printer r).awaited = x.awaited ∧
      u.timebase = s.timebase := by
  obtain ⟨signal, time⟩ := (s.setPrinter r x).setStatus_signal r v
  rw [State.printer_setPrinter, if_pos rfl] at signal
  obtain ⟨status, rest⟩ := Prod.mk.inj signal
  obtain ⟨timer, awaited⟩ := Prod.mk.inj rest
  exact ⟨status, timer, awaited, time⟩

/-- Settles O46: each row writes the line and then sets the status, which is what `State.setStatus_becomes` says. -/
theorem printerStatusFollowed : Obligations.PrinterStatusFollowed := by
  refine fun r s hrun => ⟨exec_printerStatusFrame_bad, fun v => ?_, fun w hw => ?_, fun time ht => ?_, fun hw => ?_, fun ht => ?_⟩
  · obtain ⟨status, timer, -, -⟩ := s.setStatus_setPrinter_signal r
      { s.printer r with statusTimer := some (s.timebase + Config.statusLimit) } (PrinterStatus.ofReport v)
    exact ⟨_, exec_printerStatusFrame hrun v, status, timer, State.setStatus_becomes _ _ _⟩
  · obtain ⟨status, timer, awaited, time⟩ := State.setStatus_setPrinter_signal { s with timebase := max s.timebase w.expiry } r
      { s.printer r with
        awaited := none, closeOwed := false, sent := (s.printer r).sent ++ (if (s.printer r).closeOwed then [.fin] else []) } .offline
    refine ⟨_, exec_answerTimerExpiry hrun, ?_⟩
    rw [State.expireAnswer_some hw]
    exact ⟨status, timer, time, awaited, State.setStatus_becomes _ _ _⟩
  · obtain ⟨status, timer, -, passed⟩ := State.setStatus_setPrinter_signal { s with timebase := max s.timebase time } r
      { s.printer r with statusTimer := none } .offline
    refine ⟨_, exec_statusTimerExpiry hrun, ?_⟩
    rw [State.expireStatus_some ht]
    exact ⟨status, timer, passed, State.setStatus_becomes _ _ _⟩
  · rw [exec_answerTimerExpiry hrun, State.expireAnswer_none hw]
  · rw [exec_statusTimerExpiry hrun, State.expireStatus_none ht]

end Sys2Proof.Machine
end

section
/-! PRINT COPY (R155) and CANCEL JOB (R149, R154). -/

namespace Sys2Proof.Machine

/-! ### The source of a copy (R155) -/

/-- The last place of a list whose item meets a condition. -/
theorem getLast?_filter_range {p : Nat → Bool} {n i : Nat} (lt : i < n) (hi : p i = true) (later : ∀ k, i < k → k < n → p k = false) :
    ((List.range n).filter p).getLast? = some i := by
  obtain ⟨m, rfl⟩ := Nat.exists_eq_add_of_le lt
  have rest : ((List.range m).map (i + 1 + ·)).filter p = [] := by
    refine List.filter_eq_nil_iff.2 fun k hk => ?_
    obtain ⟨d, hd, rfl⟩ := List.mem_map.1 hk
    exact Bool.eq_false_iff.1 (later _ (by omega) (by have := List.mem_range.1 hd; omega))
  rw [List.range_add, List.filter_append, rest, List.append_nil, List.range_succ, List.filter_append, List.filter_singleton, hi]
  exact List.getLast?_concat

/-- No snapshot of a number. -/
theorem newestSnapshot_eq_none {n : Nat} {snapshots : List Ticket} (h : ∀ x ∈ snapshots, x.number ≠ n) :
    newestSnapshot n snapshots = none := by
  rw [newestSnapshot, List.getLast?_eq_none_iff, List.filter_eq_nil_iff]
  intro i _
  cases hi : snapshots[i]? with
  | none => exact Bool.false_ne_true
  | some t => simpa using h t (List.mem_of_getElem? hi)

/-- The newest snapshot of a number is the last of it in the reprint store. -/
theorem newestSnapshot_eq_some {n i : Nat} {snapshots : List Ticket} {t : Ticket} (hi : snapshots[i]? = some t) (hn : t.number = n)
    (later : ∀ k x, i < k → snapshots[k]? = some x → x.number ≠ n) : newestSnapshot n snapshots = some i := by
  refine getLast?_filter_range (List.getElem?_eq_some_iff.1 hi).1 (by simp [hi, hn]) fun k hk _ => ?_
  cases hx : snapshots[k]? with
  | none => rfl
  | some x => simpa using later k x hk hx

/-- An OPEN ticket, and only an OPEN one, is copied from nowhere. -/
theorem Ticket.copyKind?_opened {t : Ticket} (h : t.state = .opened) : t.copyKind? = none := by rw [Ticket.copyKind?, h]

section
variable {s : State} {n : Nat}

theorem State.copySource_ticket {t : Ticket} {kind : TicketReceipt} (ht : s.ticket? n = some t) (hk : t.copyKind? = some kind) :
    s.copySource n = some (.copyTicket n, t, kind) := by
  simp [State.copySource, ht, hk]

/-- Without a settled ticket of the number the copy is of its newest snapshot. -/
theorem State.copySource_unsettled (h : ∀ t, s.ticket? n = some t → t.state = .opened) :
    s.copySource n = (newestSnapshot n s.snapshots).bind fun i =>
      s.snapshots[i]?.bind fun t => t.copyKind?.map fun k => (JobSource.copySnapshot i, t, k) := by
  have live : (s.ticket? n).bind (fun t => t.copyKind?.map fun k => (JobSource.copyTicket n, t, k)) = none := by
    cases ht : s.ticket? n with
    | none => rfl
    | some t => rw [Option.bind_some, Ticket.copyKind?_opened (h t ht), Option.map_none]
  rw [State.copySource, live]

theorem State.copySource_none (h : ∀ t, s.ticket? n = some t → t.state = .opened) (hs : ∀ x ∈ s.snapshots, x.number ≠ n) :
    s.copySource n = none := by
  rw [State.copySource_unsettled h, newestSnapshot_eq_none hs, Option.bind_none]

theorem State.copySource_snapshot {i : Nat} {t : Ticket} {kind : TicketReceipt} (h : ∀ t, s.ticket? n = some t → t.state = .opened)
    (hi : s.snapshots[i]? = some t) (hn : t.number = n) (later : ∀ k x, i < k → s.snapshots[k]? = some x → x.number ≠ n)
    (hk : t.copyKind? = some kind) : s.copySource n = some (.copySnapshot i, t, kind) := by
  rw [State.copySource_unsettled h, newestSnapshot_eq_some hi hn later, Option.bind_some, hi, Option.bind_some, hk, Option.map_some]

/-! ### PRINT COPY as a command -/

/-- The COPY job of a source (R155). -/
def State.copyJob (s : State) (source : JobSource) (t : Ticket) (kind : TicketReceipt) (r : PrinterId) (port : PortId) : Job :=
  s.ticketJob t (.copy kind) kind r source port false true

theorem printCopy_notFound {r : PrinterId} {port : PortId} (hn : ticketNumberOk n = true) (h : s.copySource n = none) :
    printCopy port ⟨n, r.val⟩ s = s.refuse .notFound := by
  rw [printCopy, hn, indexOf?_val]
  simp only [h]

theorem printCopy_found {r : PrinterId} {port : PortId} {source : JobSource} {t : Ticket} {kind : TicketReceipt}
    (hn : ticketNumberOk n = true) (h : s.copySource n = some (source, t, kind)) :
    printCopy port ⟨n, r.val⟩ s =
      if 12 ≤ s.jobs.length then s.refuse .poolFull
      else (s.addJob (s.copyJob source t kind r port)).finish
        (numBytes 1 s.newJobId ++ numBytes 1 (s.copyJob source t kind r port).total) := by
  rw [printCopy, hn, indexOf?_val]
  simp only [h]
  rfl

end

/-- PRINT COPY and CANCEL JOB are permitted to every role but YARD (Table 9-9). -/
theorem notYard_of_permitted {role : Role} (h : role ∈ permitted 39) : notYard role = true := by
  have roles : permitted 39 = [.supervisor, .scalehouse, .payout] := by decide
  rw [roles] at h
  cases role with
  | yard => exact absurd h (by decide)
  | supervisor | scalehouse | payout => rfl

theorem exec_printCopy {k : Packet} {s : State} {n : Nat} {r : PrinterId} (h : s.takes k) (hr : (s.port k.port).role ∈ permitted 39)
    (hn : ticketNumberOk n = true) (hp : k.params = numBytes 4 n ++ numBytes 1 r.val) :
    exec (.printCopy k) s = .next (carriedOut k (printCopy k.port ⟨n, r.val⟩ (s.hunt k.port))) :=
  takeCommand_effect (printCopy k.port) h (notYard_of_permitted hr)
    (hp ▸ TicketByteArgs.parse_bytes n r.val (ticketNumberOk_fits hn) (by omega))

/-! ### CANCEL JOB as a command (R154) -/

theorem exec_cancelJob {k : Packet} {s : State} {id : Nat} (h : s.takes k) (hr : (s.port k.port).role ∈ permitted 39) (hid : id ≤ 255)
    (hp : k.params = numBytes 1 id) : exec (.cancelJob k) s = .next (carriedOut k (cancelJob k.port id (s.hunt k.port))) :=
  takeCommand_effect (cancelJob k.port) h (notYard_of_permitted hr) (hp ▸ parseOne_bytes id (by omega))

theorem cancelJob_noJob {s : State} {port : PortId} {id : Nat} (pos : 1 ≤ id) (h : ∀ j ∈ s.jobs, j.id ≠ id) :
    cancelJob port id s = s.refuse .noJob := by
  have none : s.jobs.find? (fun j => decide (j.id = id)) = none := by simpa [List.find?_eq_none] using h
  rw [cancelJob, if_neg (by omega), none]

/-- In a pool of different ids the job of an id is the one found. -/
theorem State.find_job {s : State} {j : Job} (hj : j ∈ s.jobs) (distinct : (s.jobs.map Job.id).Nodup) :
    s.jobs.find? (fun x => decide (x.id = j.id)) = some j := by
  cases hx : s.jobs.find? (fun x => decide (x.id = j.id)) with
  | none => exact absurd (List.find?_eq_none.1 hx j hj) (by simp)
  | some x =>
    exact congrArg some (List.inj_on_of_nodup_map distinct (List.mem_of_find?_eq_some hx) hj (by simpa using List.find?_some hx))

section
variable {s : State} {port : PortId} {j : Job} (pos : 1 ≤ j.id) (hj : j ∈ s.jobs) (distinct : (s.jobs.map Job.id).Nodup)
include pos hj distinct

theorem cancelJob_role (other : j.port ≠ port) (role : (s.port port).role ≠ .supervisor) :
    cancelJob port j.id s = s.refuse .role := by
  rw [cancelJob, if_neg (by omega), State.find_job hj distinct]
  exact if_pos ⟨other, role⟩

theorem cancelJob_owedJob (own : j.port = port ∨ (s.port port).role = .supervisor) (kind : j.kind.copied? = none) :
    cancelJob port j.id s = s.refuse .owedJob := by
  rw [cancelJob, if_neg (by omega), State.find_job hj distinct]
  dsimp only
  rw [if_neg (by tauto)]
  cases hk : j.kind with
  | ticket k => rfl
  | dayReport => rfl
  | copy k => rw [hk] at kind; cases kind

theorem cancelJob_copy (own : j.port = port ∨ (s.port port).role = .supervisor) (kind : j.kind.copied? ≠ none) :
    cancelJob port j.id s = if j.state = .printing then s.refuse .jobStarted else (s.cancelOne j).finish [] := by
  rw [cancelJob, if_neg (by omega), State.find_job hj distinct]
  dsimp only
  rw [if_neg (by tauto)]
  cases hk : j.kind with
  | ticket k => rw [hk] at kind; exact absurd rfl kind
  | dayReport => rw [hk] at kind; exact absurd rfl kind
  | copy k => rfl

end

/-! ### A COPY that leaves the pool (R149, R152, R154) -/

theorem State.closeReceipt_eq (s : State) (r : PrinterId) : s.closeReceipt r = s.setPrinter r
    (if (s.printer r).awaited = none then { s.printer r with sent := (s.printer r).sent ++ [.fin], closeOwed := false }
      else { s.printer r with closeOwed := true }) := by
  unfold State.closeReceipt State.sendEnd
  cases (s.printer r).awaited with
  | none => rfl
  | some w => rfl

/-- The pool without a job, and the one JOB event of its end. -/
def State.withoutJob (s : State) (j : Job) (o : JobOutcome) : State :=
  ({ s with jobs := s.jobs.filter fun x => decide (x.id ≠ j.id) } : State).raise (.job j.id o (j.total - j.printed))

theorem State.leavePool_queued {s : State} {j : Job} (h : j.state = .queued) (o : JobOutcome) : s.leavePool j o = s.withoutJob j o := by
  simp only [State.leavePool, Job.active, h, ne_eq, not_true_eq_false, decide_false, Bool.false_and, Bool.false_eq_true, if_false]
  rfl

/-- A TAKEN or PRINTING job that is not DONE closes the receipt it began (R149). -/
theorem State.leavePool_active {s : State} {j : Job} (h : j.state ≠ .queued) {o : JobOutcome} (ho : o ≠ .printed) :
    s.leavePool j o = (s.withoutJob j o).closeReceipt j.printer := by
  simp only [State.leavePool, Job.active, h, ho, ne_eq, not_false_eq_true, decide_true, Bool.and_self, if_true]
  rfl

/-- A lock that waits for no job, or for another, stays when a job that is not PRINTING leaves (R152). -/
theorem State.cancelOne_lockStays {s : State} {j : Job} (hj : j ∈ s.jobs) (distinct : (s.jobs.map Job.id).Nodup) (state : j.state ≠ .printing)
    (h : (∀ p, (s.printer j.printer).lock ≠ .pending p) ∨ ∃ x ∈ s.jobs, x.printer = j.printer ∧ x.state = .printing) :
    s.cancelOne j = s.leavePool j .cancelled := by
  rcases h with lock | ⟨x, hx, printer, printing⟩
  · exact State.settleLock_eq_self fun p => by rw [State.leavePool_lock]; exact lock p
  · refine State.settleLock_waits (j := x) ?_ printer printing
    rw [State.leavePool_jobs]
    refine List.mem_filter.2 ⟨hx, decide_eq_true fun e => ?_⟩
    exact state (List.inj_on_of_nodup_map distinct hx hj e ▸ printing)

/-- Settles O45: the copy's source by its two ways, and CANCEL JOB by its checks. -/
theorem copiesMadeAndCancelled : Obligations.CopiesMadeAndCancelled := by
  intro k s h hr
  refine ⟨fun n r n1 n2 hp => ?_, fun j hj distinct pos le hp => ?_, fun id pos le none hp => ?_⟩
  · have hn := (ticketNumberOk_iff n).2 ⟨n1, n2⟩
    have run := exec_printCopy h hr hn hp
    have found : ∀ source t kind, ((source = .copyTicket n ∧ s.ticket? n = some t) ∨
        ((∀ x, s.ticket? n = some x → x.state = .opened) ∧ t.number = n ∧ ∃ i, source = .copySnapshot i ∧
          s.snapshots[i]? = some t ∧ ∀ i' x, i < i' → s.snapshots[i']? = some x → x.number ≠ n)) →
        t.copyKind? = some kind → (s.hunt k.port).copySource n = some (source, t, kind) := by
      rintro source t kind (⟨rfl, ht⟩ | ⟨opened, number, i, rfl, hi, later⟩) hk
      · exact State.copySource_ticket (s := s.hunt k.port) ht hk
      · exact State.copySource_snapshot (s := s.hunt k.port) opened hi number later hk
    refine ⟨fun opened other => ?_, fun source t kind sourced hk full => ?_, fun source t kind sourced hk room => ?_⟩
    · rw [run, printCopy_notFound hn (State.copySource_none (s := s.hunt k.port) opened other)]
      rfl
    · rw [run, printCopy_found hn (found source t kind sourced hk), State.hunt_jobs, if_pos full]
      rfl
    · rw [run, printCopy_found hn (found source t kind sourced hk), State.hunt_jobs, if_neg (Nat.not_le.2 room), carriedOut_finish]
      refine ⟨_, _, rfl, rfl, rfl, rfl, rfl, rfl, ?_, rfl, rfl, rfl, rfl, rfl, rfl, rfl, fun h1 h2 => ⟨?_, ?_⟩, rfl, rfl, rfl, rfl, ?_⟩
      · exact congrArg Role.rank (s.hunt_port_role k.port k.port)
      · exact State.newJobId_free room ⟨h1, h2⟩
      · exact freeJobId_passesOver s.jobs 255 s.nextJob
      · rw [State.port_reply, if_pos rfl]
        exact congrArg (· ++ _) (s.hunt_port_out k.port k.port)
  · have run := exec_cancelJob h hr le hp
    have role : ((s.hunt k.port).port k.port).role = (s.port k.port).role := s.hunt_port_role _ _
    refine ⟨fun ⟨other, notSuper⟩ => ?_, fun own => ?_⟩
    · rw [run, cancelJob_role (s := s.hunt k.port) pos hj distinct other (role ▸ notSuper)]
      rfl
    · rw [← role] at own
      refine ⟨fun kind => ?_, fun kind state => ?_, fun kind lock => ?_⟩
      · rw [run, cancelJob_owedJob (s := s.hunt k.port) pos hj distinct own kind]
        rfl
      · rw [run, cancelJob_copy (s := s.hunt k.port) pos hj distinct own kind, if_pos state]
        rfl
      · have cancelled : j.state ≠ .printing →
            exec (.cancelJob k) s = .next (((s.hunt k.port).leavePool j .cancelled).replied k (.success [])) := fun state => by
          rw [run, cancelJob_copy (s := s.hunt k.port) pos hj distinct own kind, if_neg state,
            State.cancelOne_lockStays (s := s.hunt k.port) hj distinct state lock]
          rfl
        refine ⟨fun state => ?_, fun state => ?_⟩
        · rw [cancelled (by rw [state]; exact nofun), State.leavePool_queued state]
          rfl
        · rw [cancelled (by rw [state]; exact nofun), State.leavePool_active (by rw [state]; exact nofun) JobOutcome.noConfusion,
            State.closeReceipt_eq]
          rfl
  · rw [exec_cancelJob h hr le hp, cancelJob_noJob (s := s.hunt k.port) pos none]
    rfl

end Sys2Proof.Machine
end

section
/-! The answers of a printer (R130, R143 to R146, R149): the rows, the stages of a job, and its end. -/

namespace Sys2Proof.Machine

/-! ### An answer by what its line awaits (R130, R143, R149) -/

/-- A printer line whose awaited answer has come and whose receipt an END closes. -/
def State.lineClosed (s : State) (r : PrinterId) : State := s.setPrinter r
  { s.printer r with awaited := none, closeOwed := false, sent := (s.printer r).sent ++ [.fin] }

section
variable {s : State} {r : PrinterId} {w : Awaited}

theorem exec_printerAnswer (hrun : s.running = true) (a : PrinterAnswer) : exec (.printerAnswer r a true) s = .next (s.answer r a) :=
  congrArg Host.Outcome.next (if_pos hrun)

theorem exec_printerAnswer_bad (a : PrinterAnswer) : exec (.printerAnswer r a false) s = .next s :=
  congrArg Host.Outcome.next (ite_self s)

/-- The END to a line whose awaited answer has come closes it. -/
theorem State.sendEnd_clearAwaited (s : State) (r : PrinterId) : (s.clearAwaited r).sendEnd r = s.lineClosed r := by
  rw [State.sendEnd, State.clearAwaited, State.setPrinter_setPrinter, State.printer_setPrinter, if_pos rfl]
  rfl

/-- A frame sent on a line whose awaited answer has come. -/
theorem State.sendAwaited_clearAwaited (s : State) (r : PrinterId) (f : PrinterFrame) (job : Nat) :
    (s.clearAwaited r).sendAwaited r f job = s.sendAwaited r f job := by
  rw [State.sendAwaited, State.clearAwaited, State.setPrinter_setPrinter, State.printer_setPrinter, if_pos rfl]
  rfl

theorem State.answer_none (h : (s.printer r).awaited = none) (a : PrinterAnswer) : s.answer r a = s.answerReport r a := by
  rw [State.answer, h]

theorem State.answer_closing (hw : (s.printer r).awaited = some w) (hc : (s.printer r).closeOwed = true) (a : PrinterAnswer) :
    s.answer r a = (s.lineClosed r).answerReport r a := by
  rw [State.answer, hw, ← State.sendEnd_clearAwaited]
  exact if_pos hc

theorem State.answer_open (hw : (s.printer r).awaited = some w) (hc : (s.printer r).closeOwed = false) (a : PrinterAnswer) :
    s.answer r a = if answerKeepsUsable a then
      ((s.clearAwaited r).answerReport r a).answerUsable r w.frame (decide (a = .accepted))
      else (s.clearAwaited r).answerReport r a := by
  rw [State.answer, hw]
  exact if_neg (Bool.eq_false_iff.1 hc)

/-! ### A usable answer by the stage of its job (R143, R144) -/

theorem State.activeJob?_congr {s u : State} (h : u.jobs = s.jobs) (r : PrinterId) : u.activeJob? r = s.activeJob? r := by
  rw [State.activeJob?, h, State.activeJob?]

theorem State.answerUsable_taken {j : Job} (hj : s.activeJob? r = some j) (hs : j.state = .taken) (f : PrinterFrame) (accepted : Bool) :
    s.answerUsable r f accepted = s.startPrinting j := by
  rw [State.answerUsable, hj]
  dsimp only
  rw [hs]

theorem State.answerUsable_printing {j : Job} (hj : s.activeJob? r = some j) (hs : j.state = .printing) (f : PrinterFrame)
    (accepted : Bool) :
    s.answerUsable r f accepted = if accepted = true then s.lineAccepted j else s.sendAwaited r f j.id := by
  rw [State.answerUsable, hj]
  dsimp only
  rw [hs]

theorem State.answer_accepted_taken {j : Job} (hw : (s.printer r).awaited = some w) (hc : (s.printer r).closeOwed = false)
    (hj : s.activeJob? r = some j) (hs : j.state = .taken) : s.answer r .accepted = (s.clearAwaited r).startPrinting j :=
  (State.answer_open hw hc .accepted).trans (State.answerUsable_taken (s := s.clearAwaited r) hj hs _ _)

theorem State.answer_accepted_printing {j : Job} (hw : (s.printer r).awaited = some w) (hc : (s.printer r).closeOwed = false)
    (hj : s.activeJob? r = some j) (hs : j.state = .printing) : s.answer r .accepted = (s.clearAwaited r).lineAccepted j :=
  (State.answer_open hw hc .accepted).trans (State.answerUsable_printing (s := s.clearAwaited r) hj hs _ _)

/-- A line that is not the last is followed by the next (R144). -/
theorem State.lineAccepted_next {j : Job} (more : j.printed + 1 < j.total) :
    s.lineAccepted j = (s.putJob { j with printed := j.printed + 1 }).sendLine { j with printed := j.printed + 1 } := if_pos more

/-- The last line ends the job (R145). -/
theorem State.lineAccepted_last {j : Job} (last : j.total ≤ j.printed + 1) :
    s.lineAccepted j = s.finishJob { j with printed := j.printed + 1 } := if_neg (Nat.not_lt.2 last)

end

/-! ### The started flag (R136, R143) -/

/-- The started flag is set in the ticket or the day report that owes the receipt, or nowhere. -/
theorem State.setStarted_induct {P : State → Prop} (s : State) (j : Job) (same : P s)
    (ticket : ∀ n stamp t o, j.source = .owed n stamp → s.ticket? n = some t → t.owed = some o →
      P (s.putTicket { t with owed := some { o with started := true } }))
    (report : ∀ stamp rep o, j.source = .report stamp → s.report = some rep → rep.owed = some o →
      P { s with report := some { rep with owed := some { o with started := true } } }) : P (s.setStarted j) := by
  unfold State.setStarted
  split
  next n stamp source =>
    split
    · exact same
    next t ht =>
      split
      · exact same
      next o ho =>
        split_ifs
        · exact ticket n stamp t o source ht ho
        · exact same
  next stamp source =>
    split
    · exact same
    next rep hr =>
      split
      · exact same
      next o ho =>
        split_ifs
        · exact report stamp rep o source hr ho
        · exact same
  · exact same
  · exact same

section
variable {s : State} {j : Job}

theorem State.setStarted_ticket {n stamp : Nat} {t : Ticket} {o : Owed} (source : j.source = .owed n stamp) (ht : s.ticket? n = some t)
    (ho : t.owed = some o) (hs : o.stamp = stamp) : s.setStarted j = s.putTicket { t with owed := some { o with started := true } } := by
  unfold State.setStarted
  rw [source]
  dsimp only
  rw [ht]
  dsimp only
  rw [ho]
  exact if_pos hs

theorem State.setStarted_report {stamp : Nat} {rep : DayReport} {o : ReportOwed} (source : j.source = .report stamp)
    (hr : s.report = some rep) (ho : rep.owed = some o) (hs : o.stamp = stamp) :
    s.setStarted j = { s with report := some { rep with owed := some { o with started := true } } } := by
  unfold State.setStarted
  rw [source]
  dsimp only
  rw [hr]
  dsimp only
  rw [ho]
  exact if_pos hs

/-- The started flag is all that is set: the tickets and the day report alone may change. -/
theorem State.setStarted_frame (s : State) (j : Job) :
    s.setStarted j = { s with tickets := (s.setStarted j).tickets, report := (s.setStarted j).report } :=
  s.setStarted_induct j (P := fun u => u = { s with tickets := u.tickets, report := u.report }) rfl
    (fun _ _ _ _ _ _ _ => rfl) (fun _ _ _ _ _ _ => rfl)

/-- A job of another source than a ticket's owed receipt starts no ticket's receipt. -/
theorem State.setStarted_tickets (h : ∀ n stamp, j.source ≠ .owed n stamp) : (s.setStarted j).tickets = s.tickets :=
  s.setStarted_induct j (P := fun u => u.tickets = s.tickets) rfl (fun n stamp _ _ source _ _ => absurd source (h n stamp))
    (fun _ _ _ _ _ _ => rfl)

theorem State.setStarted_keepsReport (h : ∀ stamp, j.source ≠ .report stamp) : (s.setStarted j).report = s.report :=
  s.setStarted_induct j (P := fun u => u.report = s.report) rfl (fun _ _ _ _ _ _ _ => rfl)
    (fun stamp _ _ source _ _ => absurd source (h stamp))

theorem State.setStarted_others {n stamp m : Nat} (source : j.source = .owed n stamp) (hm : m ≠ n) :
    (s.setStarted j).ticket? m = s.ticket? m := by
  refine s.setStarted_induct j (P := fun u => u.ticket? m = s.ticket? m) rfl (fun n' stamp' t o source' ht _ => ?_) (fun _ _ _ _ _ _ => rfl)
  obtain ⟨rfl, -⟩ := JobSource.owed.inj (source.symm.trans source')
  exact s.ticket?_putTicket_other (State.ticket?_number ht ▸ hm)

/-! ### The next line, which what is owed does not change (R134) -/

/-- What a ticket owes stands on no receipt. -/
theorem receiptBody_owed (kind : JobKind) (k : TicketReceipt) (t : Ticket) (o : Option Owed) (marks : List ReceiptMark) (now : ClockTime) :
    receiptBody kind k { t with owed := o } marks now = receiptBody kind k t marks now := by
  cases k <;> rfl

/-- The record a job prints from, after a ticket's owed field has been written. -/
theorem State.jobTicket?_putTicket_owed {t : Ticket} (ht : s.ticket? t.number = some t) (o : Option Owed) (x : Job) :
    (s.putTicket { t with owed := o }).jobTicket? x = s.jobTicket? x ∨
      s.jobTicket? x = some t ∧ (s.putTicket { t with owed := o }).jobTicket? x = some { t with owed := o } := by
  have table : ∀ m, (s.putTicket { t with owed := o }).ticket? m = s.ticket? m ∨
      s.ticket? m = some t ∧ (s.putTicket { t with owed := o }).ticket? m = some { t with owed := o } := fun m => by
    by_cases e : m = t.number
    · subst e
      exact .inr ⟨ht, State.ticket?_putTicket_self ht rfl⟩
    · exact .inl (State.ticket?_putTicket_other s (t := { t with owed := o }) e)
  unfold State.jobTicket?
  cases x.frozen with
  | some y => exact .inl rfl
  | none =>
    cases x.source with
    | owed n stamp => exact table n
    | copyTicket n => exact table n
    | copySnapshot i => exact .inl rfl
    | report stamp => exact .inl rfl

theorem State.jobLines_putTicket_owed {t : Ticket} (ht : s.ticket? t.number = some t) (o : Option Owed) (x : Job) :
    (s.putTicket { t with owed := o }).jobLines x = s.jobLines x := by
  have record := State.jobTicket?_putTicket_owed ht o x
  cases hk : x.kind with
  | dayReport =>
    simp only [State.jobLines, hk]
    rfl
  | ticket k | copy k =>
    rcases record with same | ⟨before, after⟩
    · simp only [State.jobLines, hk, same]
      rfl
    · simp only [State.jobLines, hk, before, after, receiptBody_owed]
      rfl

theorem State.jobLines_reportOwed {rep : DayReport} (hr : s.report = some rep) (o : Option ReportOwed) (x : Job) :
    ({ s with report := some { rep with owed := o } } : State).jobLines x = s.jobLines x := by
  cases hk : x.kind with
  | dayReport =>
    simp only [State.jobLines, hk, hr]
    rfl
  | ticket k | copy k =>
    simp only [State.jobLines, hk]
    rfl

theorem State.nextLine_setStarted (s : State) (j x : Job) : (s.setStarted j).nextLine x = s.nextLine x := by
  refine s.setStarted_induct j (P := fun u => u.nextLine x = s.nextLine x) rfl (fun n stamp t o _ ht _ => ?_) (fun stamp rep o _ hr _ => ?_)
  · rw [State.nextLine, State.jobLines_putTicket_owed (State.ticket?_number ht ▸ ht), State.nextLine]
  · rw [State.nextLine, State.jobLines_reportOwed hr, State.nextLine]

end

/-! ### The first line (R143) -/

/-- The answer to a BEGIN taken and its job PRINTING, before the started flag is set. -/
def State.begins (s : State) (j : Job) : State := (s.clearAwaited j.printer).putJob { j with state := .printing }

/-- What a usable answer to a BEGIN leaves: the job PRINTING, its first line sent, the started flag as `State.setStarted` sets it. -/
theorem State.startPrinting_fields (s : State) (j : Job) :
    let u := (s.clearAwaited j.printer).startPrinting j
    let started := (s.begins j).setStarted j
    u.jobs = (s.putJob { j with state := .printing }).jobs ∧
      u.printer j.printer = { s.printer j.printer with
        sent := (s.printer j.printer).sent ++ [.line (s.nextLine j)]
        awaited := some { frame := .line (s.nextLine j), job := j.id, expiry := s.timebase + 2000 } } ∧
      u.tickets = started.tickets ∧ u.report = started.report ∧ u.snapshots = s.snapshots ∧ u.ports = s.ports := by
  intro u started
  have frame : started = { s.begins j with tickets := started.tickets, report := started.report } := State.setStarted_frame _ _
  have line : started.nextLine { j with state := .printing } = s.nextLine j := State.nextLine_setStarted _ _ _
  have sent : u = started.sendAwaited j.printer (.line (s.nextLine j)) j.id := 
    congrArg (fun l => started.sendAwaited j.printer (.line l) j.id) line
  have printer : started.printer j.printer = { s.printer j.printer with awaited := none } := by
    rw [frame]
    exact (s.printer_setPrinter _ _ _).trans (if_pos rfl)
  refine ⟨?_, ?_, ?_, ?_, ?_, ?_⟩
  · rw [sent, frame]; rfl
  · rw [sent, State.sendAwaited, State.printer_setPrinter, if_pos rfl, printer, frame]; rfl
  · rw [sent]; rfl
  · rw [sent]; rfl
  · rw [sent, frame]; rfl
  · rw [sent, frame]; rfl

/-! ### A usable status in an answer (R130, R143, R144) -/

section
variable {s : State} {r : PrinterId} {v : PrinterReport} (usable : (PrinterStatus.ofReport v).usable = true)
include usable

/-- A report of a usable status is no fault: it writes the line, and tells the ports of a status that changes. -/
theorem State.statusReport_usable : s.statusReport r v =
    if (s.printer r).status = PrinterStatus.ofReport v then
      s.setPrinter r { s.printer r with statusTimer := some (s.timebase + Config.statusLimit) }
    else (s.setPrinter r { s.printer r with
        statusTimer := some (s.timebase + Config.statusLimit), status := PrinterStatus.ofReport v }).raise
      (.printer r (PrinterStatus.ofReport v) (s.printer r).lock) := by
  simp only [State.statusReport, State.setStatus, State.raisePrinter, usable, Bool.not_true, Bool.and_false, Bool.false_eq_true, if_false,
    State.printer_setPrinter, if_true, State.setPrinter_setPrinter]

/-- A usable status and the answer it came in are taken in either order. -/
theorem State.statusReport_clearAwaited : (s.clearAwaited r).statusReport r v = (s.statusReport r v).clearAwaited r := by
  rw [State.statusReport_usable usable, State.statusReport_usable usable, State.clearAwaited]
  simp only [State.printer_setPrinter, if_true, State.setPrinter_setPrinter]
  split_ifs
  · simp only [State.clearAwaited, State.printer_setPrinter, if_true, State.setPrinter_setPrinter]
    rfl
  · simp only [State.clearAwaited, State.printer_raise, State.printer_setPrinter, if_true]
    simp only [State.raise, State.setPrinter, Vector.set_set]

/-- A usable status leaves the pool, the close owed and the supply. -/
theorem State.statusReport_leaves : (s.statusReport r v).jobs = s.jobs ∧
    ((s.statusReport r v).printer r).closeOwed = (s.printer r).closeOwed ∧ (s.statusReport r v).running = s.running := by
  rw [State.statusReport_usable usable]
  split_ifs
  · rw [State.printer_setPrinter, if_pos rfl]
    exact ⟨rfl, rfl, rfl⟩
  · rw [State.printer_raise, State.printer_setPrinter, if_pos rfl]
    exact ⟨rfl, rfl, rfl⟩

end

section
variable {s : State} {r : PrinterId} {w : Awaited} {v : PrinterReport} {j : Job} (hrun : s.running = true)
  (hw : (s.printer r).awaited = some w) (hc : (s.printer r).closeOwed = false)
include hrun hw hc

/-- A status that is not usable is a status report alone. -/
theorem exec_printerAnswer_unusable (unusable : (PrinterStatus.ofReport v).usable = false) :
    exec (.printerAnswer r (.report v) true) s = exec (.printerStatusFrame r v true) (s.clearAwaited r) := by
  rw [exec_printerAnswer hrun, exec_printerStatusFrame (s := s.clearAwaited r) hrun, State.answer_open hw hc]
  exact congrArg Host.Outcome.next (if_neg (Bool.eq_false_iff.1 unusable))

section
variable (usable : (PrinterStatus.ofReport v).usable = true) (hj : s.activeJob? r = some j)
include usable hj

/-- A usable status to a BEGIN is a status report and an ACCEPTED. -/
theorem exec_printerAnswer_usable_taken (taken : j.state = .taken) {after : State}
    (h : exec (.printerStatusFrame r v true) s = .next after) :
    exec (.printerAnswer r (.report v) true) s = exec (.printerAnswer r .accepted true) after := by
  rw [exec_printerStatusFrame hrun] at h
  obtain rfl := Host.Outcome.next.inj h
  obtain ⟨jobs, close, running⟩ := State.statusReport_leaves (s := s) (r := r) usable
  have awaited : ((s.statusReport r v).printer r).awaited = some w := (s.setStatus_setPrinter_signal r _ _).2.2.1.trans hw
  have active : (s.statusReport r v).activeJob? r = some j := (State.activeJob?_congr jobs r).trans hj
  have reported : s.answer r (.report v) = ((s.clearAwaited r).statusReport r v).answerUsable r w.frame false :=
    (State.answer_open hw hc _).trans (if_pos usable)
  rw [exec_printerAnswer hrun, exec_printerAnswer (running.trans hrun), reported, State.statusReport_clearAwaited usable,
    State.answerUsable_taken (s := (s.statusReport r v).clearAwaited r) active taken,
    State.answer_accepted_taken awaited (close.trans hc) active taken]

/-- A usable status to a LINE is a status report, and the LINE again. -/
theorem exec_printerAnswer_usable_printing (printing : j.state = .printing) {after : State}
    (h : exec (.printerStatusFrame r v true) (s.clearAwaited r) = .next after) :
    exec (.printerAnswer r (.report v) true) s = .next (after.setPrinter r { after.printer r with
      sent := (after.printer r).sent ++ [w.frame], awaited := some (Awaited.mk w.frame j.id (s.timebase + 2000)) }) := by
  rw [exec_printerStatusFrame (s := s.clearAwaited r) hrun] at h
  obtain rfl := Host.Outcome.next.inj h
  obtain ⟨jobs, -, -⟩ := State.statusReport_leaves (s := s.clearAwaited r) (r := r) usable
  have time : ((s.clearAwaited r).statusReport r v).timebase = s.timebase := ((s.clearAwaited r).setStatus_setPrinter_signal r _ _).2.2.2
  have reported : s.answer r (.report v) = ((s.clearAwaited r).statusReport r v).answerUsable r w.frame false :=
    (State.answer_open hw hc _).trans (if_pos usable)
  rw [exec_printerAnswer hrun, reported, State.answerUsable_printing ((State.activeJob?_congr jobs r).trans hj) printing, ← time]
  rfl

end
end

end Sys2Proof.Machine
end

section
/-! The last line of a receipt (R145, R146, R152): the job out of the pool, its source acted on, a PENDING lock settled. -/

namespace Sys2Proof.Machine

/-! ### The line of a printer without a job begun, which nothing but its lock changes -/

/-- No job of a printer is TAKEN or PRINTING. -/
def State.noneBegun (s : State) (r : PrinterId) : Prop := ∀ x ∈ s.jobs, x.printer = r → x.state = .queued

/-- A printer line as it was but for a lock settled, in a pool that gained and began no job. -/
structure State.LeavesLine (s u : State) (r : PrinterId) : Prop where
  line : u.printer r = { s.printer r with lock := (u.printer r).lock }
  lock : (u.printer r).lock = (s.printer r).lock ∨ ∃ p, (s.printer r).lock = .pending p ∧ (u.printer r).lock = .locked p
  jobs : ∀ y ∈ u.jobs, ∃ x ∈ s.jobs, x.id = y.id ∧ x.printer = y.printer ∧ x.state = y.state

section
variable {s t u : State} {r : PrinterId}

theorem State.LeavesLine.trans (h : s.LeavesLine t r) (k : t.LeavesLine u r) : s.LeavesLine u r where
  line := by rw [k.line, h.line]
  lock := by
    rcases k.lock with same | ⟨p, pending, locked⟩
    · rw [same]
      exact h.lock
    · rcases h.lock with same | ⟨q, -, locked'⟩
      · exact .inr ⟨p, same ▸ pending, locked⟩
      · exact absurd (locked'.symm.trans pending) Lock.noConfusion
  jobs y hy := by
    obtain ⟨x, hx, id, printer, state⟩ := k.jobs y hy
    obtain ⟨z, hz, id', printer', state'⟩ := h.jobs x hx
    exact ⟨z, hz, id'.trans id, printer'.trans printer, state'.trans state⟩

/-- A step that leaves the printers and changes at most the sources of the jobs. -/
theorem State.LeavesLine.of_map {f : Job → Job} (printers : u.printers = s.printers) (jobs : u.jobs = s.jobs.map f)
    (hf : ∀ x, (f x).id = x.id ∧ (f x).printer = x.printer ∧ (f x).state = x.state) : s.LeavesLine u r := by
  have line : u.printer r = s.printer r := by rw [State.printer, printers, State.printer]
  refine ⟨by rw [line], .inl (by rw [line]), fun y hy => ?_⟩
  rw [jobs] at hy
  obtain ⟨x, hx, rfl⟩ := List.mem_map.1 hy
  obtain ⟨id, printer, state⟩ := hf x
  exact ⟨x, hx, id.symm, printer.symm, state.symm⟩

theorem State.LeavesLine.of_eq (printers : u.printers = s.printers) (jobs : u.jobs = s.jobs) : s.LeavesLine u r :=
  .of_map printers (jobs.trans (List.map_id _).symm) fun _ => ⟨rfl, rfl, rfl⟩

theorem State.LeavesLine.refl (s : State) (r : PrinterId) : s.LeavesLine s r := .of_eq rfl rfl

theorem State.LeavesLine.noneBegun (h : s.LeavesLine u r) (idle : s.noneBegun r) : u.noneBegun r := fun y hy printer => by
  obtain ⟨x, hx, -, printer', state⟩ := h.jobs y hy
  exact state ▸ idle x hx (printer'.trans printer)

end

theorem State.leavesLine_settleLock (s : State) (v r : PrinterId) : s.LeavesLine (s.settleLock v) r where
  line := (s.settleLock_printer v r).1
  lock := s.settleLock_lock v r
  jobs y hy := ⟨y, by rwa [State.settleLock_jobs] at hy, rfl, rfl, rfl⟩

/-- A cancelled job closes a receipt on its own printer alone, and on none when it was QUEUED. -/
theorem State.leavesLine_cancelOne (s : State) {r : PrinterId} {x : Job} (h : x.printer = r → x.state = .queued) :
    s.LeavesLine (s.cancelOne x) r := by
  have line : (s.leavePool x .cancelled).printer r = s.printer r := by
    rw [State.leavePool_printer]
    split_ifs with active
    · rw [State.closeReceipt_printer, if_neg]
      rintro rfl
      simp [Job.active, h rfl] at active
    · rfl
  refine State.LeavesLine.trans (t := s.leavePool x .cancelled) ⟨by rw [line], .inl (by rw [line]), fun y hy => ?_⟩
    (State.leavesLine_settleLock _ _ r)
  rw [State.leavePool_jobs] at hy
  exact ⟨y, (List.mem_filter.1 hy).1, rfl, rfl, rfl⟩

section
variable {s : State} {r : PrinterId} (idle : s.noneBegun r)
include idle

theorem State.leavesLine_cancelWhere (p : Job → Bool) : s.LeavesLine (s.cancelWhere p) r := by
  have listed : ∀ x ∈ s.jobs.filter p, x.printer = r → x.state = .queued := fun x hx => idle x (List.mem_filter.1 hx).1
  clear idle
  unfold State.cancelWhere
  generalize s.jobs.filter p = l at listed
  induction l generalizing s with
  | nil => exact .refl s r
  | cons x xs ih =>
    exact (s.leavesLine_cancelOne (listed x List.mem_cons_self)).trans (ih fun y hy => listed y (List.mem_cons_of_mem _ hy))

theorem State.leavesLine_dropOldest : s.LeavesLine s.dropOldest r := by
  unfold State.dropOldest
  split_ifs
  · exact (State.leavesLine_cancelWhere idle _).trans (.of_map rfl rfl fun _ => ⟨rfl, rfl, rfl⟩)
  · exact .refl s r

theorem State.leavesLine_retire (t : Ticket) : s.LeavesLine (s.retire t) r := by
  have taken : s.LeavesLine ((s.snapshotTaken t).raise (.ticket t.number none)) r := .of_map rfl rfl fun _ => ⟨rfl, rfl, rfl⟩
  rw [State.retire_eq_dropOldest]
  exact taken.trans (State.leavesLine_dropOldest (taken.noneBegun idle))

theorem State.leavesLine_retireIfDone (n : Nat) : s.LeavesLine (s.retireIfDone n) r := by
  unfold State.retireIfDone
  split
  · exact .refl s r
  · split
    · exact State.leavesLine_retire idle _
    · exact .refl s r

end

theorem State.leavesLine_advanceStamp (s : State) (r : PrinterId) : s.LeavesLine s.advanceStamp r := by
  unfold State.advanceStamp
  split_ifs
  · exact .of_eq rfl rfl
  · refine .of_map rfl rfl fun x => ?_
    split_ifs
    · cases x.source <;> exact ⟨rfl, rfl, rfl⟩
    · exact ⟨rfl, rfl, rfl⟩

theorem State.leavesLine_oweVoidNotice (s : State) (t : Ticket) (r : PrinterId) : s.LeavesLine (s.oweVoidNotice t) r := by
  unfold State.oweVoidNotice
  split
  · exact .refl s r
  · exact State.LeavesLine.trans (t := s.putTicket _) (.of_eq rfl rfl) (State.leavesLine_advanceStamp _ r)

/-! ### What a DONE job does to its ticket (R146) -/

/-- The owed receipt goes when it is the one printed. -/
theorem Ticket.afterPrint_eq (t : Ticket) (kind : TicketReceipt) (stamp : Nat) : t.afterPrint kind stamp = { t with
    settlementPrinted := t.settlementPrinted || decide (kind = .settlement)
    owed := t.owed.filter fun o => !decide (o.kind = kind ∧ o.stamp = stamp) } := by
  unfold Ticket.afterPrint
  congr 1
  cases t.owed with
  | none => rfl
  | some o =>
    rw [Option.filter_some]
    by_cases h : o.kind = kind ∧ o.stamp = stamp <;> simp [h]

section
variable {s : State} {n stamp : Nat} {kind : TicketReceipt} {t : Ticket} (ht : s.ticket? n = some t)
include ht

theorem State.ticket?_afterPrint : (s.putTicket (t.afterPrint kind stamp)).ticket? n = some (t.afterPrint kind stamp) :=
  State.ticket?_putTicket_self (t := t.afterPrint kind stamp) ht (State.ticket?_number (t := t) ht)

/-- And owing its notice. -/
theorem State.ticket?_afterPrint_owing (p : PortId) :
    ((s.putTicket (t.afterPrint kind stamp)).owingNotice (t.afterPrint kind stamp) p).ticket? n =
      some { t.afterPrint kind stamp with owed := some (s.noticeOwed p) } :=
  State.ticket?_owingNotice_self (t := t.afterPrint kind stamp) (State.ticket?_afterPrint ht) (State.ticket?_number (t := t) ht) p

/-- The steps of R146: the record written, a VOID_NOTICE owed after the last receipt of a VOID ticket if that was its SETTLEMENT, and
the retirement. -/
theorem State.ticketPrinted_eq : s.ticketPrinted n kind stamp =
    (if t.state = .voided ∧ kind = .settlement ∧ (t.afterPrint kind stamp).owed = none then
      (s.putTicket (t.afterPrint kind stamp)).oweVoidNotice (t.afterPrint kind stamp)
    else s.putTicket (t.afterPrint kind stamp)).retireIfDone n := by
  have due : ((t.afterPrint kind stamp).state = .voided ∧ kind = .settlement ∧ (t.afterPrint kind stamp).owed.isNone ∧
      (t.afterPrint kind stamp).settlementPrinted = true) ↔
      (t.state = .voided ∧ kind = .settlement ∧ (t.afterPrint kind stamp).owed = none) := by
    refine ⟨fun ⟨voided, settlement, owed, _⟩ => ⟨voided, settlement, Option.isNone_iff_eq_none.1 owed⟩,
      fun ⟨voided, settlement, owed⟩ => ⟨voided, settlement, Option.isNone_iff_eq_none.2 owed, ?_⟩⟩
    rw [Ticket.afterPrint_eq, settlement]
    exact Bool.or_true _
  rw [State.ticketPrinted, ht]
  dsimp only
  rw [if_congr due rfl rfl]

/-- A ticket that is not settled, or still owes a receipt, keeps its place in the table. -/
theorem State.ticketPrinted_stays (h : (t.state ≠ .paid ∧ t.state ≠ .voided) ∨ (t.afterPrint kind stamp).owed ≠ none) :
    s.ticketPrinted n kind stamp = s.putTicket (t.afterPrint kind stamp) := by
  rw [State.ticketPrinted_eq ht, if_neg fun ⟨voided, _, owed⟩ => h.elim (fun unsettled => unsettled.2 voided) (fun owes => owes owed)]
  refine State.retireIfDone_eq_self fun x hx => ?_
  obtain rfl := Option.some.inj ((State.ticket?_afterPrint ht).symm.trans hx)
  exact h.imp id .inl

/-- A VOID ticket whose SETTLEMENT receipt was printed owes its VOID_NOTICE (R51). -/
theorem State.ticketPrinted_notice {p : PortId} (voided : t.state = .voided) (settlement : kind = .settlement)
    (owed : (t.afterPrint kind stamp).owed = none) (port : t.voidPort = some p) :
    s.ticketPrinted n kind stamp =
      ((s.putTicket (t.afterPrint kind stamp)).owingNotice (t.afterPrint kind stamp) p).advanceStamp := by
  rw [State.ticketPrinted_eq ht, if_pos ⟨voided, settlement, owed⟩, State.oweVoidNotice,
    show (t.afterPrint kind stamp).voidPort = some p from port]
  refine State.retireIfDone_eq_self fun x hx => .inr (.inl (State.advanceStamp_owes (fun y hy => ?_) x hx))
  obtain rfl := Option.some.inj ((State.ticket?_afterPrint_owing ht p).symm.trans hy)
  exact Option.some_ne_none _

/-- A settled ticket that owes nothing more, and to which no job refers, is retired (R54). -/
theorem State.ticketPrinted_retires (done : t.state = .paid ∨ (t.state = .voided ∧ kind ≠ .settlement))
    (owed : (t.afterPrint kind stamp).owed = none) (free : ∀ x ∈ s.jobs, x.refersTo n = false) :
    s.ticketPrinted n kind stamp = (s.putTicket (t.afterPrint kind stamp)).retire (t.afterPrint kind stamp) := by
  rw [State.ticketPrinted_eq ht, if_neg fun ⟨voided, settlement, _⟩ =>
    done.elim (fun paid => TicketState.noConfusion (paid.symm.trans voided)) (fun other => other.2 settlement)]
  exact State.retireIfDone_eq_retire (State.ticket?_afterPrint ht) (done.imp id And.left) owed free

end

theorem State.voidStep_retireIfDone (s : State) (n : Nat) : s.VoidStep (s.retireIfDone n) n := by
  unfold State.retireIfDone
  split
  · exact .refl s n
  next t ht =>
    split
    · exact State.ticket?_number ht ▸ s.voidStep_retire t
    · exact .refl s n

/-- Before the last stamp a DONE job leaves the other tickets and the day report. -/
theorem State.voidStep_ticketPrinted {s : State} {n : Nat} {t : Ticket} (ht : s.ticket? n = some t) (kind : TicketReceipt) (stamp : Nat)
    (lt : s.nextStamp < 4294967295) : s.VoidStep (s.ticketPrinted n kind stamp) n := by
  obtain rfl : t.number = n := State.ticket?_number ht
  have put : s.VoidStep (s.putTicket (t.afterPrint kind stamp)) t.number := s.voidStep_putTicket (t.afterPrint kind stamp)
  have owes : ∀ p, (s.putTicket (t.afterPrint kind stamp)).VoidStep
      ((s.putTicket (t.afterPrint kind stamp)).owe (t.afterPrint kind stamp) .voidNotice p) t.number := fun p => by
    rw [State.owe, State.advanceStamp_of_lt (s := (s.putTicket _).putTicket _) lt]
    exact State.VoidStep.trans (State.voidStep_putTicket _ { t.afterPrint kind stamp with owed := _ }) ⟨rfl, fun _ => rfl, fun _ _ => rfl⟩
  rw [State.ticketPrinted_eq ht]
  refine State.VoidStep.trans ?_ (State.voidStep_retireIfDone _ _)
  split_ifs
  · refine put.trans ?_
    unfold State.oweVoidNotice
    split
    · exact .refl _ _
    · exact owes _
  · exact put

end Sys2Proof.Machine
end

section
/-! The end of a job (R145, R146, R152), and the answers settled. -/

namespace Sys2Proof.Machine

/-! ### The source acted on (R146) -/

section
variable {s : State} {j : Job}

theorem State.sourceEffects_ticket {n stamp : Nat} {kind : TicketReceipt} (source : j.source = .owed n stamp) (hk : j.kind = .ticket kind) :
    s.sourceEffects j = s.ticketPrinted n kind stamp := by
  rw [State.sourceEffects, source, hk]

theorem State.reportPrinted_clears {stamp : Nat} {rep : DayReport} {o : ReportOwed} (hr : s.report = some rep) (ho : rep.owed = some o)
    (hs : o.stamp = stamp) : s.reportPrinted stamp = { s with report := some { rep with owed := none } } := by
  rw [State.reportPrinted, hr]
  dsimp only
  rw [ho]
  exact if_pos hs

theorem State.reportPrinted_frame (s : State) (stamp : Nat) : s.reportPrinted stamp = { s with report := (s.reportPrinted stamp).report } := by
  unfold State.reportPrinted
  split
  · rfl
  · split
    · rfl
    · split_ifs <;> rfl

theorem State.sourceEffects_report {stamp : Nat} (source : j.source = .report stamp) (hk : j.kind = .dayReport) :
    s.sourceEffects j = s.reportPrinted stamp := by
  rw [State.sourceEffects, source, hk]

/-- A COPY changes no source. -/
theorem State.sourceEffects_copy {n : Nat} (source : j.source = .copyTicket n) : s.sourceEffects j = s := by
  rw [State.sourceEffects, source]

/-- A job of another source than a ticket's owed receipt changes the day report at most. -/
theorem State.sourceEffects_frame (h : ∀ n stamp, j.source ≠ .owed n stamp) :
    s.sourceEffects j = { s with report := (s.sourceEffects j).report } := by
  unfold State.sourceEffects
  split
  next source _ => exact absurd source (h _ _)
  · exact s.reportPrinted_frame _
  · rfl

theorem State.leavesLine_ticketPrinted {r : PrinterId} (idle : s.noneBegun r) (n : Nat) (kind : TicketReceipt) (stamp : Nat) :
    s.LeavesLine (s.ticketPrinted n kind stamp) r := by
  cases ht : s.ticket? n with
  | none => rw [State.ticketPrinted, ht]; exact .refl s r
  | some t =>
    have put : s.LeavesLine (s.putTicket (t.afterPrint kind stamp)) r := .of_eq rfl rfl
    have owed : s.LeavesLine (if t.state = .voided ∧ kind = .settlement ∧ (t.afterPrint kind stamp).owed = none then
        (s.putTicket (t.afterPrint kind stamp)).oweVoidNotice (t.afterPrint kind stamp)
      else s.putTicket (t.afterPrint kind stamp)) r := by
      split_ifs
      · exact put.trans (State.leavesLine_oweVoidNotice _ _ r)
      · exact put
    rw [State.ticketPrinted_eq ht]
    exact owed.trans (State.leavesLine_retireIfDone (owed.noneBegun idle) n)

theorem State.leavesLine_sourceEffects {r : PrinterId} (idle : s.noneBegun r) (j : Job) : s.LeavesLine (s.sourceEffects j) r := by
  unfold State.sourceEffects
  split
  · exact State.leavesLine_ticketPrinted idle _ _ _
  · rw [State.reportPrinted_frame]
    exact .of_eq rfl rfl
  · exact .refl s r

end

/-! ### The lock settled (R152) -/

/-- The ports of a state, told of the lock of another state's printer where it was PENDING. -/
def State.settledPorts (s : State) (r : PrinterId) (x : State) : Vector Port 4 :=
  (match (s.printer r).lock with
    | .pending p => x.raise (.printer r (s.printer r).status (.locked p))
    | .locked _ => x
    | .none => x).ports

section
variable {s w x : State} {r : PrinterId} (idle : w.noneBegun r)
include idle

theorem State.settleLock_ports (lock : (w.printer r).lock = (s.printer r).lock) (status : (w.printer r).status = (s.printer r).status)
    (clock : w.clock = x.clock) (ports : w.ports = x.ports) : (w.settleLock r).ports = s.settledPorts r x := by
  unfold State.settledPorts
  cases h : (s.printer r).lock with
  | none => rw [State.settleLock_none (lock.trans h), ports]
  | locked p => rw [State.settleLock_locked (lock.trans h), ports]
  | pending p =>
    rw [State.settleLock_pending (lock.trans h) fun y hy printer => by rw [idle y hy printer]; exact JobState.noConfusion, status]
    exact State.raise_ports_congr ports clock _

/-- A lock PENDING before the job's end, whether its effects settled it or not, ends LOCKED. -/
theorem State.LeavesLine.settleLock_lock {p : PortId} (h : s.LeavesLine w r) (pending : (s.printer r).lock = .pending p) :
    ((w.settleLock r).printer r).lock = .locked p := by
  rcases h.lock with same | ⟨q, was, locked⟩
  · rw [State.settleLock_pending (same.trans pending) fun y hy printer => by rw [idle y hy printer]; exact JobState.noConfusion,
      State.printer_raise, State.printer_setPrinter, if_pos rfl]
  · rw [State.settleLock_locked locked, locked, Lock.pending.inj (was.symm.trans pending)]

end

/-! ### The last line accepted (R145) -/

/-- The END sent, and the DONE job taken from the pool with its JOB event. -/
def State.jobDone (s : State) (j : Job) : State :=
  ({ s.lineClosed j.printer with jobs := s.jobs.filter fun x => decide (x.id ≠ j.id) } : State).raise (.job j.id .printed 0)

/-- The end of a DONE job: its source acted on, and the lock settled. -/
def State.jobEnded (s : State) (j : Job) : State := ((s.jobDone j).sourceEffects j).settleLock j.printer

theorem State.leavePool_printed (s : State) (j : Job) : s.leavePool j .printed = s.withoutJob j .printed := by
  simp only [State.leavePool, ne_eq, not_true_eq_false, decide_false, Bool.and_false, Bool.false_eq_true, if_false]
  rfl

theorem State.lineAccepted_ends {s : State} {j : Job} (last : j.total ≤ j.printed + 1) :
    (s.clearAwaited j.printer).lineAccepted j = s.jobEnded j := by
  have left : j.total - (j.printed + 1) = 0 := Nat.sub_eq_zero_of_le last
  have done : ((s.clearAwaited j.printer).sendEnd j.printer).leavePool { j with printed := j.printed + 1 } .printed = s.jobDone j := by
    rw [State.sendEnd_clearAwaited, State.leavePool_printed, State.withoutJob]
    dsimp only
    rw [left]
    rfl
  rw [State.lineAccepted_last last, State.finishJob]
  dsimp only
  rw [done]
  rfl

section
variable (s : State) (j : Job)

theorem State.jobDone_printer : (s.jobDone j).printer j.printer = { s.printer j.printer with
    awaited := none, closeOwed := false, sent := (s.printer j.printer).sent ++ [.fin] } := by
  rw [State.jobDone, State.printer_raise]
  exact (s.printer_setPrinter _ _ _).trans (if_pos rfl)

theorem State.poolStep_jobDone : s.PoolStep (s.jobDone j) :=
  ((s.poolStep_setPrinter _ _).trans (State.poolStep_jobs _ _)).trans (State.poolStep_raise _ _)

theorem State.jobDone_ports : (s.jobDone j).ports = (s.raise (.job j.id .printed 0)).ports := State.raise_ports_congr rfl rfl _

end

section
variable {s : State} {j : Job} (stands : s.poolStands) (hj : j ∈ s.jobs)
include stands hj

/-- The printer of a DONE job has none begun any more. -/
theorem State.jobDone_noneBegun (active : j.active = true) : (s.jobDone j).noneBegun j.printer := by
  obtain ⟨-, -, -, -, one, -⟩ := stands
  intro x hx printer
  obtain ⟨hx, other⟩ := List.mem_filter.1 hx
  by_contra begun
  exact of_decide_eq_true other (one x hx j hj (decide_eq_true begun) active printer)

/-- No job but the one that serves a ticket's owed receipt refers to the ticket. -/
theorem State.jobDone_unreferred {n stamp : Nat} (source : j.source = .owed n stamp) : ∀ x ∈ (s.jobDone j).jobs, x.refersTo n = false := by
  obtain ⟨-, -, -, -, -, one⟩ := stands
  intro x hx
  obtain ⟨hx, other⟩ := List.mem_filter.1 hx
  by_contra refers
  exact of_decide_eq_true other (one n x hx j hj (Bool.eq_true_of_not_eq_false refers) (Job.refersTo_iff.2 ⟨stamp, source⟩))

end

section
variable {s : State} {j : Job} (stands : s.poolStands) (hj : j ∈ s.jobs) (active : j.active = true)
include stands hj active

/-- The end of a DONE job leaves its printer's line closed, and its lock no longer PENDING. -/
theorem State.jobEnded_line : (∀ x ∈ (s.jobEnded j).jobs, x.id ≠ j.id) ∧
    ((s.jobEnded j).printer j.printer).awaited = none ∧ ((s.jobEnded j).printer j.printer).closeOwed = false ∧
    ((s.jobEnded j).printer j.printer).sent = (s.printer j.printer).sent ++ [.fin] ∧
    ∀ p, (s.printer j.printer).lock = .pending p → ((s.jobEnded j).printer j.printer).lock = .locked p := by
  have idle := State.jobDone_noneBegun stands hj active
  have effects := State.leavesLine_sourceEffects idle j
  have ended : (s.jobDone j).LeavesLine (s.jobEnded j) j.printer := effects.trans (State.leavesLine_settleLock _ _ _)
  refine ⟨fun x hx => ?_, ?_, ?_, ?_, fun p pending => ?_⟩
  · obtain ⟨y, hy, id, -⟩ := ended.jobs x hx
    exact id ▸ of_decide_eq_true (List.mem_filter.1 hy).2
  · rw [ended.line, State.jobDone_printer]
  · rw [ended.line, State.jobDone_printer]
  · rw [ended.line, State.jobDone_printer]
  · exact effects.settleLock_lock (effects.noneBegun idle) (by rw [State.jobDone_printer]; exact pending)

/-- The ports after the end of a job whose effects left its printer: the JOB event, the effects' own event, the lock's. -/
theorem State.jobEnded_ports {x : State} (printers : ((s.jobDone j).sourceEffects j).printers = (s.jobDone j).printers)
    (clock : ((s.jobDone j).sourceEffects j).clock = x.clock) (ports : ((s.jobDone j).sourceEffects j).ports = x.ports) :
    (s.jobEnded j).ports = s.settledPorts j.printer x := by
  have idle := State.jobDone_noneBegun stands hj active
  have line : ((s.jobDone j).sourceEffects j).printer j.printer = (s.jobDone j).printer j.printer := by
    rw [State.printer, printers, State.printer]
  rw [State.jobDone_printer] at line
  exact State.settleLock_ports ((State.leavesLine_sourceEffects idle j).noneBegun idle) (by rw [line]) (by rw [line]) clock ports

/-- The end of a job of another source than a ticket's owed receipt. -/
theorem State.jobEnded_unticketed (h : ∀ n stamp, j.source ≠ .owed n stamp) :
    (s.jobEnded j).tickets = s.tickets ∧ (s.jobEnded j).snapshots = s.snapshots ∧
      (s.jobEnded j).ports = s.settledPorts j.printer (s.raise (.job j.id .printed 0)) := by
  have frame := State.sourceEffects_frame (s := s.jobDone j) h
  have settled := ((s.jobDone j).sourceEffects j).poolStep_settleLock j.printer
  refine ⟨?_, ?_, State.jobEnded_ports stands hj active (by rw [frame]) (by rw [frame]; rfl) (by rw [frame]; exact s.jobDone_ports j)⟩
  · rw [State.jobEnded, settled.tickets, frame]
    rfl
  · rw [State.jobEnded, settled.1, frame]
    rfl

end

end Sys2Proof.Machine
end

section
/-! The end of a job that served a ticket's owed receipt (R146), and the answers settled. -/

namespace Sys2Proof.Machine

theorem State.PoolStep.report {s u : State} (h : s.PoolStep u) : u.report = s.report := by rw [h.1]
theorem State.PoolStep.snapshots {s u : State} (h : s.PoolStep u) : u.snapshots = s.snapshots := by rw [h.1]
theorem State.PoolStep.nextStamp {s u : State} (h : s.PoolStep u) : u.nextStamp = s.nextStamp := by rw [h.1]

/-- The receipt printed is owed no more. -/
theorem Ticket.afterPrint_served {t : Ticket} {o : Owed} {kind : TicketReceipt} {stamp : Nat} (ho : t.owed = some o) (hk : o.kind = kind)
    (hs : o.stamp = stamp) : t.afterPrint kind stamp =
      { t with owed := none, settlementPrinted := t.settlementPrinted || decide (kind = .settlement) } := by
  rw [Ticket.afterPrint, ho]
  dsimp only
  rw [if_pos ⟨hk, hs⟩]

/-- A renumbering followed by a step of the pool that keeps the jobs. -/
theorem State.renumbered.of_poolStep {s u v : State} (h : s.renumbered u) (step : u.PoolStep v) (jobs : v.jobs = u.jobs) :
    s.renumbered { v with ports := s.ports, printers := s.printers } := by
  have ports : u.ports = s.ports := by rw [h.1]
  have printers : u.printers = s.printers := by rw [h.1]
  have same : ({ v with ports := s.ports, printers := s.printers } : State) = u := by rw [← ports, ← printers, step.1, jobs]
  exact same.symm ▸ h

/-- A retirement keeps the newest eight snapshots. -/
theorem State.retire_snapshots {s : State} (t : Ticket) (few : s.snapshots.length ≤ 8) :
    (s.retire t).snapshots = (s.snapshots ++ [t]).drop (s.snapshots.length - 7) := by
  have long : (s.snapshots ++ [t]).length = s.snapshots.length + 1 := List.length_append
  have taken : ((s.snapshotTaken t).raise (.ticket t.number none)).snapshots = s.snapshots ++ [t] := rfl
  rw [State.retire_eq_dropOldest, State.dropOldest, taken, long, show Config.maxSnapshots = 8 from rfl]
  split_ifs with full
  · rw [show s.snapshots.length - 7 = 1 by omega]
    dsimp only
    rw [(State.poolStep_cancelWhere _ _).snapshots, taken]
  · rw [show s.snapshots.length - 7 = 0 by omega]
    rfl

theorem State.noticeOwed_jobDone (s : State) (j : Job) (p : PortId) : (s.jobDone j).noticeOwed p = s.noticeOwed p := by
  rw [State.noticeOwed, (s.poolStep_jobDone j).2 p]
  rfl

section
variable {s : State} {j : Job} {n stamp : Nat} {kind : TicketReceipt} {t t' : Ticket} (source : j.source = .owed n stamp)
  (hk : j.kind = .ticket kind) (ht : s.ticket? n = some t) (printed : t.afterPrint kind stamp = t')
include source hk

theorem State.jobEnded_ticketed : s.jobEnded j = ((s.jobDone j).ticketPrinted n kind stamp).settleLock j.printer := by
  rw [State.jobEnded, State.sourceEffects_ticket source hk]

include ht

/-- Before the last stamp the other tickets and the day report stay. -/
theorem State.jobEnded_others (lt : s.nextStamp < 4294967295) :
    (∀ m, m ≠ n → (s.jobEnded j).ticket? m = s.ticket? m) ∧ (s.jobEnded j).report = s.report := by
  have done := s.poolStep_jobDone j
  have step : s.VoidStep (s.jobEnded j) n := by
    rw [State.jobEnded_ticketed source hk]
    exact ((done.voidStep n).trans (State.voidStep_ticketPrinted ((done.ticket? n).trans ht) kind stamp (done.nextStamp ▸ lt))).trans
      ((State.poolStep_settleLock _ _).voidStep n)
  exact ⟨step.others, by rw [step.frame]⟩

include printed

section
variable (stands : s.poolStands) (hj : j ∈ s.jobs) (active : j.active = true)
include stands hj active

/-- The ticket that is not settled, or still owes a receipt. -/
theorem State.jobEnded_stays (h : (t.state ≠ .paid ∧ t.state ≠ .voided) ∨ t'.owed ≠ none) :
    (s.jobEnded j).ticket? n = some t' ∧ (s.jobEnded j).nextStamp = s.nextStamp ∧ (s.jobEnded j).snapshots = s.snapshots ∧
      (s.jobEnded j).ports = s.settledPorts j.printer (s.raise (.job j.id .printed 0)) := by
  subst printed
  have found := ((s.poolStep_jobDone j).ticket? n).trans ht
  have stays := State.ticketPrinted_stays found h
  have settled := ((s.jobDone j).ticketPrinted n kind stamp).poolStep_settleLock j.printer
  refine ⟨?_, ?_, ?_, ?_⟩
  · rw [State.jobEnded_ticketed source hk, settled.ticket?, stays, State.ticket?_afterPrint found]
  · rw [State.jobEnded_ticketed source hk, settled.nextStamp, stays]
    rfl
  · rw [State.jobEnded_ticketed source hk, settled.snapshots, stays]
    rfl
  · rw [← State.sourceEffects_ticket source hk] at stays
    exact State.jobEnded_ports stands hj active (by rw [stays]; rfl) (by rw [stays]; rfl) (by rw [stays]; exact s.jobDone_ports j)

/-- The ticket that is settled and owes nothing more. -/
theorem State.jobEnded_retires (done : t.state = .paid ∨ (t.state = .voided ∧ kind ≠ .settlement)) (owed : t'.owed = none) :
    (s.jobEnded j).ticket? n = none ∧
      (s.snapshots.length ≤ 8 → (s.jobEnded j).snapshots = (s.snapshots ++ [t']).drop (s.snapshots.length - 7)) ∧
      (s.snapshots.length < 8 → (s.jobEnded j).ports =
        s.settledPorts j.printer ((s.raise (.job j.id .printed 0)).raise (.ticket n none))) := by
  have found := ((s.poolStep_jobDone j).ticket? n).trans ht
  have number : t'.number = n := printed ▸ State.ticket?_number (t := t) ht
  have retires : (s.jobDone j).ticketPrinted n kind stamp = ((s.jobDone j).putTicket t').retire t' := by
    subst printed
    exact State.ticketPrinted_retires found done owed (State.jobDone_unreferred stands hj source)
  have settled := ((s.jobDone j).ticketPrinted n kind stamp).poolStep_settleLock j.printer
  refine ⟨?_, fun few => ?_, fun few => ?_⟩
  · rw [State.jobEnded_ticketed source hk, settled.ticket?, retires, State.retire_ticket?, if_pos number.symm]
  · rw [State.jobEnded_ticketed source hk, settled.snapshots, retires]
    exact State.retire_snapshots (s := (s.jobDone j).putTicket t') t' few
  · rw [State.retire_eq (s := (s.jobDone j).putTicket t') t' few, ← State.sourceEffects_ticket source hk, number] at retires
    refine State.jobEnded_ports stands hj active (by rw [retires]; rfl) (by rw [retires]; rfl) ?_
    rw [retires]
    exact State.raise_ports_congr (s.jobDone_ports j) rfl _

/-- The VOID ticket that comes to owe its notice, before the last stamp. -/
theorem State.jobEnded_notice {p : PortId} (voided : t.state = .voided) (settlement : kind = .settlement) (owed : t'.owed = none)
    (port : t.voidPort = some p) (lt : s.nextStamp < 4294967295) :
    (s.jobEnded j).ticket? n = some { t' with owed := some (s.noticeOwed p) } ∧
      (s.jobEnded j).nextStamp = s.nextStamp + 1 ∧ (s.jobEnded j).snapshots = s.snapshots ∧
      (s.jobEnded j).ports = s.settledPorts j.printer (s.raise (.job j.id .printed 0)) := by
  subst printed
  have found := ((s.poolStep_jobDone j).ticket? n).trans ht
  have notice := State.ticketPrinted_notice found voided settlement owed port
  rw [State.advanceStamp_of_lt (s := ((s.jobDone j).putTicket _).owingNotice _ p) lt] at notice
  have settled := ((s.jobDone j).ticketPrinted n kind stamp).poolStep_settleLock j.printer
  refine ⟨?_, ?_, ?_, ?_⟩
  · rw [State.jobEnded_ticketed source hk, settled.ticket?, notice, ← s.noticeOwed_jobDone j p]
    exact State.ticket?_afterPrint_owing found p
  · rw [State.jobEnded_ticketed source hk, settled.nextStamp, notice]
    rfl
  · rw [State.jobEnded_ticketed source hk, settled.snapshots, notice]
    rfl
  · rw [← State.sourceEffects_ticket source hk] at notice
    exact State.jobEnded_ports stands hj active (by rw [notice]; rfl) (by rw [notice]; rfl) (by rw [notice]; exact s.jobDone_ports j)

end

/-- The VOID ticket that comes to owe its notice with the last stamp: every owed receipt is renumbered (R135). -/
theorem State.jobEnded_renumbers {p : PortId} (voided : t.state = .voided) (settlement : kind = .settlement) (owed : t'.owed = none)
    (port : t.voidPort = some p) (last : 4294967295 ≤ s.nextStamp) : ∃ before : State,
    before.ticket? n = some { t' with owed := some (s.noticeOwed p) } ∧
      (∀ m, m ≠ n → before.ticket? m = s.ticket? m) ∧ before.report = s.report ∧
      before.renumbered { s.jobEnded j with ports := before.ports, printers := before.printers } := by
  subst printed
  have found := ((s.poolStep_jobDone j).ticket? n).trans ht
  have number : (t.afterPrint kind stamp).number = n := State.ticket?_number (t := t) ht
  have notice := State.ticketPrinted_notice found voided settlement owed port
  refine ⟨((s.jobDone j).putTicket (t.afterPrint kind stamp)).owingNotice (t.afterPrint kind stamp) p, ?_, fun m hm => ?_, ?_, ?_⟩
  · rw [State.ticket?_afterPrint_owing found, State.noticeOwed_jobDone]
  · rw [State.ticket?_owingNotice_other _ (number.symm ▸ hm), State.ticket?_putTicket_other _ (number.symm ▸ hm)]
    exact (s.poolStep_jobDone j).ticket? m
  · exact (s.poolStep_jobDone j).report
  · rw [State.jobEnded_ticketed source hk]
    refine State.renumbered.of_poolStep ?_ (State.poolStep_settleLock _ _) (State.settleLock_jobs _ _)
    rw [notice]
    exact State.advanceStamp_renumbered last

end

/-! ### The answers, settled -/

section
variable {s : State} {r : PrinterId} {w : Awaited} {j : Job} (hrun : s.running = true) (hw : (s.printer r).awaited = some w)
  (hc : (s.printer r).closeOwed = false) (hj : s.activeJob? r = some j)
include hrun hw hc hj

theorem exec_accepted_taken (taken : j.state = .taken) :
    exec (.printerAnswer r .accepted true) s = .next ((s.clearAwaited r).startPrinting j) := by
  rw [exec_printerAnswer hrun, State.answer_accepted_taken hw hc hj taken]

theorem exec_accepted_next (printing : j.state = .printing) (more : j.printed + 1 < j.total) :
    exec (.printerAnswer r .accepted true) s =
      .next ((s.putJob { j with printed := j.printed + 1 }).sendLine { j with printed := j.printed + 1 }) := by
  obtain ⟨-, rfl, -⟩ := State.activeJob?_spec hj
  rw [exec_printerAnswer hrun, State.answer_accepted_printing hw hc hj printing, State.lineAccepted_next more]
  exact congrArg Host.Outcome.next ((s.putJob _).sendAwaited_clearAwaited j.printer _ j.id)

theorem exec_accepted_last (printing : j.state = .printing) (last : j.total ≤ j.printed + 1) :
    exec (.printerAnswer r .accepted true) s = .next (s.jobEnded j) := by
  obtain ⟨-, rfl, -⟩ := State.activeJob?_spec hj
  rw [exec_printerAnswer hrun, State.answer_accepted_printing hw hc hj printing, State.lineAccepted_ends last]

end

/-- Settles O47: an answer by what its line awaits, a usable one by the stage of its job, and the last line by the job's source. -/
theorem answersMoveTheJob : Obligations.AnswersMoveTheJob := by
  refine fun r s hrun => ⟨exec_printerAnswer_bad, fun hw => ?_, fun w hw hc => ?_, fun w j hw hc hj taken => ?_,
    fun w j hw hc hj printing more => ?_, fun w j hw hc hj printing last stands => ?_, fun v hw => ?_, fun v w hw hc => ?_,
    fun v w hw hc => ⟨exec_printerAnswer_unusable hrun hw hc, fun j after usable hj taken =>
      exec_printerAnswer_usable_taken hrun hw hc usable hj taken, fun j after usable hj printing =>
      exec_printerAnswer_usable_printing hrun hw hc usable hj printing⟩⟩
  · rw [exec_printerAnswer hrun, State.answer_none hw]
    rfl
  · rw [exec_printerAnswer hrun, State.answer_closing hw hc]
    rfl
  · obtain ⟨-, rfl, -⟩ := State.activeJob?_spec hj
    obtain ⟨jobs, printer, tickets, report, snapshots, ports⟩ := s.startPrinting_fields j
    have found : ∀ m, ((s.clearAwaited j.printer).startPrinting j).ticket? m = ((s.begins j).setStarted j).ticket? m :=
      fun m => by rw [State.ticket?, tickets, State.ticket?]
    refine ⟨_, s.nextLine j, exec_accepted_taken hrun hw hc hj taken, jobs, printer, rfl, fun n stamp t o source ht ho hs => ?_,
      fun n stamp source => ⟨fun m hm => ?_, ?_⟩, fun stamp rep o source hr ho hs => ?_, fun stamp source => ?_,
      fun owed rep => ⟨?_, ?_⟩, snapshots, ports⟩
    · rw [found, State.setStarted_ticket (s := s.begins j) source ht ho hs]
      exact State.ticket?_putTicket_self (s := s.begins j) ht (State.ticket?_number (t := t) ht)
    · rw [found, State.setStarted_others source hm]
      rfl
    · rw [report, State.setStarted_keepsReport (by simp [source])]
      rfl
    · rw [report, State.setStarted_report (s := s.begins j) source hr ho hs]
    · rw [tickets, State.setStarted_tickets (by simp [source])]
      rfl
    · rw [tickets, State.setStarted_tickets owed]
      rfl
    · rw [report, State.setStarted_keepsReport rep]
      rfl
  · obtain ⟨-, rfl, -⟩ := State.activeJob?_spec hj
    exact exec_accepted_next hrun hw hc hj printing more
  · obtain ⟨mem, rfl, active⟩ := State.activeJob?_spec hj
    intro told settled
    obtain ⟨ids, awaited, close, sent, lock⟩ := State.jobEnded_line stands mem active
    refine ⟨_, exec_accepted_last hrun hw hc hj printing last, ids, awaited, close, sent, fun t o n stamp kind source hk ht ho hs hkind
      state => ?_, fun stamp rep o source hk hr ho hs => ?_, fun n source => ?_, State.jobEnded_unticketed stands mem active, lock,
      fun n stamp kind t source hk ht => ?_⟩
    · refine (State.jobEnded_stays source hk ht (Ticket.afterPrint_served ho hkind hs) stands mem active (.inl ?_)).1
      rcases state with e | e <;> rw [e] <;> exact ⟨TicketState.noConfusion, TicketState.noConfusion⟩
    · rw [State.jobEnded, (State.poolStep_settleLock _ _).report, State.sourceEffects_report source hk,
        State.reportPrinted_clears (s := s.jobDone j) hr ho hs]
    · rw [State.jobEnded, (State.poolStep_settleLock _ _).report, (State.poolStep_settleLock _ _).tickets, State.sourceEffects_copy source]
      exact ⟨rfl, rfl⟩
    · have printed := Ticket.afterPrint_eq t kind stamp
      exact ⟨State.jobEnded_others source hk ht, State.jobEnded_stays source hk ht printed stands mem active,
        fun p voided settlement owed port lt =>
          State.jobEnded_notice source hk ht printed stands mem active voided settlement owed port lt,
        fun p voided settlement owed port last => State.jobEnded_renumbers source hk ht printed voided settlement owed port last,
        State.jobEnded_retires source hk ht printed stands mem active⟩
  · rw [exec_printerAnswer hrun, exec_printerStatusFrame hrun, State.answer_none hw]
    rfl
  · rw [exec_printerAnswer hrun, State.answer_closing hw hc]
    exact (exec_printerStatusFrame (s := s.lineClosed r) hrun v).symm

end Sys2Proof.Machine
end

section
/-! The day totals fed by a payment (R162, R163): what each addition gives, and the payment's additions together. -/

namespace Sys2Proof.Machine

/-! ### One addition held at its limit (R163) -/

/-- A capped addition is the lesser of the sum and the limit, and its flag says that the sum is past the limit. -/
theorem addCapped_eq (limit a x : Nat) : addCapped limit a x = (min (a + x) limit, decide (limit < a + x)) := by
  unfold addCapped
  split_ifs with above
  · rw [Nat.min_eq_right (Nat.le_of_lt above), decide_eq_true above]
  · rw [Nat.min_eq_left (Nat.not_lt.1 above), decide_eq_false above]

/-- A rounding is held between the limits of both signs, and its flag says that the sum is past either. -/
theorem addRounding_eq (a r : Int) : addRounding a r =
    (max (-9999999999) (min (a + r) 9999999999), decide (a + r < -9999999999 ∨ 9999999999 < a + r)) := by
  rw [addRounding, show (Config.maxRounding : Int) = 9999999999 from rfl]
  split_ifs with high low
  · exact Prod.ext (by dsimp only; omega) (decide_eq_true (.inr high)).symm
  · exact Prod.ext (by dsimp only; omega) (decide_eq_true (.inl low)).symm
  · exact Prod.ext (by dsimp only; omega) (decide_eq_false (not_or.2 ⟨low, high⟩)).symm

/-! ### The lines of a payment (R162, 1) -/

/-- A line added writes the slot of its base rule and the flag, and nothing else. -/
theorem Totals.addLine_eq (x : Totals) (p : Pricing) : x.addLine p = { x with
    slots := x.slots.set p.slot
      { weight := min (x.slots[p.slot].weight + p.payable) 99999999999
        amount := min (x.slots[p.slot].amount + p.amount) 99999999999 }
    saturated := x.saturated || decide (99999999999 < x.slots[p.slot].weight + p.payable)
      || decide (99999999999 < x.slots[p.slot].amount + p.amount) } := by
  rw [Totals.addLine, addCapped_eq, addCapped_eq, show Config.maxFigure = 99999999999 from rfl]

theorem Totals.addLine_slot (x : Totals) (p : Pricing) (i : Fin 32) : (x.addLine p).slots[i] =
    if i = p.slot then
      { weight := min (x.slots[i].weight + p.payable) 99999999999, amount := min (x.slots[i].amount + p.amount) 99999999999 }
    else x.slots[i] := by
  rw [Totals.addLine_eq]
  split_ifs with same
  · subst same
    exact Vector.getElem_set_self p.slot.isLt
  · exact Vector.getElem_set_ne p.slot.isLt i.isLt fun e => same (Fin.ext e.symm)

theorem Totals.addLines_cons (x : Totals) (ln : Line) (lines : List Line) : x.addLines (ln :: lines) =
    match ln.pricing with
    | none => x.addLines lines
    | some p => (x.addLine p).addLines lines := by
  rw [Totals.addLines, List.foldl_cons]
  cases ln.pricing <;> rfl

/-- The lines added move the slots and the flag alone. -/
theorem Totals.addLines_eq (x : Totals) (lines : List Line) : x.addLines lines =
    { x with slots := (x.addLines lines).slots, saturated := (x.addLines lines).saturated } := by
  induction lines generalizing x with
  | nil => rfl
  | cons ln lines ih =>
    rw [Totals.addLines_cons]
    cases ln.pricing with
    | none => exact ih x
    | some p => exact ih (x.addLine p)

/-- The lines added never clear the flag. -/
theorem Totals.addLines_saturated {x : Totals} (h : x.saturated = true) (lines : List Line) :
    (x.addLines lines).saturated = true := by
  induction lines generalizing x with
  | nil => exact h
  | cons ln lines ih =>
    rw [Totals.addLines_cons]
    cases ln.pricing with
    | none => exact ih h
    | some p =>
      refine ih ?_
      rw [Totals.addLine_eq, h, Bool.true_or, Bool.true_or]

/-! ### The summary figures of a payment (R162, 2 to 4) -/

/-- The amount paid writes the total of its method and the flag. -/
theorem Totals.addPaid_eq (x : Totals) (method : PayMethod) (amount : Nat) : x.addPaid method amount = { x with
    cash := if method = .cash then min (x.cash + amount) 99999999999 else x.cash
    voucher := if method = .voucher then min (x.voucher + amount) 99999999999 else x.voucher
    saturated := x.saturated || decide (method = .cash ∧ 99999999999 < x.cash + amount)
      || decide (method = .voucher ∧ 99999999999 < x.voucher + amount) } := by
  cases method <;> simp [Totals.addPaid, addCapped_eq, Config.maxFigure]

theorem Totals.addRounding_eq (x : Totals) (r : Int) : x.addRounding r = { x with
    rounding := max (-9999999999) (min (x.rounding + r) 9999999999)
    saturated := x.saturated || decide (x.rounding + r < -9999999999 ∨ 9999999999 < x.rounding + r) } := by
  rw [Totals.addRounding, Machine.addRounding_eq]

theorem Totals.countPaid_eq (x : Totals) : x.countPaid = { x with
    paidCount := min (x.paidCount + 1) 999999
    saturated := x.saturated || decide (999999 < x.paidCount + 1) } := by
  rw [Totals.countPaid, addCapped_eq, show Config.maxCount = 999999 from rfl]

/-! ### The payment (R162) -/

/-- What a payment feeds: the lines' slots, each summary figure held at its limit, and the flag raised by any of the additions. -/
theorem Totals.feed_eq (x : Totals) (lines : List Line) (method : PayMethod) (amount : Nat) (rounding : Int) :
    x.feed lines method amount rounding =
      { slots := (x.addLines lines).slots
        paidCount := min (x.paidCount + 1) 999999
        voidCount := x.voidCount
        cash := if method = .cash then min (x.cash + amount) 99999999999 else x.cash
        voucher := if method = .voucher then min (x.voucher + amount) 99999999999 else x.voucher
        rounding := max (-9999999999) (min (x.rounding + rounding) 9999999999)
        saturated := (x.addLines lines).saturated || decide (method = .cash ∧ 99999999999 < x.cash + amount)
          || decide (method = .voucher ∧ 99999999999 < x.voucher + amount)
          || decide (x.rounding + rounding < -9999999999 ∨ 9999999999 < x.rounding + rounding)
          || decide (999999 < x.paidCount + 1) } := by
  rw [Totals.feed, Totals.countPaid_eq, Totals.addRounding_eq, Totals.addPaid_eq, Totals.addLines_eq]

/-- The flag after a payment stood before its summary figures were added, or one of the additions passed its limit. -/
theorem Totals.feed_saturated (x : Totals) (lines : List Line) (method : PayMethod) (amount : Nat) (rounding : Int) :
    (x.feed lines method amount rounding).saturated = true ↔
      (x.addLines lines).saturated = true ∨ (method = .cash ∧ 99999999999 < x.cash + amount) ∨
        (method = .voucher ∧ 99999999999 < x.voucher + amount) ∨ x.rounding + rounding < -9999999999 ∨
        9999999999 < x.rounding + rounding ∨ 999999 < x.paidCount + 1 := by
  rw [Totals.feed_eq]
  simp only [Bool.or_eq_true, decide_eq_true_eq, or_assoc]

/-- Settles O43: each addition of R162 is held at its limit by R163, and the flag is only ever joined with what they say. -/
theorem paymentsFeedTheTotals : Obligations.PaymentsFeedTheTotals := by
  intro x
  refine ⟨x.addLine_slot, fun p => by rw [Totals.addLine_eq], fun lines method amount rounding => ?_, rfl, x.addLines_cons⟩
  rw [Totals.feed_saturated, Totals.feed_eq]
  exact ⟨rfl, rfl, rfl, rfl, rfl, rfl, fun set => .inl (Totals.addLines_saturated set lines), .rfl⟩

end Sys2Proof.Machine
end

section
/-! The packets of the station lines by the steps of Table 9-10 (R175 to R177): a packet discarded, BUSY, MALFORMED, ROLE and UNKNOWN,
and the frames that carry the commands. -/

namespace Sys2Proof.Machine

/-! ### The command of a packet (Table 9-9) -/

/-- A row is the command of a code of Table 9-9: the code spells it, and its packet is taken by the layout of its parameters, by the roles
that the table permits, and past a command in progress for PORT RESET alone. -/
structure KnownCommand (i : Instr) (code : Nat) (k : Packet) : Prop where
  wf_eq : i.wf = k.wf
  spelled : commandOfCode (BitVec.ofNat 8 code) k = i
  taken : ∃ (α : Type) (allowed : Role → Bool) (parse : List Byte → Option α) (run : α → State → Effect),
    (∀ s, takePacket i s = takeCommand (decide (code = 2)) allowed parse run k s) ∧
    fitsLayout i = (parse k.params).isSome ∧ ∀ r, allowed r = true ↔ r ∈ permitted code

/-- A row that is a command packet is UNKNOWN_COMMAND or the command of a code of Table 9-9. -/
theorem unknown_or_known {i : Instr} {code : Nat} {k : Packet} (hc : i.command? = some (code, k)) :
    (∃ x : Byte, i = .unknownCommand k x ∧ x.toNat = code) ∨ KnownCommand i code k := by
  cases i with
  | unknownCommand k' x =>
    cases hc
    exact .inl ⟨x, rfl, rfl⟩
  | discardedPacket | frameAbandoned | interByteTimeout | frameSent | attentionHandover | readingFrame | staleExpiry
  | captureTimeout | printerStatusFrame | printerAnswer | answerTimerExpiry | statusTimerExpiry | arbiterTake
  | owedReceiptService | clockAdvance | holdExpiry | powerUp | mainSupplyFail | resetLineAssert | resetLineRelease
  | startByte | batteryFailure => cases hc
  | readStatus | portReset | configurePort | setOption | clearFault | systemReset | configureScale | zero | readScale
  | openTicket | addLine | removeLine | setDeduction | keyWeight | acceptMargin | capture | voidTicket | reopenTicket
  | readTicket | listTickets | storeTare | dropTare | readTare | useStoredTare | editRule | commitPrices | discardPrices
  | readRule | closeTicket | setClock | releaseHold | float | lift | readDrawer | pay | lockPrinter | unlockPrinter
  | cancelJob | printCopy | setHeader | readPrinter | readTotals | endDay | subscribe | releaseAttention | readAttention
  | clearOverflow =>
    cases hc
    exact .inr ⟨rfl, rfl, _, _, _, _, fun _ => rfl, rfl, fun r => by cases r <;> decide⟩

/-- The command that a code spells has that code (Table 9-9). -/
theorem command?_commandOfCode (code : Byte) (k : Packet) : (commandOfCode code k).command? = some (code.toNat, k) := by
  unfold commandOfCode
  split
  case h_48 => rfl
  all_goals rename_i h; rw [h]; rfl

/-- A well-formed UNKNOWN_COMMAND carries a code that is not in Table 9-9. -/
theorem knownCode_of_wf {k : Packet} {code : Byte} (h : (Instr.unknownCommand k code).wf = true) : knownCode code = false := by
  rw [Instr.wf, Bool.and_eq_true, Bool.not_eq_true'] at h
  exact h.2

/-- The row of a well-formed command is the packet that its receiver has taken. -/
theorem exec_eq_takePacket_of_wf {i : Instr} {code : Nat} {k : Packet} (hw : i.wf = true) (hc : i.command? = some (code, k)) (s : State) :
    exec i s = takePacket i s := by
  by_cases hu : ∃ k code, i = .unknownCommand k code
  · obtain ⟨k, code, rfl⟩ := hu
    exact congrArg (takePacket · s) (Laws.Encoding.commandOfCode_unknown code k (knownCode_of_wf hw))
  · exact exec_eq_takePacket (by rw [hc]; rfl) (fun k code e => hu ⟨k, code, e⟩) s

/-! ### Packets discarded (R176, Table 9-10, steps 1 and 2) -/

section
variable {k : Packet} {s : State} (hrun : s.running = true) (h : 4 ≤ (s.port k.port).out.length ∨ k.tag = 0#8)
include h

theorem State.discards_eq_true : s.discards k.port k.tag = true := by
  rw [State.discards, Bool.or_eq_true, decide_eq_true_eq, decide_eq_true_eq]
  exact h

include hrun

theorem takeCommand_discarded {α : Type} (bypass : Bool) (allowed : Role → Bool) (parse : List Byte → Option α)
    (run : α → State → Effect) : takeCommand bypass allowed parse run k s = .next (s.hunt k.port) := by
  rw [takeCommand, State.whileRunning, if_pos hrun, if_pos (State.discards_eq_true h), ite_self]

theorem takeUnknown_discarded : takeUnknown k s = .next (s.hunt k.port) := by
  rw [takeUnknown, State.whileRunning, if_pos hrun, if_pos (State.discards_eq_true h), ite_self]

theorem takePacket_discarded {i : Instr} {code : Nat} (hc : i.command? = some (code, k)) :
    takePacket i s = .next (s.hunt k.port) := by
  rcases unknown_or_known hc with ⟨x, rfl, -⟩ | ⟨-, -, α, allowed, parse, run, taken, -, -⟩
  · exact takeUnknown_discarded hrun h
  · rw [taken]
    exact takeCommand_discarded hrun h _ allowed parse run

end

/-! ### Unknown codes (R177, Table 9-10, steps 3 and 4) -/

theorem takeUnknown_looksAt {k : Packet} {s : State} (h : s.looksAt k) : takeUnknown k s = .next ((s.hunt k.port).answerUnknown k) := by
  have fits : ¬248 < k.params.length := Nat.not_lt.2 h.2.1
  rw [takeUnknown, State.whileRunning, if_pos h.1, if_neg fits, s.discards_eq_false k h]
  rfl

theorem State.answerUnknown_eq (s : State) (k : Packet) : (s.hunt k.port).answerUnknown k =
    (s.hunt k.port).replied k (.stop (if (s.port k.port).busy = none then .unknown else .busy) 0) := by
  rw [State.answerUnknown, State.hunt_port_busy]
  cases (s.port k.port).busy <;> rfl

/-- A packet that meets a command in progress, unless it is PORT RESET (Table 9-10, step 3). -/
theorem takePacket_busy {i : Instr} {code : Nat} {k : Packet} {s : State} (hc : i.command? = some (code, k)) (h : s.looksAt k)
    (hb : (s.port k.port).busy ≠ none) (hn : code ≠ 2) : takePacket i s = .next ((s.hunt k.port).replied k (.stop .busy 0)) := by
  rcases unknown_or_known hc with ⟨x, rfl, -⟩ | ⟨-, -, α, allowed, parse, run, taken, -, -⟩
  · exact (takeUnknown_looksAt h).trans (by rw [State.answerUnknown_eq, if_neg hb])
  · rw [taken, decide_eq_false hn]
    exact takeCommand_busy allowed parse run k s h hb

/-- Settles O4: every packet, of a known code or not, meets the first three steps of Table 9-10 alike. -/
theorem packetsDiscardedOrBusy : Obligations.PacketsDiscardedOrBusy := by
  refine ⟨fun c code k s hw hc hrun => ⟨fun h => ?_, fun h hb hn => ?_⟩, fun p body s hrun h2 h250 h => ?_⟩
  · exact (exec_eq_takePacket_of_wf hw hc s).trans (takePacket_discarded hrun h hc)
  · exact (exec_eq_takePacket_of_wf hw hc s).trans (takePacket_busy hc h hb hn)
  · match body, h2 with
    | tag :: code :: params, _ =>
      have whole : exec (.discardedPacket p (tag :: code :: params)) s = takePacket (commandOfCode code ⟨p, tag, params⟩) s :=
        if_neg (Nat.not_lt.2 h250)
      rw [whole]
      exact takePacket_discarded (k := ⟨p, tag, params⟩) hrun (h.imp_right Option.some.inj) (command?_commandOfCode code _)

/-! ### MALFORMED, ROLE and UNKNOWN (Table 9-10, steps 4 to 6) -/

/-- Settles O5: the layout of the command is read before the role of its port, and both before its own effect. -/
theorem refusalsBeforeTheOwner : Obligations.RefusalsBeforeTheOwner := by
  refine ⟨fun c code k s hw hc h1 h47 h => ?_, fun k code s hk h => ?_⟩
  · rw [exec_eq_takePacket_of_wf hw hc]
    rcases unknown_or_known hc with ⟨x, rfl, rfl⟩ | ⟨-, -, α, allowed, parse, run, taken, fits, roles⟩
    · have unknown := knownCode_of_wf hw
      rw [knownCode, decide_eq_true h1, decide_eq_true h47] at unknown
      cases unknown
    rw [taken, fits]
    refine ⟨fun hf => ?_, fun hf hr => ?_⟩
    · exact takeCommand_malformed _ allowed parse run k s h (Option.isNone_iff_eq_none.1 (Option.isSome_eq_false_iff.1 hf))
    · obtain ⟨a, ha⟩ := Option.isSome_iff_exists.1 hf
      exact takeCommand_role _ allowed parse run k s h a ha (Bool.eq_false_iff.2 fun e => hr ((roles _).1 e))
  · have unknown : exec (.unknownCommand k code) s = takeUnknown k s :=
      congrArg (takePacket · s) (Laws.Encoding.commandOfCode_unknown code k hk)
    rw [unknown, takeUnknown_looksAt h.1, State.answerUnknown_eq, if_pos h.2]

/-! ### Frames (R175, Tables 9-2, 9-3 and 9-9) -/

/-- The body of every well-formed command spells it. -/
theorem encoding_statement (i : Instr) : Laws.Encoding.Statement i := by
  cases hc : i.command? with
  | none => exact Laws.Encoding.of_no_command i hc
  | some command =>
    rcases unknown_or_known hc with ⟨x, rfl, -⟩ | known
    · exact Laws.Encoding.unknownCommand _ x
    · exact Laws.Encoding.of_command i _ _ hc known.spelled

/-- The body of a well-formed command has 2 to 250 bytes. -/
theorem body?_length {c : Instr} {code : Nat} {k : Packet} {body : List Byte} (hw : c.wf = true) (hc : c.command? = some (code, k))
    (hb : c.body? = some body) : 2 ≤ body.length ∧ body.length ≤ 250 := by
  have packet : k.wf = true := by
    rcases unknown_or_known hc with ⟨x, rfl, -⟩ | known
    · exact ((Bool.and_eq_true _ _).mp hw).1
    · rwa [← known.wf_eq]
  have params : k.params.length ≤ 248 := of_decide_eq_true packet
  rw [Instr.body?, hc] at hb
  cases hb
  simp only [List.length_cons]
  omega

section
variable {body : List Byte} (low : 2 ≤ body.length) (high : body.length ≤ 250)
include low high

theorem lengthByte_toNat : (BitVec.ofNat 8 body.length).toNat = body.length := by
  rw [BitVec.toNat_ofNat]
  omega

/-- The receiver takes a frame whole at its last check byte. -/
theorem frameProgress_frameBytes : frameProgress (frameBytes body).tail = .complete body := by
  have len := lengthByte_toNat low high
  have check : (checkBytes body).length = 2 := numBytes_length 2 _
  rw [frameBytes, List.tail_cons, frameProgress, len, if_neg (by omega), if_neg (by rw [List.length_append, check]; omega),
    List.drop_left, List.take_left, if_pos rfl]

/-- The receiver waits for more at every shorter part of a frame. -/
theorem frameProgress_take {n : Nat} (h : n < (frameBytes body).tail.length) : frameProgress ((frameBytes body).tail.take n) = .more := by
  have len := lengthByte_toNat low high
  have check : (checkBytes body).length = 2 := numBytes_length 2 _
  rw [frameBytes, List.tail_cons] at h ⊢
  cases n with
  | zero => rfl
  | succ n =>
    rw [List.length_cons, List.length_append, check] at h
    rw [List.take_succ_cons, frameProgress, len, if_neg (by omega), if_pos]
    exact (List.length_take_le n _).trans_lt (by omega)

end

/-- Settles O7: the length byte counts the body, so the check is met at its two bytes and not before. -/
theorem framesCarryTheirCommands : Obligations.FramesCarryTheirCommands := by
  intro c code k body hw hc hb
  obtain ⟨low, high⟩ := body?_length hw hc hb
  exact ⟨frameProgress_frameBytes low high, fun n h => frameProgress_take low high h, encoding_statement c code k body hw hc hb⟩

end Sys2Proof.Machine
end

section
/-! The receivers and the output queues of the ports (R175, R176, R192), and the settings, the fault flag and the header lines that a
SUPERVISOR writes (R158, R186, R200). -/

namespace Sys2Proof.Machine

/-! ### Receivers and senders (R175, R176, R192) -/

/-- A row of the part's own while the part takes events. -/
theorem next_whileRunning {s : State} (h : s.running = true) (f : State → State) :
    (.next (s.whileRunning f) : Result) = .next (f s) :=
  congrArg Host.Outcome.next (if_pos h)

/-- A port replaced by itself. -/
theorem State.setPort_self (s : State) (p : PortId) : s.setPort p (s.port p) = s := by
  rw [State.setPort, State.port]
  exact congrArg (fun ports => ({ s with ports := ports } : State)) (Vector.set_getElem_self _)

theorem Port.handsOver_iff (q : Port) : q.handsOver = true ↔ q.release = true ∧ q.busy = none ∧ q.out = [] := by
  rw [Port.handsOver, Bool.and_eq_true, Bool.and_eq_true, Option.isNone_iff_eq_none, decide_eq_true_eq, and_assoc]

/-- A handover whose conditions hold (R192). -/
theorem Port.handover_cons {q : Port} {e : Entry} {rest : List Entry} (hr : q.release = true) (hb : q.busy = none)
    (ho : q.out = []) (ha : q.attention = e :: rest) : q.handover = { q with attention := rest, out := [.attention e] } := by
  rw [Port.handover, if_pos (q.handsOver_iff.2 ⟨hr, hb, ho⟩), ha]

/-- A handover whose conditions do not hold changes nothing (R192). -/
theorem Port.handover_self {q : Port} (h : q.release = false ∨ q.busy ≠ none ∨ q.out ≠ [] ∨ q.attention = []) : q.handover = q := by
  rw [Port.handover]
  split_ifs with ready
  · obtain ⟨hr, hb, ho⟩ := q.handsOver_iff.1 ready
    rcases h with h | h | h | h
    · rw [hr] at h; cases h
    · exact absurd hb h
    · exact absurd ho h
    · rw [h]
  · rfl

/-- Settles O6: each row is one operation of its port. -/
theorem receiversAndSenders : Obligations.ReceiversAndSenders := by
  intro p s hrun
  refine ⟨fun hunting => ?_, fun cause => next_whileRunning hrun _, fun bytes due frame => ?_, fun f rest queue => ?_,
    fun e rest hr hb ho ha => ?_, fun idle => ?_⟩
  · refine (if_pos hrun).trans ?_
    rw [takeStartByte, hunting]
    rfl
  · refine (next_whileRunning hrun _).trans ?_
    rw [State.expireFrame, frame]
    rfl
  · refine (next_whileRunning hrun _).trans ?_
    rw [State.frameSent, queue]
    rfl
  · refine (next_whileRunning hrun _).trans ?_
    rw [State.handover, Port.handover_cons hr hb ho ha]
  · refine (next_whileRunning hrun _).trans ?_
    rw [State.handover, Port.handover_self idle, s.setPort_self]

/-! ### SET OPTION (R186, Table 9-14) -/

theorem RoundingMode.ofCode?_code (m : RoundingMode) : RoundingMode.ofCode? m.code = some m := by cases m <;> rfl

theorem RoundingMode.ofCode?_eq_none {v : Nat} (h : 2 ≤ v) : RoundingMode.ofCode? v = none := by
  match v, h with
  | v + 2, _ => rfl

theorem Setting.ofCode?_code (setting : Setting) : Setting.ofCode? setting.code = some setting := by cases setting <;> rfl

/-- The clamped settings: the value in force, and the note when it is not the value sent (R186). -/
theorem clampNote_eq {low high : Nat} (v : Nat) (h : low ≤ high) (data : Nat → List Byte) :
    answerWith (notesOf [(decide (clamp low high v ≠ v), .clampedSetting)]) (data (clamp low high v)) =
      if low ≤ v ∧ v ≤ high then .success (data v) else .noted [.clampedSetting] (data (max low (min v high))) := by
  rw [answerWith_note, clamp_eq v h]
  simp only [decide_eq_true_eq, ne_eq, ite_not]
  by_cases within : low ≤ v ∧ v ≤ high
  · have same : max low (min v high) = v := by omega
    rw [if_pos same, if_pos within, same]
  · have other : max low (min v high) ≠ v := by omega
    rw [if_neg other, if_neg within]

/-- A setting with an upper limit alone. -/
theorem capNote_eq (high v : Nat) (data : Nat → List Byte) :
    answerWith (notesOf [(decide (clamp 0 high v ≠ v), .clampedSetting)]) (data (clamp 0 high v)) =
      if v ≤ high then .success (data v) else .noted [.clampedSetting] (data high) := by
  rw [clampNote_eq v (Nat.zero_le high) data]
  by_cases within : v ≤ high
  · rw [if_pos within, if_pos ⟨Nat.zero_le v, within⟩]
  · rw [if_neg within, if_neg fun h => within h.2, Nat.zero_max, min_eq_right (Nat.le_of_not_le within)]

section
variable {s : State} {setting : Setting} {v : Nat}

/-- A value that Table 9-14 refuses. -/
theorem setOption_refused (h : s.settings.write? setting v = none) : setOption ⟨setting.code, v⟩ s = s.refuse .range := by
  rw [setOption, Setting.ofCode?_code]
  dsimp only
  rw [h]

/-- A value that Table 9-14 takes. -/
theorem setOption_written {x : Settings} {w : Nat} (h : s.settings.write? setting v = some (x, w)) :
    setOption ⟨setting.code, v⟩ s = ({ s with settings := x }, some (answerWith
      (notesOf [(decide (w ≠ v), .clampedSetting)]) (numBytes 1 setting.code ++ numBytes 5 w))) := by
  rw [setOption, Setting.ofCode?_code]
  dsimp only
  rw [h]

end

section
variable {k : Packet} {s : State} (h : s.takes k) (hr : (s.port k.port).role = .supervisor)
include h hr

/-- SET OPTION of a supervisor. -/
theorem exec_setOption (setting : Setting) {v : Nat} (hv : v < 256 ^ 5) (hp : k.params = numBytes 1 setting.code ++ numBytes 5 v) :
    exec (.setOption k) s = .next (carriedOut k (setOption ⟨setting.code, v⟩ (s.hunt k.port))) :=
  takeCommand_effect setOption h (decide_eq_true hr) (hp ▸ SetOptionArgs.parse_bytes setting.code v (by cases setting <;> decide) hv)

/-- SET OPTION with a value that Table 9-14 refuses. -/
theorem exec_setOption_refused (setting : Setting) {v : Nat} (hv : v < 256 ^ 5)
    (hp : k.params = numBytes 1 setting.code ++ numBytes 5 v) (refused : s.settings.write? setting v = none) :
    exec (.setOption k) s = .next ((s.hunt k.port).replied k (.stop .range 0)) := by
  rw [exec_setOption h hr setting hv hp, setOption_refused (s := s.hunt k.port) refused, carriedOut_refuse]

/-- SET OPTION with a value that Table 9-14 takes: the setting written, and the note when another value is in force. -/
theorem exec_setOption_written (setting : Setting) {v : Nat} (hv : v < 256 ^ 5)
    (hp : k.params = numBytes 1 setting.code ++ numBytes 5 v) {x : Settings} {w : Nat}
    (written : s.settings.write? setting v = some (x, w)) :
    exec (.setOption k) s = .next (({ s.hunt k.port with settings := x } : State).replied k (answerWith
      (notesOf [(decide (w ≠ v), .clampedSetting)]) (numBytes 1 setting.code ++ numBytes 5 w))) := by
  rw [exec_setOption h hr setting hv hp, setOption_written (s := s.hunt k.port) written, carriedOut_some]

/-! ### CLEAR FAULT and SET HEADER (R158, R200) -/

theorem exec_clearFault (hp : k.params = []) :
    exec (.clearFault k) s = .next (({ s.hunt k.port with storeLost := false } : State).replied k (.success [])) :=
  takeCommand_effect clearFault h (decide_eq_true hr) (by rw [hp]; rfl)

end

theorem printable_eq_true {t : Text} (h : ∀ c ∈ t, 0x20 ≤ c.toNat ∧ c.toNat ≤ 0x7E) : printable t = true :=
  List.all_eq_true.2 fun c hc => by
    obtain ⟨low, high⟩ := h c hc
    rw [printableChar, decide_eq_true low, decide_eq_true high]
    rfl

/-- SET HEADER of a printable text of at most 42 characters (R158). -/
theorem setHeader_eq (i : Fin 4) {text : Text} (hl : text.length ≤ 42) (hc : printable text = true) (s : State) :
    setHeader ⟨i.val + 1, text⟩ s = ({ s with headers := s.headers.set i text } : State).finish [] := by
  rw [setHeader, Nat.add_sub_cancel, indexOf?_val]
  exact if_neg (by simp [hc, hl])

/-- Settles O11: each setting by its row of Table 9-14. -/
theorem settingsWritten : Obligations.SettingsWritten := by
  intro k s h hr
  refine ⟨fun m hp => ?_, fun v hv h2 hp => ?_, fun u hu hp => ?_, fun v hv hp => ?_, fun v hv hp => ?_, fun v hv hp => ?_,
    exec_clearFault h hr, fun i text hl hc hp => ?_⟩
  · have code : m.code < 256 ^ 5 := by cases m <;> decide
    have written : s.settings.write? .roundingMode m.code = some ({ s.settings with roundingMode := m }, m.code) := by
      rw [Settings.write?, RoundingMode.ofCode?_code]; rfl
    rw [exec_setOption_written h hr .roundingMode code hp written, answerWith_note, if_neg (by simp)]
    rfl
  · exact exec_setOption_refused h hr .roundingMode hv hp (by rw [Settings.write?, RoundingMode.ofCode?_eq_none h2]; rfl)
  · split_ifs with unit
    · have written : s.settings.write? .cashUnit u = some ({ s.settings with cashUnit := u }, u) := if_pos (by simpa using unit)
      rw [exec_setOption_written h hr .cashUnit hu hp written, answerWith_note, if_neg (by simp)]
      rfl
    · exact exec_setOption_refused h hr .cashUnit hu hp (if_neg (by simpa using unit))
  · rw [exec_setOption_written h hr .cashLimit hv hp rfl,
      capNote_eq _ v fun w => numBytes 1 Setting.cashLimit.code ++ numBytes 5 w, clamp_eq v (Nat.zero_le _), Nat.zero_max]
    rfl
  · rw [exec_setOption_written h hr .captureTimeout hv hp rfl,
      clampNote_eq v (by decide) fun w => numBytes 1 Setting.captureTimeout.code ++ numBytes 5 w, clamp_eq v (by decide)]
    rfl
  · rw [exec_setOption_written h hr .tareExpiry hv hp rfl,
      clampNote_eq v (by decide) fun w => numBytes 1 Setting.tareExpiry.code ++ numBytes 5 w, clamp_eq v (by decide)]
    rfl
  · have parse : SetHeaderArgs.parse k.params = some ⟨i.val + 1, text⟩ := by
      rw [hp]
      exact SetHeaderArgs.parse_bytes _ text (by omega) (hl.trans (by decide))
    have taken : exec (.setHeader k) s = _ := takeCommand_effect setHeader h (decide_eq_true hr) parse
    rw [taken, setHeader_eq i hl (printable_eq_true hc), carriedOut_finish]
    rfl

end Sys2Proof.Machine
end

section
/-! The commands that only read (R15, R55, R56, R64, R82, R118, R159, R166, R187): what each answers with, at the port that has sent it. -/

namespace Sys2Proof.Machine

/-! ### A command that answers DONE and changes nothing -/

/-- A command taken whose effect is an answer alone. -/
theorem takeCommand_reads {α : Type} {allowed : Role → Bool} {parse : List Byte → Option α} {run : α → State → Effect} {k : Packet}
    {s : State} {a : α} {data : List Byte} (h : s.takes k) (hr : allowed (s.port k.port).role = true) (hp : parse k.params = some a)
    (reads : run a (s.hunt k.port) = (s.hunt k.port).finish data) :
    takeCommand false allowed parse run k s = .next ((s.hunt k.port).replied k (.success data)) :=
  takeCommand_answered false allowed parse run k s h a hp hr _ _ reads

theorem parseOne_index {n : Nat} (hn : n ≤ 256) {k : Packet} {i : Fin n} (hp : k.params = numBytes 1 i.val) :
    parseOne k.params = some i.val :=
  hp ▸ parseOne_bytes i.val (by omega)

/-! ### The data of each command, read by its effect -/

/-- The receiver is no part of a port's status (R187). -/
theorem State.hunt_portStatus (s : State) (p : PortId) :
    (s.hunt p).ports.toList.flatMap portStatus = s.ports.toList.flatMap portStatus := by
  rw [List.flatMap_def, List.flatMap_def]
  refine congrArg List.flatten (List.ext_getElem (by simp) fun i h1 h2 => ?_)
  simp only [State.hunt_ports, List.getElem_map, Vector.getElem_toList, Vector.getElem_set]
  split_ifs with e
  · subst e; rfl
  · rfl

theorem State.hunt_statusData (s : State) (p : PortId) : (s.hunt p).statusData p = s.statusData p := by
  unfold State.statusData
  rw [State.hunt_portStatus, State.hunt_port_attention, State.hunt_port_overflow]
  rfl

theorem readScale_eq (c : ChannelId) (s : State) : readScale c.val s = s.finish (scaleData (s.channel c)) := by
  rw [readScale, indexOf?_val]

theorem readPrinter_eq (r : PrinterId) (s : State) : readPrinter r.val s = s.finish (s.printerData r) := by
  rw [readPrinter, indexOf?_val]

section
variable {s : State} {n : Nat} {t : Ticket} (hn : ticketNumberOk n = true) (ht : s.ticket? n = some t)
include hn ht

theorem readTicket_own : readTicket ⟨n, 0⟩ s = s.finish (ticketBytes t) :=
  s.withTicket_eq _ n _ _ t hn rfl ht rfl

theorem readTicket_line {i : Nat} {ln : Line} (hi : i < 8) (hl : t.lines[i]? = some ln) :
    readTicket ⟨n, i + 1⟩ s = s.finish (lineBytes (i + 1) ln) := by
  have line : t.line? (i + 1) = some ln := hl
  refine (s.withTicket_eq _ n _ _ t hn (decide_eq_true hi) ht rfl).trans ?_
  rw [if_neg (Nat.succ_ne_zero i), line]

end

theorem listTickets_eq {place : Nat} (h : place ≤ 47) (s : State) : listTickets place s =
    s.finish (((s.tickets.drop place).take 12).flatMap listEntryBytes ++ numBytes 1 s.tickets.length) :=
  if_neg (Nat.not_lt.2 h)

theorem allowed_readTare {r : Role} (h : r ∈ permitted 23) : supervisorOrScalehouse r = true :=
  (supervisorOrScalehouse_iff r).2 h

theorem readTare_plate {plate : Text} (place : Nat) {s : State} {e : TareEntry} (hne : plate ≠ []) (hok : plateOk plate = true)
    (he : s.tareEntry? (upperCase plate) = some e) : readTare ⟨plate, place⟩ s = s.finish (s.tareBytes e) := by
  rw [readTare, if_neg (by rw [hok]; exact Bool.noConfusion), if_neg hne, he]

theorem readTare_list {place : Nat} (h : place ≤ 63) (s : State) : readTare ⟨[], place⟩ s =
    s.finish (((s.tares.drop place).take 8).flatMap s.tareBytes ++ numBytes 1 s.tares.length) :=
  (if_neg (by decide : ¬plateOk [] = false)).trans ((if_pos rfl).trans (if_neg (Nat.not_lt.2 h)))

theorem readRule_eq (name : BankName) {first : Nat} (hf : BankName.ofCode? first = some name) (i : Fin 32) {s : State} {b : Bank}
    (hb : s.bank? name = some b) :
    readRule ⟨first, i.val⟩ s = s.finish (ruleBytes b[i] ++ numBytes 2 s.generation ++ yesNoBytes s.edit.isSome) := by
  rw [readRule, hf, indexOf?_val]
  dsimp only
  rw [hb]

theorem readDrawer_eq {port p : PortId} {s : State} {d : Drawer} (own : (s.port port).role = .payout → p = port)
    (hd : (s.port p).drawer = some d) : readDrawer port p.val s =
      s.finish (numBytes 5 d.balance ++ numBytes 5 d.paidToday ++ numBytes 5 s.settings.cashUnit ++ numBytes 5 s.settings.cashLimit) := by
  rw [readDrawer, indexOf?_val]
  dsimp only
  rw [if_neg fun h => h.2 (own h.1), hd]

section
variable {part : Nat} (h : part ≤ 4) {s : State}
include h

theorem readTotals_live : readTotals ⟨0, part⟩ s = s.finish (s.livePart part) :=
  if_neg (Nat.not_lt.2 h)

theorem readTotals_report {rep : DayReport} (hrep : s.report = some rep) :
    readTotals ⟨1, part⟩ s = s.finish (reportPart rep part) := by
  refine (if_neg (Nat.not_lt.2 h)).trans ?_
  dsimp only
  rw [hrep]

end

/-- Settles O8: each command's parameters are read back, its port's role is permitted, and its effect is an answer alone. -/
theorem readsChangeNothing : Obligations.ReadsChangeNothing := by
  intro k s h
  refine ⟨fun hp => ?_, fun c hp => ?_, fun r hp => ?_, fun n t h1 h2 ht hp => ?_, fun n i t ln h1 h2 hi ht hl hp => ?_,
    fun place hplace hp => ?_, fun plate place e hr hne hok hplace he hp => ?_, fun place hr hplace hp => ?_, fun i hp => ?_,
    fun i b hb hp => ?_, fun p d hr hd hp => ?_, fun part hr hpart hp => ?_, fun part rep hr hpart hrep hp => ?_⟩
  · exact takeCommand_reads (run := readStatus k.port) (a := ()) h rfl (by rw [hp]; rfl)
      (congrArg (State.finish _) (s.hunt_statusData k.port))
  · exact takeCommand_reads h rfl (parseOne_index (by decide) hp) (readScale_eq c _)
  · exact takeCommand_reads h rfl (parseOne_index (by decide) hp) (readPrinter_eq r _)
  · have number := (ticketNumberOk_iff n).2 ⟨h1, h2⟩
    exact takeCommand_reads h rfl (hp ▸ TicketByteArgs.parse_bytes n 0 (ticketNumberOk_fits number) (by decide))
      (readTicket_own (s := s.hunt k.port) number ht)
  · have number := (ticketNumberOk_iff n).2 ⟨h1, h2⟩
    exact takeCommand_reads h rfl (hp ▸ TicketByteArgs.parse_bytes n (i + 1) (ticketNumberOk_fits number) (by omega))
      (readTicket_line (s := s.hunt k.port) number ht hi hl)
  · exact takeCommand_reads h rfl (hp ▸ parseOne_bytes place (by omega)) (listTickets_eq hplace _)
  · exact takeCommand_reads h (allowed_readTare hr)
      (hp ▸ PlateByteArgs.parse_bytes plate place ((length_le_of_plateOk hok).trans (by decide)) (by omega))
      (readTare_plate (s := s.hunt k.port) place hne hok he)
  · exact takeCommand_reads h (allowed_readTare hr)
      (hp ▸ PlateByteArgs.parse_bytes [] place (by decide) (by omega)) (readTare_list hplace _)
  · exact takeCommand_reads h rfl (hp ▸ TwoByteArgs.parse_bytes 0 i.val (by decide) (by omega))
      (readRule_eq (s := s.hunt k.port) .active rfl i rfl)
  · refine (takeCommand_reads h rfl (hp ▸ TwoByteArgs.parse_bytes 1 i.val (by decide) (by omega))
      (readRule_eq (s := s.hunt k.port) .pending rfl i hb)).trans ?_
    rw [State.hunt_edit, hb]
    rfl
  · have own : ((s.hunt k.port).port k.port).role = .payout → p = k.port := fun e => by
      rw [State.hunt_port_role] at e
      rcases hr with hr | ⟨-, hr⟩
      · rw [hr] at e; cases e
      · exact hr
    have allowed : supervisorOrPayout (s.port k.port).role = true := by
      rcases hr with hr | ⟨hr, -⟩ <;> rw [hr] <;> rfl
    exact takeCommand_reads h allowed (parseOne_index (by decide) hp) (readDrawer_eq own (by rw [State.hunt_port_drawer, hd]))
  · exact takeCommand_reads h (decide_eq_true hr) (hp ▸ TwoByteArgs.parse_bytes 0 part (by decide) (by omega)) (readTotals_live hpart)
  · exact takeCommand_reads h (decide_eq_true hr) (hp ▸ TwoByteArgs.parse_bytes 1 part (by decide) (by omega))
      (readTotals_report hpart hrep)

end Sys2Proof.Machine
end

section
/-! PORT RESET (R23, R28, R153, R181): the one capture of the port abandoned, its locks released, and its own items cleared. -/

namespace Sys2Proof.Machine

/-! ### The locks of a port released (R153) -/

/-- The PRINTER events of the locks that a port holds, PR0's before PR1's (R153; the order is log 9). -/
def State.unlockEvents (s : State) (p : PortId) : List Event :=
  ((List.finRange 2).filter fun r => decide ((s.printer r).lock.holder? = some p)).map fun r => .printer r (s.printer r).status .none

theorem State.tellUnlocked_eq_foldl (s : State) (p : PortId) : s.tellUnlocked p = (s.unlockEvents p).foldl State.raise s := by
  rw [State.unlockEvents, List.foldl_map, List.foldl_filter]
  simp only [decide_eq_true_eq]
  rfl

/-- Events told change the attention queues and the overflow flags alone. -/
theorem State.poolStep_foldl_raise (s : State) (es : List Event) : s.PoolStep (es.foldl State.raise s) := by
  induction es generalizing s with
  | nil => exact .refl s
  | cons e es ih => exact (s.poolStep_raise e).trans (ih _)

/-- A port after the events of released locks. -/
theorem State.port_tellUnlocked (s : State) (p q : PortId) : (s.tellUnlocked p).port q =
    { s.port q with attention := ((s.tellUnlocked p).port q).attention, overflow := ((s.tellUnlocked p).port q).overflow } := by
  rw [State.tellUnlocked_eq_foldl]
  exact (s.poolStep_foldl_raise _).2 q

/-- Released locks change the printers and the ports alone. -/
theorem State.releaseLocks_eq (s : State) (p : PortId) :
    s.releaseLocks p = { s with ports := (s.releaseLocks p).ports, printers := (s.releaseLocks p).printers } := by
  have frame := (s.poolStep_releaseLocks p).1
  rwa [s.releaseLocks_jobs] at frame

section
variable {s u : State} (hears : s.HearsAlike u) (printers : u.printers = s.printers) (p : PortId)
include printers

theorem State.printer_releaseLocks (r : PrinterId) : (u.releaseLocks p).printer r =
    if (s.printer r).lock.holder? = some p then { s.printer r with lock := .none } else s.printer r := by
  have same : u.printer r = s.printer r := by rw [State.printer, printers]; rfl
  rw [(u.releaseLocks_spec p).2 r, same]

include hears

/-- Two states of the same printers that hear alike hear alike after a port's locks are released. -/
theorem State.hearsAlike_tellUnlocked : (s.tellUnlocked p).HearsAlike (u.tellUnlocked p) := by
  have events : u.unlockEvents p = s.unlockEvents p := by
    unfold State.unlockEvents State.printer
    rw [printers]
  rw [State.tellUnlocked_eq_foldl, State.tellUnlocked_eq_foldl, events]
  exact hears.foldl_raise _

/-- A port after the locks of one have been released by a state that hears as another does. -/
theorem State.port_releaseLocks (q : PortId) : (u.releaseLocks p).port q =
    { u.port q with attention := ((s.tellUnlocked p).port q).attention, overflow := ((s.tellUnlocked p).port q).overflow } := by
  have told : (u.releaseLocks p).port q = (u.tellUnlocked p).port q := by
    rw [State.port, (u.releaseLocks_spec p).1]; rfl
  obtain ⟨-, attention, overflow⟩ := (State.hearsAlike_tellUnlocked hears printers p).2 q
  rw [told, State.port_tellUnlocked, attention, overflow]

/-- A port that has not changed hears the events of the released locks and nothing else. -/
theorem State.port_releaseLocks_same {q : PortId} (same : u.port q = s.port q) : (u.releaseLocks p).port q = (s.tellUnlocked p).port q := by
  rw [State.port_releaseLocks hears printers, same, ← State.port_tellUnlocked]

end

theorem State.hearsAlike_hunt (s : State) (p : PortId) : s.HearsAlike (s.hunt p) :=
  ⟨rfl, fun q => ⟨s.hunt_port_subscription p q, s.hunt_port_attention p q, s.hunt_port_overflow p q⟩⟩

/-! ### The capture of a port abandoned (R23, R181) -/

/-- An abandoned capture changes the channels, the ports and the ticket table alone. -/
theorem State.abandonCapture_eq (s : State) (p : PortId) : s.abandonCapture p = { s with
    channels := (s.abandonCapture p).channels, ports := (s.abandonCapture p).ports, tickets := (s.abandonCapture p).tickets } :=
  State.endCaptures_induct (fun u => u = { s with channels := u.channels, ports := u.ports, tickets := u.tickets }) s _ _ rfl
    fun u c cap hu _ _ => by rw [State.freeSlot_eq, hu]

theorem State.abandonCapture_printers (s : State) (p : PortId) : (s.abandonCapture p).printers = s.printers := by
  rw [State.abandonCapture_eq]

theorem State.channel_abandonCapture (s : State) (p : PortId) (c : ChannelId) : (s.abandonCapture p).channel c =
    if ∃ cap, (s.channel c).slot = some cap ∧ cap.port = p then { s.channel c with slot := none } else s.channel c := by
  refine (s.channel_endCaptures _ _ State.channel_freeSlot c).trans (if_congr ?_ rfl rfl)
  rw [Option.any_eq_true]
  simp only [decide_eq_true_eq]

theorem State.hearsAlike_abandonCapture (s : State) (p : PortId) : s.HearsAlike (s.abandonCapture p) :=
  State.endCaptures_induct (fun u => s.HearsAlike u) s _ _ (.refl s) fun u c _ hu _ _ => hu.trans (u.hearsAlike_freeSlot c)

/-- Abandoning a port's capture changes no other port, and of its own port the command in progress alone. -/
theorem State.port_abandonCapture (s : State) (p q : PortId) :
    (s.abandonCapture p).port q = if q = p then { s.port p with busy := ((s.abandonCapture p).port p).busy } else s.port q := by
  refine State.endCaptures_induct (fun u => u.port q = if q = p then { s.port p with busy := (u.port p).busy } else s.port q) s _ _ ?_
    fun u c cap hu hc hw => ?_
  · split_ifs with e
    · rw [e]
    · rfl
  · have port : cap.port = p := of_decide_eq_true hw
    rw [State.port_freeSlot hc, State.port_freeSlot hc, port, if_pos rfl, hu]
    split_ifs <;> rfl

section
variable {s : State} {p : PortId}

/-- A port without a waiting capture has nothing to abandon. -/
theorem State.abandonCapture_none (h : ∀ c cap, (s.channel c).slot = some cap → cap.port ≠ p) : s.abandonCapture p = s :=
  State.endCaptures_induct (fun u => u = s) s _ _ rfl fun u c cap hu hc hw => by
    rw [hu] at hc
    exact absurd (of_decide_eq_true hw) (h c cap hc)

/-- The one waiting capture of a port abandoned is its slot freed. -/
theorem State.abandonCapture_some {c : ChannelId} {cap : Capture} (hc : (s.channel c).slot = some cap) (hp : cap.port = p)
    (one : ∀ c d a b, (s.channel c).slot = some a → (s.channel d).slot = some b → a.port = b.port → c = d) :
    s.abandonCapture p = s.freeSlot c := by
  have ended : s.abandonCapture p = s ∨ s.abandonCapture p = s.freeSlot c := by
    refine State.endCaptures_induct (fun u => u = s ∨ u = s.freeSlot c) s _ _ (.inl rfl) fun u d x hu hd hw => ?_
    have port : x.port = cap.port := (of_decide_eq_true hw).trans hp.symm
    rcases hu with rfl | rfl
    · rw [one d c x cap hd hc port]
      exact .inr rfl
    · rw [State.channel_freeSlot] at hd
      split_ifs at hd with e
      exact absurd (one d c x cap hd hc port) e
  refine ended.resolve_left fun same => ?_
  have freed := s.channel_abandonCapture p c
  rw [if_pos ⟨cap, hc, hp⟩, same] at freed
  rw [freed] at hc
  cases hc

/-- A port's capture, of which there is at most one, abandoned. -/
theorem State.abandonCapture_cases
    (one : ∀ c d a b, (s.channel c).slot = some a → (s.channel d).slot = some b → a.port = b.port → c = d) :
    (∃ c cap, (s.channel c).slot = some cap ∧ cap.port = p ∧ s.abandonCapture p = s.freeSlot c) ∨ s.abandonCapture p = s := by
  by_cases waits : ∃ c cap, (s.channel c).slot = some cap ∧ cap.port = p
  · obtain ⟨c, cap, hc, hp⟩ := waits
    exact .inl ⟨c, cap, hc, hp, State.abandonCapture_some hc hp one⟩
  · exact .inr (State.abandonCapture_none fun c cap hc hp => waits ⟨c, cap, hc, hp⟩)

/-- An abandoned capture keeps the tickets but for their marks. -/
theorem State.abandonCapture_unmarked (hn : (s.tickets.map Ticket.number).Nodup) :
    (s.abandonCapture p).tickets.map Ticket.unmarked = s.tickets.map Ticket.unmarked := by
  refine (State.endCaptures_induct (fun u => u.tickets.map Ticket.unmarked = s.tickets.map Ticket.unmarked ∧
    u.tickets.map Ticket.number = s.tickets.map Ticket.number) s _ _ ⟨rfl, rfl⟩ fun u c cap ⟨unmarked, numbers⟩ _ _ => ?_).1
  have freed := u.freeSlot_unmarked c (by rw [numbers]; exact hn)
  exact ⟨freed.1.trans unmarked, freed.2.trans numbers⟩

end

/-! ### The command -/

/-- PORT RESET is taken whether or not a command is in progress (Table 9-10). -/
theorem exec_portReset {k : Packet} {s : State} (h : s.looksAt k) (hp : k.params = []) :
    exec (.portReset k) s = .next (((s.hunt k.port).portReset k.port).replied k (.success [])) := by
  refine (takeCommand_looksAt true anyRole parseNone (portReset k.port) k s h).trans ?_
  rw [State.passPacket, Bool.not_true, Bool.and_false, hp]
  rfl

section
variable (s : State) (p : PortId)

/-- The port of a PORT RESET: its items cleared, and no frame of its output queue lost (R181). -/
theorem State.port_portReset_own : ((s.hunt p).portReset p).port p = { (s.port p).cleared with receiver := .hunting } := by
  rw [State.portReset, State.port_setPort, if_pos rfl,
    State.port_releaseLocks (.refl ((s.hunt p).abandonCapture p)) rfl, State.port_abandonCapture, if_pos rfl, State.port_hunt, if_pos rfl]
  rfl

/-- The other ports hear the released locks of a PORT RESET (R153, R181). -/
theorem State.port_portReset_other {q : PortId} (h : q ≠ p) : ((s.hunt p).portReset p).port q = (s.tellUnlocked p).port q := by
  have hears : s.HearsAlike ((s.hunt p).abandonCapture p) := (s.hearsAlike_hunt p).trans (State.hearsAlike_abandonCapture _ p)
  have printers : ((s.hunt p).abandonCapture p).printers = s.printers := State.abandonCapture_printers _ p
  have same : ((s.hunt p).abandonCapture p).port q = s.port q := by
    rw [State.port_abandonCapture, if_neg h, State.port_hunt, if_neg (Ne.symm h)]
  rw [State.portReset, State.port_setPort, if_neg (Ne.symm h), State.port_releaseLocks_same hears printers p same]

theorem State.channel_portReset (c : ChannelId) : (s.portReset p).channel c = (s.abandonCapture p).channel c := by
  have same := ((s.abandonCapture p).poolStep_releaseLocks p).channels
  rw [State.portReset, State.channel_setPort, State.channel, same]
  rfl

theorem State.printer_portReset (r : PrinterId) : (s.portReset p).printer r =
    if (s.printer r).lock.holder? = some p then { s.printer r with lock := .none } else s.printer r := by
  rw [State.portReset, State.printer_setPort, State.printer_releaseLocks (s.abandonCapture_printers p)]

theorem State.portReset_tickets : (s.portReset p).tickets = (s.abandonCapture p).tickets := by
  rw [State.portReset, State.setPort_tickets, ((s.abandonCapture p).poolStep_releaseLocks p).tickets]

/-- PORT RESET changes the ports, the channels, the printers and the ticket table alone (R181). -/
theorem State.portReset_eq : s.portReset p = { s with
    ports := (s.portReset p).ports, channels := (s.portReset p).channels
    printers := (s.portReset p).printers, tickets := (s.portReset p).tickets } := by
  have released := (s.abandonCapture p).releaseLocks_eq p
  have abandoned := s.abandonCapture_eq p
  unfold State.portReset
  generalize s.abandonCapture p = u at released abandoned ⊢
  generalize u.releaseLocks p = v at released ⊢
  rw [released, abandoned]
  rfl

end

/-- Settles O9: the captures belong to different ports, so the part's own slot, and the mark it holds, is the one freed. -/
theorem portResetClears : Obligations.PortResetClears := by
  intro k s h captures distinct hp
  have one : ∀ c d a b, ((s.hunt k.port).channel c).slot = some a → ((s.hunt k.port).channel d).slot = some b →
      a.port = b.port → c = d := captures.2.1
  have tickets : (((s.hunt k.port).portReset k.port).replied k (.success [])).tickets =
      ((s.hunt k.port).abandonCapture k.port).tickets := by
    rw [State.reply_tickets, State.portReset_tickets]
  have other : ∀ q, q ≠ k.port →
      (((s.hunt k.port).portReset k.port).replied k (.success [])).port q = (s.tellUnlocked k.port).port q := fun q hq => by
    rw [State.port_reply, if_neg (Ne.symm hq), State.port_portReset_other s k.port hq]
  refine ⟨_, exec_portReset h hp, ?_, fun c => ?_, fun r => ?_, other, fun q hq => ?_, ?_,
    fun c cap n l role grade tk hc hport ho ht => ?_, fun hnone => ?_, ?_⟩
  · rw [State.port_reply, if_pos rfl, State.port_portReset_own]
    rfl
  · rw [State.channel_reply, State.channel_portReset, State.channel_abandonCapture, State.channel_hunt]
  · rw [State.printer_reply, State.printer_portReset, State.printer_hunt]
  · rw [other q hq]
    exact s.port_tellUnlocked k.port q
  · have frame := (s.hunt k.port).portReset_eq k.port
    generalize (s.hunt k.port).portReset k.port = t at frame ⊢
    rw [frame]
    rfl
  · have freed := State.abandonCapture_some (s := s.hunt k.port) hc hport one
    have found := State.ticket?_freeSlot (s := s.hunt k.port) hc ho ht
    simp only [State.ticket?_congr tickets, freed]
    exact ⟨(found n).trans (if_pos rfl), fun m hm => (found m).trans (if_neg hm)⟩
  · rw [tickets]
    rcases State.abandonCapture_cases (p := k.port) one with ⟨c, cap, hc, hport, freed⟩ | same
    · rw [freed, State.freeSlot_some hc]
      cases ho : cap.owner with
      | tare plate => rfl
      | line n l role grade => exact absurd ho (hnone c cap n l role grade hc hport)
    · rw [same, State.hunt_tickets]
  · rw [tickets]
    exact State.abandonCapture_unmarked (s := s.hunt k.port) distinct

end Sys2Proof.Machine
end

section
/-! CONFIGURE PORT (R115, R153, R184, R185): its checks in order, the role and the printer written, and a handover of the role
SUPERVISOR. -/

namespace Sys2Proof.Machine

/-! ### The range check (R184, check 1) -/

theorem Role.ofCode?_code (role : Role) : Role.ofCode? role.code = some role := by cases role <;> rfl

theorem Role.ofCode?_eq_none {v : Nat} (h : 3 < v) : Role.ofCode? v = none := by
  match v, h with
  | v + 4, _ => rfl

/-- A former role of 1 to 3 is that role, and 4 is NONE. -/
theorem formerRole?_eq {v : Nat} (h0 : v ≠ 0) (h4 : v ≤ 4) :
    ∃ former, formerRole? v = some former ∧ (v = 4 → former = none) ∧
      (v ≠ 4 → ∃ role : Role, former = some role ∧ role.code = v) := by
  match v, h0, h4 with
  | 1, _, _ => exact ⟨some .scalehouse, rfl, nofun, fun _ => ⟨.scalehouse, rfl, rfl⟩⟩
  | 2, _, _ => exact ⟨some .yard, rfl, nofun, fun _ => ⟨.yard, rfl, rfl⟩⟩
  | 3, _, _ => exact ⟨some .payout, rfl, nofun, fun _ => ⟨.payout, rfl, rfl⟩⟩
  | 4, _, _ => exact ⟨none, rfl, fun _ => rfl, fun e => absurd rfl e⟩

theorem formerRole?_eq_none {v : Nat} (h : v = 0 ∨ 4 < v) : formerRole? v = none := by
  match v, h with
  | 0, _ => rfl
  | v + 5, _ => rfl

/-- A byte outside its set makes the configuration none (R184, check 1). -/
theorem ConfigurePortArgs.change?_eq_none {a : ConfigurePortArgs}
    (h : 3 < a.port ∨ 3 < a.role ∨ 1 < a.printer ∨ a.former = 0 ∨ 4 < a.former) : a.change? = none := by
  unfold ConfigurePortArgs.change?
  split
  · rename_i hp hrole hr hformer
    rcases h with h | h | h | h
    · rw [indexOf?_eq_none h] at hp; cases hp
    · rw [Role.ofCode?_eq_none h] at hrole; cases hrole
    · rw [indexOf?_eq_none h] at hr; cases hr
    · rw [formerRole?_eq_none h] at hformer; cases hformer
  · rfl

theorem ConfigurePortArgs.change?_eq_some (p : PortId) (role : Role) (r : PrinterId) {v : Nat} {former : Option Role}
    (h : formerRole? v = some former) : ConfigurePortArgs.change? ⟨p.val, role.code, r.val, v⟩ = some ⟨p, role, r, former⟩ := by
  rw [ConfigurePortArgs.change?, indexOf?_val, Role.ofCode?_code, indexOf?_val, h]

/-! ### Checks 2 to 4 (R184) -/

theorem Port.drawerFull_iff (q : Port) : q.drawerFull = true ↔ q.role = .payout ∧ ∃ d, q.drawer = some d ∧ 0 < d.balance := by
  rw [Port.drawerFull, Bool.and_eq_true, decide_eq_true_eq, Option.any_eq_true]
  simp only [decide_eq_true_eq]

theorem Port.drawerFull_hunt (s : State) (p q : PortId) : ((s.hunt p).port q).drawerFull = (s.port q).drawerFull := by
  rw [Port.drawerFull, Port.drawerFull, State.hunt_port_role, State.hunt_port_drawer]

section
variable {s : State} {requester : PortId} {x : PortChange}

theorem State.configureCheck_own (hp : x.port = requester) (hr : x.role ≠ .supervisor) :
    s.configureCheck requester x = some .supervisorExists :=
  if_pos ⟨hp, hr⟩

theorem State.configureCheck_taken (hp : x.port ≠ requester) (hr : x.role = .supervisor) (hf : x.former = none) :
    s.configureCheck requester x = some .supervisorExists :=
  (if_neg fun h => hp h.1).trans (if_pos ⟨hp, hr, by rw [hf]; rfl⟩)

section
variable (own : x.port = requester → x.role = .supervisor) (other : x.port ≠ requester → x.role = .supervisor → x.former ≠ none)
include own other

/-- A configuration that leaves one SUPERVISOR is decided by the named port's drawer (R184, check 4). -/
theorem State.configureCheck_drawer : s.configureCheck requester x =
    if (s.port x.port).drawerFull = true ∧ x.role ≠ .payout then some .drawerNotEmpty else none :=
  (if_neg fun h => h.2 (own h.1)).trans (if_neg fun h => other h.1 h.2.1 (Option.isNone_iff_eq_none.1 h.2.2))

theorem State.configureCheck_full (hd : (s.port x.port).drawerFull = true) (hr : x.role ≠ .payout) :
    s.configureCheck requester x = some .drawerNotEmpty := by
  rw [State.configureCheck_drawer own other, if_pos ⟨hd, hr⟩]

theorem State.configureCheck_passes
    (hd : (s.port x.port).role = .payout → x.role ≠ .payout → ∀ d, (s.port x.port).drawer = some d → d.balance = 0) :
    s.configureCheck requester x = none := by
  rw [State.configureCheck_drawer own other, if_neg]
  rintro ⟨full, hr⟩
  obtain ⟨role, d, drawer, pos⟩ := (Port.drawerFull_iff _).1 full
  rw [hd role hr d drawer] at pos
  exact absurd pos (Nat.lt_irrefl 0)

end
end

/-! ### The changes (R115, R185) -/

/-- The named port with its role, its printer and the drawer of its role. -/
def State.named (s : State) (x : PortChange) : State :=
  s.setPort x.port { (s.port x.port).withRole x.role with defaultPrinter := x.printer }

section
variable {s : State} {requester : PortId} {x : PortChange}

/-- Without a handover the named port alone is written. -/
theorem State.configurePort_named (h : ¬(x.port ≠ requester ∧ x.role = .supervisor)) : s.configurePort requester x = s.named x := by
  unfold State.configurePort
  cases x.former with
  | none => rfl
  | some former => exact if_neg h

/-- In a handover the requesting port takes the former role, and its locks are released. -/
theorem State.configurePort_handover {former : Role} (hp : x.port ≠ requester) (hr : x.role = .supervisor) (hf : x.former = some former) :
    s.configurePort requester x =
      ((s.named x).setPort requester ((s.port requester).withRole former)).releaseLocks requester := by
  have apart : (s.named x).port requester = s.port requester := by rw [State.named, State.port_setPort, if_neg hp]
  rw [← apart]
  unfold State.configurePort
  rw [hf]
  exact if_pos ⟨hp, hr⟩

end

section
variable {k : Packet} {s : State} (h : s.takes k) (hr : (s.port k.port).role = .supervisor)
include h hr

theorem exec_configurePort {p role r former : Nat} (h1 : p < 256) (h2 : role < 256) (h3 : r < 256) (h4 : former < 256)
    (hp : k.params = numBytes 1 p ++ numBytes 1 role ++ numBytes 1 r ++ numBytes 1 former) :
    exec (.configurePort k) s = .next (carriedOut k (configurePort k.port ⟨p, role, r, former⟩ (s.hunt k.port))) :=
  takeCommand_effect (configurePort k.port) h (decide_eq_true hr) (hp ▸ ConfigurePortArgs.parse_bytes p role r former h1 h2 h3 h4)

/-- CONFIGURE PORT with its four bytes in range: refused by the first of checks 2 to 4 that fails, or carried out (R184). -/
theorem exec_configurePort_inRange {p : PortId} {role : Role} {r : PrinterId} {v : Nat} {former : Option Role}
    (hf : formerRole? v = some former) (hv : v ≤ 4)
    (hp : k.params = numBytes 1 p.val ++ numBytes 1 role.code ++ numBytes 1 r.val ++ numBytes 1 v) :
    exec (.configurePort k) s = .next (((s.hunt k.port).configureCheck k.port ⟨p, role, r, former⟩).elim
      (((s.hunt k.port).configurePort k.port ⟨p, role, r, former⟩).replied k (.success []))
      fun reason => (s.hunt k.port).replied k (.stop reason 0)) := by
  rw [exec_configurePort h hr (by omega) (by cases role <;> decide) (by omega) (by omega) hp, configurePort,
    ConfigurePortArgs.change?_eq_some p role r hf]
  dsimp only
  cases (s.hunt k.port).configureCheck k.port ⟨p, role, r, former⟩ <;> rfl

end

/-- The part after a handover and before the release of the requesting port's locks. -/
def State.handedOver (s : State) (requester : PortId) (x : PortChange) (former : Role) : State :=
  (s.named x).setPort requester ((s.port requester).withRole former)

section
variable {s : State} {requester : PortId} {x : PortChange} {former : Role}

theorem State.port_handedOver (q : PortId) : (s.handedOver requester x former).port q =
    if q = requester then (s.port requester).withRole former
    else if q = x.port then { (s.port x.port).withRole x.role with defaultPrinter := x.printer } else s.port q := by
  rw [State.handedOver, State.named, State.port_setPort, State.port_setPort]
  simp only [eq_comm (b := q)]

/-- A handover touches no attention queue before the locks are released. -/
theorem State.hearsAlike_handedOver : s.HearsAlike (s.handedOver requester x former) := by
  refine ⟨rfl, fun q => ?_⟩
  rw [State.port_handedOver]
  split_ifs with e1 e2
  · subst e1; exact ⟨rfl, rfl, rfl⟩
  · subst e2; exact ⟨rfl, rfl, rfl⟩
  · exact ⟨rfl, rfl, rfl⟩

end

/-- A SUPERVISOR port that takes another role has a drawer of 0 and 0 with PAYOUT, and none otherwise (R115). -/
theorem Port.drawerFor_supervisor {q : Port} (h : q.role = .supervisor) (role : Role) :
    q.drawerFor role = if role.code = 3 then some { balance := 0, paidToday := 0 } else none := by
  unfold Port.drawerFor
  rw [h]
  cases role <;> rfl

section
variable {s : State} {requester p : PortId} {r : PrinterId} {former : Role}

/-- The part after a handover taken by a port whose frame has just ended. -/
def State.afterHandover (s : State) (requester p : PortId) (r : PrinterId) (former : Role) : State :=
  ((s.hunt requester).handedOver requester ⟨p, .supervisor, r, some former⟩ former).releaseLocks requester

theorem State.port_afterHandover (q : PortId) : (s.afterHandover requester p r former).port q =
    { ((s.hunt requester).handedOver requester ⟨p, .supervisor, r, some former⟩ former).port q with
      attention := ((s.tellUnlocked requester).port q).attention, overflow := ((s.tellUnlocked requester).port q).overflow } :=
  State.port_releaseLocks ((s.hearsAlike_hunt requester).trans State.hearsAlike_handedOver) rfl requester q

/-- The new SUPERVISOR (R185). -/
theorem State.port_afterHandover_named (hp : p ≠ requester) : (s.afterHandover requester p r former).port p =
    { (s.tellUnlocked requester).port p with role := .supervisor, defaultPrinter := r, drawer := none } := by
  rw [State.port_afterHandover, State.port_handedOver, if_neg hp, if_pos rfl, State.port_hunt, if_neg (Ne.symm hp),
    s.port_tellUnlocked requester p]
  rfl

/-- The former SUPERVISOR (R115, R185). -/
theorem State.port_afterHandover_requester (hr : (s.port requester).role = .supervisor) :
    (s.afterHandover requester p r former).port requester =
    { (s.tellUnlocked requester).port requester with
      receiver := .hunting, role := former
      drawer := if former.code = 3 then some { balance := 0, paidToday := 0 } else none } := by
  rw [State.port_afterHandover, State.port_handedOver, if_pos rfl, Port.withRole,
    Port.drawerFor_supervisor (by rw [State.hunt_port_role, hr]), State.port_hunt, if_pos rfl, s.port_tellUnlocked requester requester]

theorem State.port_afterHandover_other {q : PortId} (h1 : q ≠ p) (h2 : q ≠ requester) :
    (s.afterHandover requester p r former).port q = (s.tellUnlocked requester).port q := by
  rw [State.port_afterHandover, State.port_handedOver, if_neg h2, if_neg h1, State.port_hunt, if_neg (Ne.symm h2),
    ← s.port_tellUnlocked requester q]

theorem State.printer_afterHandover (v : PrinterId) : (s.afterHandover requester p r former).printer v =
    if (s.printer v).lock.holder? = some requester then { s.printer v with lock := .none } else s.printer v :=
  State.printer_releaseLocks rfl requester v

/-- A handover changes the ports and the printers alone. -/
theorem State.afterHandover_eq : s.afterHandover requester p r former = { s with
    ports := (s.afterHandover requester p r former).ports, printers := (s.afterHandover requester p r former).printers } :=
  State.releaseLocks_eq _ requester

theorem State.tellUnlocked_defaultPrinter (s : State) (p q : PortId) :
    ((s.tellUnlocked p).port q).defaultPrinter = (s.port q).defaultPrinter := by
  rw [State.port_tellUnlocked]

theorem State.tellUnlocked_out (s : State) (p q : PortId) : ((s.tellUnlocked p).port q).out = (s.port q).out := by
  rw [State.port_tellUnlocked]

end

/-- Settles O10: the checks of R184 are read in their order, and past them the configuration writes the named port and, in a handover,
the requesting port before its locks are released. -/
theorem configurePortWrites : Obligations.ConfigurePortWrites := by
  refine ⟨fun k s p role r former h hr h1 h2 h3 h4 hp bad => ?_, fun k s p role r v h hr h4 h0 hp => ?_⟩
  · rw [exec_configurePort h hr h1 h2 h3 h4 hp, configurePort, ConfigurePortArgs.change?_eq_none bad]
    rfl
  obtain ⟨former, hf, noneOf, roleOf⟩ := formerRole?_eq h0 h4
  have command := exec_configurePort_inRange h hr hf h4 hp
  refine ⟨fun own notSup => ?_, fun other sup four => ?_, fun other notTaken notPayout payout full => ?_, fun stays empty => ?_,
    fun other sup notFour empty => ?_⟩
  · rw [command, State.configureCheck_own own notSup]
    rfl
  · rw [command, State.configureCheck_taken other sup (noneOf four)]
    rfl
  · have given : p ≠ k.port → role = .supervisor → former ≠ none := fun _ sup e => by
      obtain ⟨x, hx, -⟩ := roleOf fun four => notTaken ⟨sup, four⟩
      rw [hx] at e; cases e
    have drawer : ((s.hunt k.port).port p).drawerFull = true := by
      rw [Port.drawerFull_hunt]
      exact (Port.drawerFull_iff _).2 ⟨payout, full⟩
    rw [command, State.configureCheck_full (fun e => absurd e other) given drawer notPayout]
    rfl
  · have one : p = k.port → role = .supervisor := fun e => stays.elim And.right fun h => absurd e h.1
    have apart : ¬(p ≠ k.port ∧ role = .supervisor) := fun e => stays.elim (fun h => e.1 h.1) fun h => h.2 e.2
    rw [command, State.configureCheck_passes one (fun hp hs => absurd ⟨hp, hs⟩ apart)
      (by rw [State.hunt_port_role, State.hunt_port_drawer]; exact empty), Option.elim, State.configurePort_named apart,
      State.named, Port.withRole, Port.drawerFor, State.hunt_port_role, State.hunt_port_drawer]
    rfl
  · obtain ⟨x, rfl, code⟩ := roleOf notFour
    subst sup
    have done : exec (.configurePort k) s = .next ((s.afterHandover k.port p r x).replied k (.success [])) := by
      rw [command, State.configureCheck_passes (fun _ => rfl) (fun _ _ => Option.some_ne_none x)
        (by rw [State.hunt_port_role, State.hunt_port_drawer]; exact fun e _ => empty e), Option.elim,
        State.configurePort_handover other rfl rfl]
      rfl
    have mine : ((s.afterHandover k.port p r x).replied k (.success [])).port k.port =
        { (s.tellUnlocked k.port).port k.port with
          receiver := .hunting, role := x
          drawer := if v = 3 then some { balance := 0, paidToday := 0 } else none
          out := (s.port k.port).out ++ [.reply { tag := k.tag, answer := .success [] }] } := by
      rw [State.port_reply, if_pos rfl, State.port_afterHandover_requester hr, code, ← s.tellUnlocked_out k.port k.port]
    have others : ∀ q, q ≠ k.port → ((s.afterHandover k.port p r x).replied k (.success [])).port q =
        (s.afterHandover k.port p r x).port q := fun q hq => by rw [State.port_reply, if_neg (Ne.symm hq)]
    refine ⟨_, done, by rw [mine, code], ?_, by rw [mine], fun q h1 h2 => ?_, fun q => ?_, fun v => ?_, ?_⟩
    · rw [others p other, State.port_afterHandover_named other]
    · rw [others q h2, State.port_afterHandover_other h1 h2]
    · by_cases h1 : q = p
      · subst h1
        rw [others q other, State.port_afterHandover_named other, if_pos rfl]
      · rw [if_neg h1]
        by_cases h2 : q = k.port
        · subst h2
          rw [mine, ← s.tellUnlocked_defaultPrinter k.port k.port]
        · rw [others q h2, State.port_afterHandover_other h1 h2, s.tellUnlocked_defaultPrinter]
    · rw [State.printer_reply, State.printer_afterHandover]
    · have frame : s.afterHandover k.port p r x = _ := State.afterHandover_eq
      generalize s.afterHandover k.port p r x = t at frame ⊢
      rw [frame]
      rfl

end Sys2Proof.Machine
end

section
/-! The attention queues (chapter 10): an entry offered to a port (R188, R190), and SUBSCRIBE, RELEASE ATTENTION, READ ATTENTION and
CLEAR OVERFLOW (R189, R192 to R194). -/

namespace Sys2Proof.Machine

/-! ### An entry offered to a port (R188, R190) -/

/-- Two entries are SCALE entries of one channel. -/
theorem Entry.sameScale_iff {a b : Entry} :
    a.sameScale b = true ↔ ∃ c st z st' z', a.event = .scale c st z ∧ b.event = .scale c st' z' := by
  unfold Entry.sameScale
  split
  next c st z d st' z' ha hb => simp [ha, hb, eq_comm]
  next unlike =>
    refine iff_of_false Bool.false_ne_true ?_
    rintro ⟨c, st, z, st', z', ha, hb⟩
    exact unlike c st z c st' z' ha hb

/-- The entries that a SCALE entry is brought together with: those of its channel. -/
theorem Entry.sameScale_of_scale {a x : Entry} {c : ChannelId} {st : ChannelState} {z : Bool} (h : a.event = .scale c st z) :
    a.sameScale x = match x.event with
      | .scale d _ _ => decide (d = c)
      | _ => false := by
  unfold Entry.sameScale
  rw [h]
  cases x.event with
  | scale d st' z' => exact decide_eq_decide.2 eq_comm
  | _ => rfl

section
variable {q : Port} {e : Entry}

theorem Port.offer_unsubscribed (h : q.subscription.getLsbD e.event.kind.code = false) : q.offer e = q := by
  simp [Port.offer, h]

variable (h : q.subscription.getLsbD e.event.kind.code = true)
include h

/-- An entry is brought up to date in its place. -/
theorem Port.offer_merged (queued : ∃ x ∈ q.attention, e.sameScale x = true) :
    q.offer e = { q with attention := q.attention.map fun x => if e.sameScale x then e else x } := by
  rw [Port.offer, if_pos h, Port.enqueueAttention, if_pos (List.any_eq_true.2 queued)]

section
variable (new : ∀ x ∈ q.attention, e.sameScale x ≠ true)
include new

theorem Port.offer_appended (room : q.attention.length < 16) : q.offer e = { q with attention := q.attention ++ [e] } := by
  rw [Port.offer, if_pos h, Port.enqueueAttention, if_neg (by simpa using new)]
  exact if_pos room

theorem Port.offer_discarded (full : 16 ≤ q.attention.length) : q.offer e = { q with overflow := true } := by
  rw [Port.offer, if_pos h, Port.enqueueAttention, if_neg (by simpa using new)]
  exact if_neg full.not_gt

end

end

/-- Settles O53: a port that subscribes merges an entry of a SCALE channel it holds, and appends or discards every other. -/
theorem eventsAreOffered : Obligations.EventsAreOffered := by
  intro s e p entry q
  have offered : (s.raise e).port p = q.offer entry := s.port_raise e p
  rw [offered]
  refine ⟨fun h => Port.offer_unsubscribed h, fun h => ⟨?merged, fun apart => ?other⟩, rfl, rfl, rfl, rfl, rfl⟩
  case merged =>
    rintro c st z scale ⟨x, hx, st', z', hxe⟩
    rw [Port.offer_merged h ⟨x, hx, Entry.sameScale_iff.2 ⟨c, st, z, st', z', scale, hxe⟩⟩]
    congr 1
    refine List.map_congr_left fun y _ => ?_
    rw [Entry.sameScale_of_scale (a := entry) scale]
    cases y.event with
    | scale d st' z' => simp only [decide_eq_true_eq]
    | _ => rfl
  case other =>
    have new : ∀ x ∈ q.attention, entry.sameScale x ≠ true := fun x hx same => by
      obtain ⟨c, st, z, st', z', scale, hxe⟩ := Entry.sameScale_iff.1 same
      exact apart c st z scale x hx st' z' hxe
    exact ⟨Port.offer_appended h new, Port.offer_discarded h new⟩

/-! ### The attention commands (R189, R192 to R194) -/

/-- A set of Table 10-1's five kinds becomes the port's subscription set, and is echoed. -/
theorem subscribe_eq {set : Nat} (h : set ≤ 31) (port : PortId) (s : State) : subscribe port set s =
    (s.setPort port { s.port port with subscription := BitVec.ofNat 5 set }).finish (numBytes 1 set) :=
  if_neg h.not_gt

/-- A byte that names a sixth kind or more is refused. -/
theorem subscribe_outOfRange {set : Nat} (h : 32 ≤ set) (port : PortId) (s : State) :
    subscribe port set s = s.refuse .range :=
  if_pos h

theorem releaseAttention_eq (on : Bool) (port : PortId) (s : State) : releaseAttention port (if on then 1 else 0) s =
    (s.setPort port { s.port port with release := on }).finish [] := by
  rw [releaseAttention, yesNo?_num]

/-- READ ATTENTION's data: how many entries it returns, the entries, the flag, and how many entries remain. -/
theorem attentionData_eq (q : Port) : attentionData q =
    numBytes 1 (min 4 q.attention.length) ++ (q.attention.take 4).flatMap entryBytes ++ yesNoBytes q.overflow ++
      numBytes 1 (q.attention.length - 4) := by
  rw [attentionData, List.length_take, List.length_drop]

section
variable {k : Packet} {s : State} (h : s.takes k)
include h

theorem exec_subscribe {set : Nat} (hset : set ≤ 255) (hp : k.params = numBytes 1 set) :
    exec (.subscribe k) s = .next (carriedOut k (subscribe k.port set (s.hunt k.port))) :=
  takeCommand_effect (subscribe k.port) h rfl (hp ▸ parseOne_bytes set (by omega))

theorem exec_releaseAttention {on : Bool} (hp : k.params = yesNoBytes on) :
    exec (.releaseAttention k) s = .next (carriedOut k (releaseAttention k.port (if on then 1 else 0) (s.hunt k.port))) :=
  takeCommand_effect (releaseAttention k.port) h rfl (by
    rw [hp, yesNoBytes_eq, parseOne_bytes _ (by split <;> decide)])

theorem exec_readAttention (hp : k.params = []) :
    exec (.readAttention k) s = .next (carriedOut k (readAttention k.port () (s.hunt k.port))) :=
  takeCommand_effect (readAttention k.port) h rfl (by rw [hp]; rfl)

theorem exec_clearOverflow (hp : k.params = []) :
    exec (.clearOverflow k) s = .next (carriedOut k (clearOverflow k.port () (s.hunt k.port))) :=
  takeCommand_effect (clearOverflow k.port) h rfl (by rw [hp]; rfl)

end

/-- Settles O52: each command writes one item of its port, whose other items are those of the HUNTING port. -/
theorem attentionCommands : Obligations.AttentionCommands := by
  intro k s h
  refine ⟨fun set le hp => ?_, fun set ge le hp => ?_, fun on hp => ?_, fun hp => ?_, fun hp => ?_⟩
  · rw [exec_subscribe h (by omega) hp, subscribe_eq le, carriedOut_finish]
  · rw [exec_subscribe h le hp, subscribe_outOfRange ge, carriedOut_refuse]
  · rw [exec_releaseAttention h hp, releaseAttention_eq, carriedOut_finish]
  · rw [exec_readAttention h hp, readAttention, carriedOut_finish, attentionData_eq, State.hunt_port_attention,
      State.hunt_port_overflow]
  · rw [exec_clearOverflow h hp, clearOverflow, carriedOut_finish]

end Sys2Proof.Machine
end

section
/-! Supply, reset line and restart (R107, R196 to R200): the rows that a stopped part does not take, the causes of a restart, what a
warm restart keeps of the store and what a cold start writes, and the part right after reset. -/

namespace Sys2Proof.Machine

/-! ### The part while it takes no events (R196, R197) -/

section
variable {s : State} (h : s.running = false)
include h

theorem State.whileRunning_stopped (f : State → State) : s.whileRunning f = s :=
  if_neg (Bool.eq_false_iff.1 h)

theorem next_whileRunning_stopped (f : State → State) : (.next (s.whileRunning f) : Result) = .next s :=
  congrArg Host.Outcome.next (State.whileRunning_stopped h f)

/-- A packet that reaches a stopped part is lost, whatever it spells. -/
theorem takePacket_stopped (i : Instr) : takePacket i s = .next s := by
  cases i with
  | unknownCommand k code => exact next_whileRunning_stopped h _
  | discardedPacket | frameAbandoned | interByteTimeout | frameSent | attentionHandover | readingFrame | staleExpiry
  | captureTimeout | printerStatusFrame | printerAnswer | answerTimerExpiry | statusTimerExpiry | arbiterTake
  | owedReceiptService | clockAdvance | holdExpiry | powerUp | mainSupplyFail | resetLineAssert | resetLineRelease
  | startByte | batteryFailure => rfl
  | _ => exact takeCommand_not_running _ _ _ _ _ _ h

theorem takeBody_stopped (p : PortId) (body : List Byte) : takeBody p body s = .next s := by
  unfold takeBody
  split_ifs
  · exact next_whileRunning_stopped h _
  · split
    · exact next_whileRunning_stopped h _
    · exact takePacket_stopped h _

theorem execStartByte_stopped (p : PortId) : execStartByte p s = .next s :=
  if_neg (Bool.eq_false_iff.1 h)

end

/-- Settles O3: a packet and a start byte are lost, and every row of the part's own waits for `State.whileRunning`. -/
theorem nothingTakenWhileNotRunning : Obligations.NothingTakenWhileNotRunning := by
  intro c s h hc
  cases c with
  | clockAdvance | powerUp | mainSupplyFail | resetLineAssert | resetLineRelease | batteryFailure => simp at hc
  | unknownCommand k code => exact takePacket_stopped h _
  | discardedPacket p body => exact takeBody_stopped h p body
  | startByte p => exact execStartByte_stopped h p
  | frameAbandoned | interByteTimeout | frameSent | attentionHandover | readingFrame | staleExpiry | captureTimeout
  | printerStatusFrame | printerAnswer | answerTimerExpiry | statusTimerExpiry | arbiterTake | owedReceiptService
  | holdExpiry => exact next_whileRunning_stopped h _
  | _ => exact (exec_eq_takePacket rfl (fun _ _ => Instr.noConfusion) s).trans (takePacket_stopped h _)

/-! ### What restarts the part and what stops it (R196 to R198) -/

/-- The marks of a ticket once cleared stay cleared. -/
@[simp] theorem Ticket.unmarked_unmarked (t : Ticket) : t.unmarked.unmarked = t.unmarked := by
  simp [Ticket.unmarked]

/-- The start of the volatile items changes the marks alone of the tickets (R57). -/
theorem State.volatileStart_unmarked (s : State) :
    s.volatileStart.tickets.map Ticket.unmarked = s.tickets.map Ticket.unmarked := by
  simp [State.volatileStart]

theorem State.running_resetLow {s : State} (h : s.resetHigh = false) : s.running = false := by
  rw [State.running, h, Bool.and_false]

theorem State.running_unsupplied {s : State} (h : s.mainSupply = false) : s.running = false := by
  rw [State.running, h, Bool.false_and]

/-- A store whose signature has failed fails its test. -/
theorem State.storeValid_unsigned {s : State} (h : s.signatureHolds = false) : s.storeValid = false := by
  rw [State.storeValid, h, Bool.false_and]

theorem exec_powerUp (s : State) : exec .powerUp s =
    .next (if s.resetHigh then ({ s with mainSupply := true } : State).restart
      else ({ s with mainSupply := true } : State).volatileStart) := rfl

theorem exec_resetLineRelease (s : State) : exec .resetLineRelease s =
    .next (if s.mainSupply then ({ s with resetHigh := true } : State).restart else { s with resetHigh := true }) := rfl

theorem exec_mainSupplyFail (s : State) : exec .mainSupplyFail s = .next ({ s with mainSupply := false } : State).volatileStart := rfl

theorem exec_batteryFailure (s : State) : exec .batteryFailure s =
    .next (if s.mainSupply then s else { s with signatureHolds := false }) := rfl

/-- SYSTEM RESET restarts the part and leaves no reply (R197). -/
theorem exec_systemReset {k : Packet} {s : State} (h : s.takes k) (hr : (s.port k.port).role = .supervisor) (hp : k.params = []) :
    exec (.systemReset k) s = .next (s.hunt k.port).restart :=
  takeCommand_effect systemReset h (decide_eq_true hr) (by rw [hp]; rfl)

/-- Settles O12. -/
theorem restartCauses : Obligations.RestartCauses := by
  refine ⟨fun s h => ?_, fun s h => ?_, fun k s => exec_systemReset, fun s => ⟨rfl, State.running_resetLow rfl⟩, fun s => ?_,
    fun s h => ?_, fun s h => ?_, fun s h => ?_, fun s h => ?_, fun s h => ?_, fun s h => ?_⟩
  · rw [exec_powerUp, h]; rfl
  · rw [exec_resetLineRelease, h]; rfl
  · exact ⟨_, exec_mainSupplyFail s, State.running_unsupplied rfl, rfl, rfl, rfl, State.volatileStart_unmarked _,
      rfl, rfl, rfl, rfl, rfl, rfl⟩
  · refine ⟨{ s with signatureHolds := false }, ?_, State.storeValid_unsigned rfl, h⟩
    rw [exec_batteryFailure, h]; rfl
  · rw [exec_batteryFailure, h]; rfl
  · rw [exec_powerUp, h]; rfl
  · rw [exec_resetLineRelease, h]; rfl
  · rw [State.restart, h]; rfl
  · rw [State.restart, h]; rfl

/-! ### The store after a warm restart (R57, R113, R199) -/

/-- The tickets after a warm restart: unmarked, and PAYABLE when their release time has come. -/
theorem State.warmStart_tickets {s : State} (hn : (s.tickets.map Ticket.number).Nodup) : s.warmStart.tickets =
    s.tickets.map fun t => { t.unmarked with state := if t.due s.clock then .payable else t.state } := by
  have distinct : (s.volatileStart.tickets.map Ticket.number).Nodup := by
    rw [State.volatileStart, List.map_map]
    exact hn
  calc s.warmStart.tickets = s.holdsPassed.tickets := by rw [State.warmStart_eq]
    _ = s.volatileStart.tickets.map fun t => if t.due s.clock then { t with state := .payable } else t := by
      rw [State.holdsPassed, State.releaseDue_table distinct]
      rfl
    _ = s.tickets.map fun t => { t.unmarked with state := if t.due s.clock then .payable else t.state } := by
      rw [State.volatileStart, List.map_map]
      refine List.map_congr_left fun t _ => ?_
      have due : t.unmarked.due s.clock = t.due s.clock := rfl
      rw [Function.comp_apply, due]
      split_ifs <;> rfl

/-- Settles O13: neither the volatile start, the releases nor the service writes a retained item beside the tickets. -/
theorem warmRestartKeepsTheStore : Obligations.WarmRestartKeepsTheStore := by
  intro s hn
  refine ⟨State.warmStart_tickets hn, ?_, ?_, ?_, ?_, ?_, ?_, ?_, ?_, ?_, ?_, ?_, ?_, ?_, ?_, fun p => ?port, fun c => ?channel⟩
  case port => rw [State.port_warmStart]; exact ⟨rfl, rfl, rfl⟩
  case channel => rw [State.channel_warmStart]; exact ⟨rfl, rfl, rfl⟩
  all_goals rw [State.warmStart_eq]; rfl

/-! ### The store after a cold start (R199) -/

/-- A cold start gives the part right after reset but for what no start writes: the queue, the supply, the reset line, and the timebase
with the timers that run on it. -/
theorem State.coldStart_eq (s : State) : s.coldStart = { State.reset with
    pending := s.pending, mainSupply := s.mainSupply, resetHigh := s.resetHigh, timebase := s.timebase, clockDue := s.clockDue
    printers := Vector.replicate 2 (Printer.start s.timebase) } := by
  have ports : mapItems Port.restarted coldPorts = coldPorts := by decide
  have channels : mapItems Channel.restarted (Vector.replicate 4 Channel.cold) = Vector.replicate 4 Channel.cold := by decide
  rw [State.coldStart, State.volatileStart, State.coldRetained, ports, channels]
  rfl

theorem State.channel_reset : ∀ c, State.reset.channel c = Channel.cold := by decide

/-- Only P2, the PAYOUT port, holds a drawer after reset (Table 9-13, R128). -/
theorem State.drawer_reset : ∀ p, p ≠ 2 → (State.reset.port p).drawer = none := by decide

/-- Settles O14: every item is that of the part right after reset. -/
theorem coldStartSetsTheDefaults : Obligations.ColdStartSetsTheDefaults := by
  intro s
  rw [State.coldStart_eq]
  refine ⟨rfl, rfl, rfl, rfl, rfl, rfl, rfl, rfl, rfl, rfl, rfl, rfl, rfl, rfl, fun i => ?_, fun i => ?_, rfl, rfl, rfl, rfl, rfl, rfl,
    fun i => ?_, ⟨rfl, rfl, rfl, rfl⟩, ⟨rfl, rfl, rfl, rfl⟩, rfl, State.drawer_reset, fun c => ?_⟩
  · exact Vector.getElem_replicate _
  · exact Vector.getElem_replicate _
  · exact Vector.getElem_replicate _
  · have cold := State.channel_reset c
    exact ⟨congrArg Channel.config cold, congrArg Channel.zero cold, congrArg Channel.calZero cold⟩

/-! ### The part right after reset (R199, Table 11-2) -/

/-- A part without waiting captures and commands in progress, whose output queues are empty. -/
theorem State.capturesStand_of_idle {s : State} (slot : ∀ c, (s.channel c).slot = none) (busy : ∀ p, (s.port p).busy = none)
    (out : ∀ p, (s.port p).out = []) : s.capturesStand :=
  ⟨by simp [slot], by simp [slot], by simp [busy], by simp [out]⟩

/-- A table without tickets fits a part without waiting captures. -/
theorem State.ticketsStand_of_empty {s : State} (names : s.distinctNames) (tickets : s.tickets = [])
    (slot : ∀ c, (s.channel c).slot = none) : s.ticketsStand :=
  ⟨names, ⟨by simp [slot], by simp [slot]⟩, by simp [State.marksHeld, tickets], by simp [tickets]⟩

theorem State.slot_reset (c : ChannelId) : (State.reset.channel c).slot = none := by rw [State.channel_reset]; rfl

/-- Every queue of a port is empty after reset, and no command is in progress. -/
theorem State.port_reset_idle : ∀ p, (State.reset.port p).busy = none ∧ (State.reset.port p).out = [] ∧
    (State.reset.port p).attention = [] := by decide

theorem State.withinLimits_reset : State.reset.withinLimits := by
  refine ⟨Nat.zero_le _, Nat.zero_le _, Nat.zero_le _, Nat.zero_le _, fun p => ?_⟩
  rw [(State.port_reset_idle p).2.2]
  exact Nat.zero_le _

theorem State.distinctNames_reset : State.reset.distinctNames :=
  ⟨Nat.zero_le _, List.nodup_nil, List.forall_mem_nil _, ⟨le_rfl, by decide⟩, List.nodup_nil⟩

theorem State.stampsStand_reset : State.reset.stampsStand :=
  ⟨State.distinctNames_reset, ⟨le_rfl, by decide⟩, List.nodup_nil, List.forall_mem_nil _⟩

/-- Settles O60. -/
theorem resetMeetsTheInvariants : Obligations.ResetMeetsTheInvariants :=
  ⟨State.withinLimits_reset, State.distinctNames_reset, State.rolesStand_reset, (State.inRange_iff _).2 Ledger.reset_inRange,
    State.poolStands_of_empty rfl rfl,
    State.capturesStand_of_idle State.slot_reset (fun p => (State.port_reset_idle p).1) (fun p => (State.port_reset_idle p).2.1),
    State.ticketsStand_of_empty State.distinctNames_reset rfl State.slot_reset, State.stampsStand_reset⟩

end Sys2Proof.Machine
end

section
/-! SUPPORT. The queue of waiting commands (log 24), which no operation of the part changes. -/

namespace Sys2Proof.Machine

/-! ### Operations done in turn, or on a test -/

theorem State.pending_foldl {α : Type} {f : State → α → State} (h : ∀ (s : State) x, (f s x).pending = s.pending) (l : List α)
    (s : State) : (l.foldl f s).pending = s.pending := by
  induction l generalizing s with
  | nil => rfl
  | cons x xs ih => exact (ih _).trans (h s x)

theorem State.pending_ite {s t : State} (b : Bool) (h : t.pending = s.pending) : (if b then t else s).pending = s.pending := by
  cases b
  · rfl
  · exact h

theorem State.pending_whileRunning {f : State → State} (s : State) (h : ∀ t : State, (f t).pending = t.pending) :
    (s.whileRunning f).pending = s.pending := State.pending_ite _ (h s)

/-! ### The ticket table and the captures (R17, R20, R23, R110) -/

@[simp] theorem State.pending_moveTicket (s : State) (t : Ticket) : (s.moveTicket t).pending = s.pending := rfl

@[simp] theorem State.pending_setMark (s : State) (owner : CaptureOwner) (m : Option Side) : (s.setMark owner m).pending = s.pending := by
  rw [State.setMark_eq]

@[simp] theorem State.pending_releaseDue (s : State) (ts : List Ticket) : (s.releaseDue ts).pending = s.pending := by
  rw [State.releaseDue_eq]

@[simp] theorem State.pending_freeSlot (s : State) (c : ChannelId) : (s.freeSlot c).pending = s.pending := by
  rw [State.freeSlot_eq]

@[simp] theorem State.pending_endCapture (s : State) (c : ChannelId) (a : Answer) : (s.endCapture c a).pending = s.pending := by
  rw [State.endCapture_eq]

@[simp] theorem State.pending_cancelTicketCaptures (s : State) (n : Nat) : (s.cancelTicketCaptures n).pending = s.pending := by
  rw [State.cancelTicketCaptures_eq]

@[simp] theorem State.pending_cancelLineCapture (s : State) (n k : Nat) : (s.cancelLineCapture n k).pending = s.pending := by
  rw [State.cancelLineCapture, State.endCaptures_eq]

@[simp] theorem State.pending_completeCapture (s : State) (owner : CaptureOwner) (c : ChannelId) (r : Reading) :
    (s.completeCapture owner c r).1.pending = s.pending := by
  rw [State.completeCapture_eq]

@[simp] theorem State.pending_completeWaiting (s : State) (c : ChannelId) : (s.completeWaiting c).pending = s.pending := by
  unfold State.completeWaiting
  split <;> simp

theorem State.pending_requestCapture (s : State) (c : ChannelId) (owner : CaptureOwner) (mark : Option Side) (k : Packet) :
    (s.requestCapture c owner mark k).1.pending = s.pending := by
  unfold State.requestCapture
  split
  · rfl
  · split
    · exact s.pending_completeCapture owner c _
    · exact s.pending_setMark owner mark

/-! ### The scale channels (R6 to R8, R21) -/

@[simp] theorem State.pending_changeChannel (s : State) (c : ChannelId) (x : Channel) : (s.changeChannel c x).pending = s.pending := by
  rw [State.changeChannel_eq]

theorem State.pending_arrive (s : State) (c : ChannelId) (raw : Int) (high : Bool) : (s.arrive c raw high).pending = s.pending := by
  unfold State.arrive
  dsimp only
  split_ifs <;> simp

theorem State.pending_headFault (s : State) (c : ChannelId) : (s.headFault c).pending = s.pending := by simp [State.headFault]

theorem State.pending_expireStale (s : State) (c : ChannelId) : (s.expireStale c).pending = s.pending := by
  unfold State.expireStale
  split <;> simp

theorem State.pending_expireCapture (s : State) (c : ChannelId) : (s.expireCapture c).pending = s.pending := by
  unfold State.expireCapture
  split <;> simp

/-! ### The pool and the owed receipts (R54, R133 to R157) -/

/-- What an operation of the pool changes is no part of the queue. -/
theorem State.PoolStep.pending {s t : State} (h : s.PoolStep t) : t.pending = s.pending := by rw [h.1]

@[simp] theorem State.pending_setLock (s : State) (r : PrinterId) (l : Lock) : (s.setLock r l).pending = s.pending :=
  (s.poolStep_setLock r l).pending
@[simp] theorem State.pending_settleLock (s : State) (r : PrinterId) : (s.settleLock r).pending = s.pending :=
  (s.poolStep_settleLock r).pending
@[simp] theorem State.pending_releaseLocks (s : State) (p : PortId) : (s.releaseLocks p).pending = s.pending :=
  (s.poolStep_releaseLocks p).pending
@[simp] theorem State.pending_leavePool (s : State) (j : Job) (o : JobOutcome) : (s.leavePool j o).pending = s.pending :=
  (s.poolStep_leavePool j o).pending
@[simp] theorem State.pending_cancelOne (s : State) (j : Job) : (s.cancelOne j).pending = s.pending := (s.poolStep_cancelOne j).pending
@[simp] theorem State.pending_cancelWhere (s : State) (p : Job → Bool) : (s.cancelWhere p).pending = s.pending :=
  (s.poolStep_cancelWhere p).pending
@[simp] theorem State.pending_requeue (s : State) (j : Job) : (s.requeue j).pending = s.pending := (s.poolStep_requeue j).pending
@[simp] theorem State.pending_sendEnd (s : State) (r : PrinterId) : (s.sendEnd r).pending = s.pending := rfl
@[simp] theorem State.pending_sendAwaited (s : State) (r : PrinterId) (f : PrinterFrame) (job : Nat) :
    (s.sendAwaited r f job).pending = s.pending := rfl
@[simp] theorem State.pending_sendLine (s : State) (j : Job) : (s.sendLine j).pending = s.pending := rfl
@[simp] theorem State.pending_raisePrinter (s : State) (r : PrinterId) : (s.raisePrinter r).pending = s.pending := rfl
@[simp] theorem State.pending_clearAwaited (s : State) (r : PrinterId) : (s.clearAwaited r).pending = s.pending := rfl

@[simp] theorem State.pending_retireIfDone (s : State) (n : Nat) : (s.retireIfDone n).pending = s.pending := by
  unfold State.retireIfDone
  split
  · rfl
  · rename_i t _
    exact State.pending_ite _ (by rw [(s.voidStep_retire t).frame])

@[simp] theorem State.pending_advanceStamp (s : State) : s.advanceStamp.pending = s.pending := by
  unfold State.advanceStamp
  split_ifs <;> rfl

@[simp] theorem State.pending_owe (s : State) (t : Ticket) (kind : TicketReceipt) (p : PortId) : (s.owe t kind p).pending = s.pending :=
  State.pending_advanceStamp _

@[simp] theorem State.pending_runService (s : State) : s.runService.pending = s.pending := by rw [State.runService_eq]

/-! ### The print engine (R130 to R149) -/

@[simp] theorem State.pending_abortJob (s : State) (j : Job) : (s.abortJob j).pending = s.pending := by
  unfold State.abortJob
  dsimp only
  rw [State.pending_settleLock]
  split <;> simp

@[simp] theorem State.pending_printerFault (s : State) (r : PrinterId) : (s.printerFault r).pending = s.pending := by
  unfold State.printerFault
  split
  · rfl
  · split <;> simp

@[simp] theorem State.pending_setStatus (s : State) (r : PrinterId) (v : PrinterStatus) : (s.setStatus r v).pending = s.pending := by
  unfold State.setStatus
  dsimp only
  split_ifs <;> simp

theorem State.pending_statusReport (s : State) (r : PrinterId) (v : PrinterReport) : (s.statusReport r v).pending = s.pending :=
  State.pending_setStatus _ r _

@[simp] theorem State.pending_oweVoidNotice (s : State) (t : Ticket) : (s.oweVoidNotice t).pending = s.pending := by
  unfold State.oweVoidNotice
  split <;> simp

@[simp] theorem State.pending_ticketPrinted (s : State) (n : Nat) (kind : TicketReceipt) (stamp : Nat) :
    (s.ticketPrinted n kind stamp).pending = s.pending := by
  unfold State.ticketPrinted
  split
  · rfl
  · dsimp only
    rw [State.pending_retireIfDone]
    split_ifs <;> simp

@[simp] theorem State.pending_reportPrinted (s : State) (stamp : Nat) : (s.reportPrinted stamp).pending = s.pending := by
  unfold State.reportPrinted
  split
  · rfl
  · split
    · rfl
    · split_ifs <;> rfl

@[simp] theorem State.pending_sourceEffects (s : State) (j : Job) : (s.sourceEffects j).pending = s.pending := by
  unfold State.sourceEffects
  split <;> simp

@[simp] theorem State.pending_finishJob (s : State) (j : Job) : (s.finishJob j).pending = s.pending := by simp [State.finishJob]

@[simp] theorem State.pending_setStarted (s : State) (j : Job) : (s.setStarted j).pending = s.pending := by rw [State.setStarted_frame]

@[simp] theorem State.pending_lineAccepted (s : State) (j : Job) : (s.lineAccepted j).pending = s.pending := by
  unfold State.lineAccepted
  dsimp only
  split_ifs <;> simp

@[simp] theorem State.pending_answerUsable (s : State) (r : PrinterId) (f : PrinterFrame) (accepted : Bool) :
    (s.answerUsable r f accepted).pending = s.pending := by
  unfold State.answerUsable
  split
  · rfl
  · split
    · simp [State.startPrinting]
    · split_ifs <;> simp
    · rfl

@[simp] theorem State.pending_answerReport (s : State) (r : PrinterId) (a : PrinterAnswer) : (s.answerReport r a).pending = s.pending := by
  cases a with
  | accepted => rfl
  | report v => exact s.pending_statusReport r v

theorem State.pending_answer (s : State) (r : PrinterId) (a : PrinterAnswer) : (s.answer r a).pending = s.pending := by
  unfold State.answer
  split
  · simp
  · dsimp only
    split_ifs <;> simp

theorem State.pending_expireAnswer (s : State) (r : PrinterId) : (s.expireAnswer r).pending = s.pending := by
  unfold State.expireAnswer
  split
  · rfl
  · dsimp only
    split_ifs <;> simp

theorem State.pending_expireStatus (s : State) (r : PrinterId) : (s.expireStatus r).pending = s.pending := by
  unfold State.expireStatus
  split <;> simp

theorem State.pending_arbiterTake (s : State) (r : PrinterId) : (s.arbiterTake r).pending = s.pending := by
  unfold State.arbiterTake
  split <;> rfl

/-! ### The station lines, the clock, and the restarts (R107, R110, R175, R197 to R199) -/

theorem State.pending_expireFrame (s : State) (p : PortId) : (s.expireFrame p).pending = s.pending := by
  unfold State.expireFrame
  split <;> rfl

theorem State.pending_clockAdvance (s : State) : s.clockAdvance.pending = s.pending :=
  State.pending_whileRunning s.advanceClock fun t => t.pending_releaseDue t.tickets

theorem State.pending_expireHold (s : State) (n : Nat) : (s.expireHold n).pending = s.pending := by
  unfold State.expireHold
  split
  · rfl
  · split
    · rfl
    · split_ifs <;> simp

/-- A restart starts what Table 11-2 names, and a cold start the retained items too: the queue is neither. -/
theorem State.pending_restart (s : State) : s.restart.pending = s.pending := by
  unfold State.restart
  split_ifs
  · rw [State.warmStart_eq]; rfl
  · rw [State.coldStart_eq]

end Sys2Proof.Machine
end

section
/-! SUPPORT. The effect of every command of a station on the queue of waiting commands: none (log 24). -/

namespace Sys2Proof.Machine

/-! ### Requests in general (R32) -/

theorem State.pending_withTicket (s : State) (inRange : Bool) (n : Nat) (allowed : TicketState → Bool) (run : Ticket → Effect)
    (h : ∀ t, (run t).1.pending = s.pending) : (s.withTicket inRange n allowed run).1.pending = s.pending :=
  s.withTicket_induct (P := fun e => e.1.pending = s.pending) _ _ _ _ (fun _ => rfl) fun t _ => h t

theorem State.pending_withLine (s : State) (inRange : Bool) (n k : Nat) (allowed : TicketState → Bool) (run : Ticket → Line → Effect)
    (h : ∀ t ln, (run t ln).1.pending = s.pending) : (s.withLine inRange n k allowed run).1.pending = s.pending :=
  s.withLine_induct (P := fun e => e.1.pending = s.pending) _ _ _ _ _ (fun _ => rfl) fun t ln _ => h t ln

/-! ### Captures, scales and tares (chapters 1 and 3) -/

theorem pending_capture (k : Packet) (a : CaptureArgs) (s : State) : (capture k a s).1.pending = s.pending := by
  unfold capture
  split
  · refine s.pending_withLine _ _ _ _ _ fun t ln => ?_
    split
    · rfl
    · exact s.pending_requestCapture _ _ _ k
  · rfl

theorem pending_storeTare (k : Packet) (a : PlateByteArgs) (s : State) : (storeTare k a s).1.pending = s.pending := by
  unfold storeTare
  split
  · dsimp only
    split_ifs
    · rfl
    · exact s.pending_requestCapture _ _ _ k
  · rfl

theorem pending_dropTare (plate : Text) (s : State) : (dropTare plate s).1.pending = s.pending := by
  unfold dropTare
  split_ifs
  · split <;> rfl
  · rfl

theorem pending_readTare (a : PlateByteArgs) (s : State) : (readTare a s).1.pending = s.pending := by
  unfold readTare
  split_ifs
  · rfl
  · rfl
  · rfl
  · split <;> rfl

theorem pending_useStoredTare (a : TicketLineArgs) (s : State) : (useStoredTare a s).1.pending = s.pending := by
  refine s.pending_withLine _ _ _ _ _ fun t ln => ?_
  split
  · rfl
  · split
    · rfl
    · split_ifs <;> rfl

theorem pending_configureScale (a : ConfigureScaleArgs) (s : State) : (configureScale a s).1.pending = s.pending := by
  unfold configureScale
  split
  · split_ifs
    · rfl
    · rfl
    · exact s.pending_changeChannel _ _
  · rfl

theorem pending_zeroScale (channel : Nat) (s : State) : (zeroScale channel s).1.pending = s.pending := by
  unfold zeroScale
  split
  · rfl
  · dsimp only
    split
    · rfl
    split
    · rfl
    split
    · rfl
    split
    · rfl
    split_ifs
    · rfl
    · rfl
    · exact s.pending_changeChannel _ _

theorem pending_readScale (channel : Nat) (s : State) : (readScale channel s).1.pending = s.pending := by
  unfold readScale
  split <;> rfl

/-! ### Tickets (chapter 2) -/

theorem pending_openTicket (port : PortId) (a : OpenTicketArgs) (s : State) : (openTicket port a s).1.pending = s.pending := by
  unfold openTicket
  split
  · rfl
  · dsimp only
    split_ifs <;> rfl

theorem pending_addLine (a : AddLineArgs) (s : State) : (addLine a s).1.pending = s.pending := by
  refine s.pending_withTicket _ _ _ _ fun t => ?_
  split_ifs <;> rfl

@[simp] theorem State.pending_removeLine (s : State) (n k : Nat) : (s.removeLine n k).pending = s.pending := by
  unfold State.removeLine
  split <;> rfl

theorem pending_removeLine (a : TicketLineArgs) (s : State) : (removeLine a s).1.pending = s.pending :=
  s.pending_withLine _ _ _ _ _ fun _ _ => (State.pending_removeLine _ _ _).trans (State.pending_ite _ (s.pending_cancelLineCapture _ _))

theorem pending_setDeduction (a : SetDeductionArgs) (s : State) : (setDeduction a s).1.pending = s.pending :=
  s.pending_withLine _ _ _ _ _ fun _ _ => rfl

theorem pending_keyWeight (a : KeyWeightArgs) (s : State) : (keyWeight a s).1.pending = s.pending := by
  unfold keyWeight
  split
  · rfl
  · refine s.pending_withLine _ _ _ _ _ fun t ln => ?_
    split_ifs <;> rfl

theorem pending_acceptMargin (n : Nat) (s : State) : (acceptMargin n s).1.pending = s.pending :=
  s.pending_withTicket _ _ _ _ fun _ => rfl

@[simp] theorem State.pending_oweNoticeAtVoid (s : State) (n : Nat) (port : PortId) : (s.oweNoticeAtVoid n port).pending = s.pending := by
  unfold State.oweNoticeAtVoid
  split
  · rfl
  · exact State.pending_ite _ (s.pending_owe _ _ _)

@[simp] theorem State.pending_withdrawAtVoid (s : State) (t : Ticket) : (s.withdrawAtVoid t).pending = s.pending := by
  rw [(s.voidStep_withdrawAtVoid t).frame]

theorem State.pending_voidTicket (s : State) (n : Nat) (port : PortId) (reason : Nat) : (s.voidTicket n port reason).pending = s.pending := by
  unfold State.voidTicket
  dsimp only
  split <;> simp

theorem pending_voidTicket (port : PortId) (a : TicketByteArgs) (s : State) : (voidTicket port a s).1.pending = s.pending := by
  refine s.pending_withTicket _ _ _ _ fun t => ?_
  split_ifs
  · rfl
  · exact s.pending_voidTicket _ _ _

theorem pending_reopenTicket (n : Nat) (s : State) : (reopenTicket n s).1.pending = s.pending := by
  refine s.pending_withTicket _ _ _ _ fun t => ?_
  split_ifs
  · rfl
  · exact (State.pending_cancelWhere _ _).trans (s.poolStep_withdrawAtReopen t).pending

theorem pending_readTicket (a : TicketByteArgs) (s : State) : (readTicket a s).1.pending = s.pending := by
  refine s.pending_withTicket _ _ _ _ fun t => ?_
  split_ifs
  · rfl
  · split <;> rfl

theorem pending_listTickets (place : Nat) (s : State) : (listTickets place s).1.pending = s.pending := by
  unfold listTickets
  split_ifs <;> rfl

/-! ### Prices and settlement (chapters 4 and 5) -/

theorem pending_editRule (a : EditRuleArgs) (s : State) : (editRule a s).1.pending = s.pending := by
  unfold editRule
  split <;> rfl

theorem pending_commitPrices (x : Unit) (s : State) : (commitPrices x s).1.pending = s.pending := by
  unfold commitPrices
  split <;> rfl

theorem pending_discardPrices (x : Unit) (s : State) : (discardPrices x s).1.pending = s.pending := by
  unfold discardPrices
  split <;> rfl

theorem pending_readRule (a : TwoByteArgs) (s : State) : (readRule a s).1.pending = s.pending := by
  unfold readRule
  split
  · split <;> rfl
  · rfl

theorem pending_closeTicket (port : PortId) (a : TicketByteArgs) (s : State) : (closeTicket port a s).1.pending = s.pending := by
  refine s.pending_withTicket _ _ _ _ fun t => ?_
  split
  · rfl
  · dsimp only
    split_ifs <;> simp

/-! ### Payout and the day (chapters 6 and 8) -/

theorem pending_setClock (time : ClockTime) (s : State) : (setClock time s).1.pending = s.pending := by
  unfold setClock
  split_ifs
  · exact State.pending_releaseDue { s with clock := time } _
  · rfl

theorem pending_releaseHold (n : Nat) (s : State) : (releaseHold n s).1.pending = s.pending :=
  s.pending_withTicket _ _ _ _ fun _ => rfl

theorem pending_floatDrawer (port : PortId) (a : DrawerArgs) (s : State) : (floatDrawer port a s).1.pending = s.pending := by
  unfold floatDrawer
  split
  · split_ifs
    · rfl
    · split
      · rfl
      · split_ifs <;> rfl
  · rfl

theorem pending_liftDrawer (a : DrawerArgs) (s : State) : (liftDrawer a s).1.pending = s.pending := by
  unfold liftDrawer
  split
  · split
    · rfl
    · split_ifs <;> rfl
  · rfl

theorem pending_readDrawer (port : PortId) (named : Nat) (s : State) : (readDrawer port named s).1.pending = s.pending := by
  unfold readDrawer
  split
  · rfl
  · split_ifs
    · rfl
    · split <;> rfl

theorem State.pending_payTicket (s : State) (t : Ticket) (port : PortId) (method : PayMethod) (amount : Nat) (rounding : Int)
    (hit : Bool) : (s.payTicket t port method amount rounding hit).pending = s.pending := by
  rw [State.payTicket_eq, State.pending_advanceStamp, (State.poolStep_paysOut _ _ _ _ _ _ _).pending]
  rfl

theorem State.pending_payCash (s : State) (port : PortId) (t : Ticket) (total : Nat) : (s.payCash port t total).1.pending = s.pending := by
  unfold State.payCash
  split
  · rfl
  · dsimp only
    split_ifs
    · rfl
    · rfl
    · exact State.pending_payTicket _ _ _ _ _ _ _

theorem pending_pay (port : PortId) (a : TicketByteArgs) (s : State) : (pay port a s).1.pending = s.pending := by
  unfold pay
  split
  · split
    · rfl
    · split_ifs
      · rfl
      · rfl
      · split
        · exact s.pending_payCash _ _ _
        · exact s.pending_payTicket _ _ _ _ _ _
  · rfl

theorem pending_readTotals (a : TwoByteArgs) (s : State) : (readTotals a s).1.pending = s.pending := by
  unfold readTotals
  split
  · rfl
  · split_ifs
    · rfl
    · split
      · rfl
      · split <;> rfl

theorem pending_endDay (port : PortId) (printer : Nat) (s : State) : (endDay port printer s).1.pending = s.pending := by
  unfold endDay
  split
  · rfl
  · split_ifs
    · rfl
    · exact State.pending_advanceStamp _

/-! ### Printers and copies (chapter 7) -/

theorem pending_lockPrinter (port : PortId) (printer : Nat) (s : State) : (lockPrinter port printer s).1.pending = s.pending := by
  unfold lockPrinter
  split
  · rfl
  · split
    · rfl
    · rfl
    · split
      · exact s.pending_setLock _ _
      · split_ifs
        · exact s.pending_setLock _ _
        · split <;> simp

theorem pending_unlockPrinter (printer : Nat) (s : State) : (unlockPrinter printer s).1.pending = s.pending := by
  unfold unlockPrinter
  split
  · rfl
  · split <;> simp

theorem pending_cancelJob (port : PortId) (id : Nat) (s : State) : (cancelJob port id s).1.pending = s.pending := by
  unfold cancelJob
  split_ifs
  · rfl
  · split
    · rfl
    · split
      · rfl
      · split
        · rfl
        · rfl
        · split <;> simp

theorem pending_printCopy (port : PortId) (a : TicketByteArgs) (s : State) : (printCopy port a s).1.pending = s.pending := by
  unfold printCopy
  split
  · split
    · rfl
    · split_ifs <;> rfl
  · rfl

theorem pending_setHeader (a : SetHeaderArgs) (s : State) : (setHeader a s).1.pending = s.pending := by
  unfold setHeader
  split
  · split_ifs <;> rfl
  · rfl

theorem pending_readPrinter (printer : Nat) (s : State) : (readPrinter printer s).1.pending = s.pending := by
  unfold readPrinter
  split <;> rfl

/-! ### The part as a whole (chapters 9, 10 and 11) -/

theorem pending_portReset (port : PortId) (x : Unit) (s : State) : (portReset port x s).1.pending = s.pending := by
  rw [portReset, State.finish_eq, State.portReset_eq]

theorem pending_configurePort (port : PortId) (a : ConfigurePortArgs) (s : State) : (configurePort port a s).1.pending = s.pending := by
  have configured : ∀ x, (s.configurePort port x).pending = s.pending := fun x => by
    unfold State.configurePort
    dsimp only
    split
    · rfl
    · split_ifs <;> simp
  unfold configurePort
  split
  · rfl
  · split
    · rfl
    · exact configured _

theorem pending_setOption (a : SetOptionArgs) (s : State) : (setOption a s).1.pending = s.pending := by
  unfold setOption
  split
  · rfl
  · split <;> rfl

theorem pending_subscribe (port : PortId) (set : Nat) (s : State) : (subscribe port set s).1.pending = s.pending := by
  unfold subscribe
  split_ifs <;> rfl

theorem pending_releaseAttention (port : PortId) (value : Nat) (s : State) : (releaseAttention port value s).1.pending = s.pending := by
  unfold releaseAttention
  split <;> rfl

end Sys2Proof.Machine
end

section
/-! The rows and the queue of waiting commands (log 24): each row answers a next state and leaves the queue, and a step takes the command at
its front. -/

namespace Sys2Proof.Machine

/-! ### Packets -/

/-- The outcome of a row taken in a state is a next state, whose queue of waiting commands is that state's. -/
def State.QueueStays (s : State) (r : Result) : Prop := ∃ t, r = .next t ∧ t.pending = s.pending

theorem State.queueStays_next {s t : State} (h : t.pending = s.pending) : s.QueueStays (.next t) := ⟨t, rfl, h⟩

/-- An operation done only while the part takes events. -/
theorem State.queueStays_whileRunning {f : State → State} (s : State) (h : ∀ t : State, (f t).pending = t.pending) :
    s.QueueStays (.next (s.whileRunning f)) := State.queueStays_next (s.pending_whileRunning h)

/-- A packet admitted or answered by Table 9-10 leaves the queue when its command's effect does. -/
theorem State.pending_passPacket {α : Type} (s : State) (k : Packet) (bypass : Bool) (allowed : Role → Bool)
    (parse : List Byte → Option α) {run : α → State → Effect} (h : ∀ a (u : State), (run a u).1.pending = u.pending) :
    (s.passPacket k bypass allowed parse run).pending = s.pending := by
  unfold State.passPacket
  split
  · rfl
  split
  · rfl
  split
  · rename_i a _ _
    have effect := h a s
    split
    · rename_i he
      rw [he] at effect
      exact effect
    · rename_i he
      rw [he] at effect
      exact effect
  · rfl

theorem takeCommand_queueStays {α : Type} {bypass : Bool} {allowed : Role → Bool} {parse : List Byte → Option α}
    {run : α → State → Effect} (h : ∀ a (u : State), (run a u).1.pending = u.pending) (k : Packet) (s : State) :
    s.QueueStays (takeCommand bypass allowed parse run k s) := by
  refine s.queueStays_whileRunning fun u => ?_
  split_ifs
  · rfl
  · rfl
  · exact (u.hunt k.port).pending_passPacket k bypass allowed parse h

theorem takeUnknown_queueStays (k : Packet) (s : State) : s.QueueStays (takeUnknown k s) := by
  refine s.queueStays_whileRunning fun u => ?_
  split_ifs
  · rfl
  · rfl
  · unfold State.answerUnknown
    split_ifs <;> rfl

theorem takePacket_queueStays (i : Instr) (s : State) : s.QueueStays (takePacket i s) := by
  cases i with
  | readStatus k => exact takeCommand_queueStays (run := readStatus k.port) (fun _ _ => rfl) k s
  | portReset k => exact takeCommand_queueStays (pending_portReset k.port) k s
  | configurePort k => exact takeCommand_queueStays (pending_configurePort k.port) k s
  | setOption k => exact takeCommand_queueStays pending_setOption k s
  | clearFault k => exact takeCommand_queueStays (run := clearFault) (fun _ _ => rfl) k s
  | systemReset k => exact takeCommand_queueStays (run := systemReset) (fun _ u => u.pending_restart) k s
  | configureScale k => exact takeCommand_queueStays pending_configureScale k s
  | zero k => exact takeCommand_queueStays pending_zeroScale k s
  | readScale k => exact takeCommand_queueStays pending_readScale k s
  | openTicket k => exact takeCommand_queueStays (pending_openTicket k.port) k s
  | addLine k => exact takeCommand_queueStays pending_addLine k s
  | removeLine k => exact takeCommand_queueStays pending_removeLine k s
  | setDeduction k => exact takeCommand_queueStays pending_setDeduction k s
  | keyWeight k => exact takeCommand_queueStays pending_keyWeight k s
  | acceptMargin k => exact takeCommand_queueStays pending_acceptMargin k s
  | capture k => exact takeCommand_queueStays (pending_capture k) k s
  | voidTicket k => exact takeCommand_queueStays (pending_voidTicket k.port) k s
  | reopenTicket k => exact takeCommand_queueStays pending_reopenTicket k s
  | readTicket k => exact takeCommand_queueStays pending_readTicket k s
  | listTickets k => exact takeCommand_queueStays pending_listTickets k s
  | storeTare k => exact takeCommand_queueStays (pending_storeTare k) k s
  | dropTare k => exact takeCommand_queueStays pending_dropTare k s
  | readTare k => exact takeCommand_queueStays pending_readTare k s
  | useStoredTare k => exact takeCommand_queueStays pending_useStoredTare k s
  | editRule k => exact takeCommand_queueStays pending_editRule k s
  | commitPrices k => exact takeCommand_queueStays pending_commitPrices k s
  | discardPrices k => exact takeCommand_queueStays pending_discardPrices k s
  | readRule k => exact takeCommand_queueStays pending_readRule k s
  | closeTicket k => exact takeCommand_queueStays (pending_closeTicket k.port) k s
  | setClock k => exact takeCommand_queueStays pending_setClock k s
  | releaseHold k => exact takeCommand_queueStays pending_releaseHold k s
  | float k => exact takeCommand_queueStays (pending_floatDrawer k.port) k s
  | lift k => exact takeCommand_queueStays pending_liftDrawer k s
  | readDrawer k => exact takeCommand_queueStays (pending_readDrawer k.port) k s
  | pay k => exact takeCommand_queueStays (pending_pay k.port) k s
  | lockPrinter k => exact takeCommand_queueStays (pending_lockPrinter k.port) k s
  | unlockPrinter k => exact takeCommand_queueStays pending_unlockPrinter k s
  | cancelJob k => exact takeCommand_queueStays (pending_cancelJob k.port) k s
  | printCopy k => exact takeCommand_queueStays (pending_printCopy k.port) k s
  | setHeader k => exact takeCommand_queueStays pending_setHeader k s
  | readPrinter k => exact takeCommand_queueStays pending_readPrinter k s
  | readTotals k => exact takeCommand_queueStays pending_readTotals k s
  | endDay k => exact takeCommand_queueStays (pending_endDay k.port) k s
  | subscribe k => exact takeCommand_queueStays (pending_subscribe k.port) k s
  | releaseAttention k => exact takeCommand_queueStays (pending_releaseAttention k.port) k s
  | readAttention k => exact takeCommand_queueStays (run := readAttention k.port) (fun _ _ => rfl) k s
  | clearOverflow k => exact takeCommand_queueStays (run := clearOverflow k.port) (fun _ _ => rfl) k s
  | unknownCommand k code => exact takeUnknown_queueStays k s
  | discardedPacket | frameAbandoned | interByteTimeout | frameSent | attentionHandover | readingFrame | staleExpiry
  | captureTimeout | printerStatusFrame | printerAnswer | answerTimerExpiry | statusTimerExpiry | arbiterTake
  | owedReceiptService | clockAdvance | holdExpiry | powerUp | mainSupplyFail | resetLineAssert | resetLineRelease
  | startByte | batteryFailure => exact State.queueStays_next rfl

theorem takeBody_queueStays (p : PortId) (body : List Byte) (s : State) : s.QueueStays (takeBody p body s) := by
  have hunted : s.QueueStays (.next (s.whileRunning fun s => s.hunt p)) := s.queueStays_whileRunning fun u => u.hunt_pending p
  unfold takeBody
  split_ifs
  · exact hunted
  · split
    · exact hunted
    · exact takePacket_queueStays _ s

/-- A byte of the value of the start byte: more of a frame, the end of one that is abandoned, or the end of a whole one (R175). -/
theorem takeStartByte_queueStays (p : PortId) (s : State) : s.QueueStays (takeStartByte p s) := by
  unfold takeStartByte
  dsimp only
  split
  · exact State.queueStays_next rfl
  · split
    · exact State.queueStays_next rfl
    · exact State.queueStays_next rfl
    · exact takeBody_queueStays p _ s

/-! ### Rows -/

/-- A reading frame is discarded, arrives at its channel, or is a fault of its head (R1, R6, R7). -/
theorem execReadingFrame_queueStays (c : ChannelId) (raw : Int) (status : HeadStatus) (checkHolds : Bool) (s : State) :
    s.QueueStays (execReadingFrame c raw status checkHolds s) := by
  refine s.queueStays_whileRunning fun u => ?_
  split_ifs
  · rfl
  · cases status with
    | ok => exact u.pending_arrive c raw false
    | overrange => exact u.pending_arrive c raw true
    | fault => exact u.pending_headFault c
    | other => rfl

theorem exec_queueStays (i : Instr) (s : State) : s.QueueStays (exec i s) := by
  cases i with
  | unknownCommand k code => exact takePacket_queueStays _ s
  | discardedPacket p body => exact takeBody_queueStays p body s
  | frameAbandoned p cause => exact s.queueStays_whileRunning fun u => u.hunt_pending p
  | interByteTimeout p => exact s.queueStays_whileRunning fun u => u.pending_expireFrame p
  | frameSent p => exact s.queueStays_whileRunning fun _ => rfl
  | attentionHandover p => exact s.queueStays_whileRunning fun _ => rfl
  | readingFrame c raw status ok => exact execReadingFrame_queueStays c raw status ok s
  | staleExpiry c => exact s.queueStays_whileRunning fun u => u.pending_expireStale c
  | captureTimeout c => exact s.queueStays_whileRunning fun u => u.pending_expireCapture c
  | printerStatusFrame r v ok => exact s.queueStays_whileRunning fun u => State.pending_ite ok (u.pending_statusReport r v)
  | printerAnswer r a ok => exact s.queueStays_whileRunning fun u => State.pending_ite ok (u.pending_answer r a)
  | answerTimerExpiry r => exact s.queueStays_whileRunning fun u => u.pending_expireAnswer r
  | statusTimerExpiry r => exact s.queueStays_whileRunning fun u => u.pending_expireStatus r
  | arbiterTake r => exact s.queueStays_whileRunning fun u => u.pending_arbiterTake r
  | owedReceiptService => exact s.queueStays_whileRunning State.pending_runService
  | clockAdvance => exact State.queueStays_next s.pending_clockAdvance
  | holdExpiry n => exact s.queueStays_whileRunning fun u => u.pending_expireHold n
  | powerUp =>
    refine State.queueStays_next ?_
    split
    · exact State.pending_restart { s with mainSupply := true }
    · rfl
  | mainSupplyFail => exact State.queueStays_next rfl
  | resetLineAssert => exact State.queueStays_next rfl
  | resetLineRelease => exact State.queueStays_next (State.pending_ite _ (State.pending_restart { s with resetHigh := true }))
  | startByte p =>
    change s.QueueStays (if s.running then takeStartByte p s else .next s)
    split
    · exact takeStartByte_queueStays p s
    · exact State.queueStays_next rfl
  | batteryFailure =>
    refine State.queueStays_next ?_
    split <;> rfl
  | readStatus | portReset | configurePort | setOption | clearFault | systemReset | configureScale | zero | readScale
  | openTicket | addLine | removeLine | setDeduction | keyWeight | acceptMargin | capture | voidTicket | reopenTicket
  | readTicket | listTickets | storeTare | dropTare | readTare | useStoredTare | editRule | commitPrices | discardPrices
  | readRule | closeTicket | setClock | releaseHold | float | lift | readDrawer | pay | lockPrinter | unlockPrinter
  | cancelJob | printCopy | setHeader | readPrinter | readTotals | endDay | subscribe | releaseAttention | readAttention
  | clearOverflow =>
    rw [exec_eq_takePacket rfl (fun _ _ => Instr.noConfusion)]
    exact takePacket_queueStays _ s

/-- Settles O2, row by row. -/
theorem rowsLeaveTheQueue : Obligations.RowsLeaveTheQueue := exec_queueStays

/-- Settles O1: it is the equation of `step` on a queue that is not empty. -/
theorem stepTakesTheFrontCommand : Obligations.StepTakesTheFrontCommand := fun c rest s => step_of_pending s c rest

end Sys2Proof.Machine
end
